-- ==== Sys2Proof/Word.lean ====
section
/-! DEFINITION. The byte type of the master links and the plainest arithmetic on it. -/

namespace Sys2Proof

/-- One byte of a master link. -/
abbrev Byte := BitVec 8

/-- A flag as the links carry it: 00h clear, 01h set (R191). -/
def boolByte (b : Bool) : Byte := if b then 1 else 0

/-- One byte of a value that fits it. -/
def be8 (n : Nat) : List Byte := [BitVec.ofNat 8 n]

/-- Two bytes, high byte first (R191). -/
def be16 (n : Nat) : List Byte := [BitVec.ofNat 8 (n / 256), BitVec.ofNat 8 n]

/-- Three bytes, high byte first (R191). -/
def be24 (n : Nat) : List Byte :=
  [BitVec.ofNat 8 (n / 65536), BitVec.ofNat 8 (n / 256), BitVec.ofNat 8 n]

end Sys2Proof
end

