-- ==== Sys2Proof/Config.lean ====
section
/-! DEFINITION. The constants the manual fixes for the WNT-6408. It leaves no result value undefined, so there is no
free value here. -/

namespace Sys2Proof.Config

/-- Highest position (00_scope, Positions; R4). -/
def maxPosition : Nat := 16000000
/-- Most entries the index holds (R56). -/
def maxEntries : Nat := 16384
/-- Highest frame number a request may name (R63, R193). -/
def maxFrame : Nat := 16383
/-- Entries in a segment (R65). -/
def segmentSize : Nat := 256
/-- Number of segments (R65). -/
def segments : Nat := 64
/-- Highest lens step (R74). -/
def maxStep : Nat := 4095
/-- Steps after which a homing fails (R76). -/
def homingSteps : Nat := 4500
/-- Most focus map points and the least distance between two (R79, R80). -/
def mapPoints : Nat := 32
/-- Least distance between two map points (R80). -/
def mapSpacing : Nat := 500
/-- Most armed triggers (R98). -/
def armedMax : Nat := 16
/-- Most records in the capture ring (R104). -/
def ringMax : Nat := 31
/-- Slots of the ring (R104). -/
def ringSlots : Nat := 32
/-- Most frames in a revisit list (R112). -/
def revisitMax : Nat := 64
/-- Most splice spans (R46). -/
def spliceMax : Nat := 64
/-- Travel after which a forward leader search fails (R17, R21). -/
def searchLimit : Nat := 200000
/-- Distance of the recorded roll end behind TAIL_SEEN (R14). -/
def tailOffset : Nat := 1000
/-- Absorbed counts a stay at a limit may reach before EXACT becomes DRIFTED (R4). -/
def tallyLimit : Nat := 8
/-- Job slots (R134), and open jobs of one link (R135). -/
def jobSlots : Nat := 6
/-- Open jobs of one link (R135). -/
def jobsPerLink : Nat := 2
/-- Frames an input buffer holds (R175). -/
def bufferFrames : Nat := 2
/-- Fires and misses after which a run yields (R124). -/
def yieldFrames : Nat := 64
/-- Skip count from which an entry is aged (R121) and its ceiling (R117). -/
def agedSkip : Nat := 8
/-- Ceiling of a skip count (R121). -/
def maxSkip : Nat := 15
/-- Highest counter of an address (R39). -/
def maxCounter : Nat := 65535

/-- Start byte of a link frame (9.2), HOLD and RESUME (R192). -/
def startByte : Byte := 0xA5
/-- HOLD control byte (R192). -/
def holdByte : Byte := 0x5C
/-- RESUME control byte (R192). -/
def resumeByte : Byte := 0x5D

end Sys2Proof.Config
end

