-- ==== Sys2Proof/Syntax.lean ====
section
/-! DEFINITION. The commands of the WNT-6408: one constructor of `Instr` for each row of spec/opcode_table.json. -/

namespace Sys2Proof

/-- LINK A, LINK B and LINK C. -/
inductive LinkId where
  | a | b | c
  deriving DecidableEq, Repr

/-- Direction of film travel; forward increases the position. -/
inductive Direction where
  | forward | reverse
  deriving DecidableEq, Repr

/-- The two tension sensors. -/
inductive Side where
  | supply | takeUp
  deriving DecidableEq, Repr

/-- What a tension sensor reports. -/
inductive TensionReading where
  | inBand | low | breakLow | high
  deriving DecidableEq, Repr

/-- What the camera answers to a trigger. -/
inductive CameraAnswer where
  | done | fail
  | metric (value : BitVec 16)
  deriving DecidableEq, Repr

/-- One byte of a receive line: good, or bad (received with a framing error, R174). -/
inductive RxByte where
  | good (b : Byte)
  | bad
  deriving DecidableEq, Repr

/-- The input levels of the machine side that have no encoding of their own on a link. -/
structure Levels where
  filmPresent : Bool
  stop        : Bool
  protectKey  : Bool
  cameraReady : Bool
  homeSwitch  : Bool
  deriving DecidableEq, Repr

/-- A target field as it stands in a request: type code and three two-byte value words (R194). -/
structure TargetField where
  code : Byte
  w0   : BitVec 16
  w1   : BitVec 16
  w2   : BitVec 16
  deriving DecidableEq, Repr

/-- The 44-byte profile record as SET_PROFILE carries it (R199). -/
structure ProfileRecord where
  filmWidth         : BitVec 8
  pitchNominal      : BitVec 16
  pitchMin          : BitVec 16
  pitchMax          : BitVec 16
  imageMin          : BitVec 16
  imageMax          : BitVec 16
  markMin           : BitVec 16
  mark12            : BitVec 16
  mark23            : BitVec 16
  markMax           : BitVec 16
  startBatch        : BitVec 16
  startDocument     : BitVec 16
  startPage         : BitVec 16
  axisOffset        : BitVec 16
  slipTol           : BitVec 8
  rescanLimit       : BitVec 8
  spliceFocusOffset : BitVec 16
  defaultFocus      : BitVec 16
  focusReach        : BitVec 24
  metricFloor       : BitVec 16
  captureSpeed      : BitVec 8
  answerLimit       : BitVec 16
  holdTime          : BitVec 16
  readAhead         : BitVec 8
  deriving DecidableEq, Repr

/-- The commands. A request row stands for the arrival, whole and with a good check, of the request's frame on a
link, with the master's tag and the parameter fields at their width on the line (R192, R193). `lv` on a row is the
machine-side levels as they stand then (log 2). -/
inductive Instr where
  | powerOnReset (lv : Levels)
  | getStatus (l : LinkId) (tag : Byte) (lv : Levels)
  | getProfile (l : LinkId) (tag : Byte)
  | setProfile (l : LinkId) (tag : Byte) (r : ProfileRecord)
  | getEntries (l : LinkId) (tag : Byte) (n : BitVec 16) (count : Byte)
  | findAddress (l : LinkId) (tag : Byte) (b d p : BitVec 16)
  | getFocusMap (l : LinkId) (tag : Byte)
  | setFocusPoint (l : LinkId) (tag : Byte) (position : BitVec 24) (lensStep : BitVec 16)
  | clearFocusMap (l : LinkId) (tag : Byte)
  | verifySegment (l : LinkId) (tag : Byte) (seg : Byte)
  | unverifySegment (l : LinkId) (tag : Byte) (seg : Byte) (lv : Levels)
  | truncateIndex (l : LinkId) (tag : Byte) (n : BitVec 16) (lv : Levels)
  | setNoticeMask (l : LinkId) (tag : Byte) (mask : Byte)
  | clearFault (l : LinkId) (tag : Byte) (lv : Levels)
  | cancelJob (l : LinkId) (tag : Byte) (job : Byte)
  | getJob (l : LinkId) (tag : Byte) (job : Byte)
  | loadRoll (l : LinkId) (tag : Byte) (lv : Levels)
  | unloadRoll (l : LinkId) (tag : Byte)
  | seekFrame (l : LinkId) (tag : Byte) (flags : Byte) (target : TargetField)
  | fetch (l : LinkId) (tag : Byte) (flags : Byte) (items : List TargetField)
  | sweep (l : LinkId) (tag : Byte) (flags : Byte) (fromT toT : TargetField)
  | indexTo (l : LinkId) (tag : Byte) (flags : Byte) (target : TargetField)
  | unknownRequest (l : LinkId) (tag : Byte) (kind : Byte) (rest : List Byte)
  | hold (l : LinkId)
  | resume (l : LinkId)
  | frameReceived (l : LinkId) (body : List Byte) (check : BitVec 16)
  | strayByte (l : LinkId) (b : RxByte)
  | linkBreak (l : LinkId)
  | linkBreakEnd (l : LinkId)
  | transmissionEnd (l : LinkId)
  | capstanCount (d : Direction)
  | capstanStall
  | moveComplete
  | tensionChange (side : Side) (r : TensionReading)
  | tensionLimitExpiry
  | tensionPersistExpiry (side : Side)
  | threadLimitExpiry
  | holdTimerExpiry
  | leaderSearchLimit
  | leaderEdge
  | tailSeen
  | filmPresentClear
  | stopRise
  | lowEdge
  | highEdge
  | markOn
  | markOff
  | spliceOn
  | spliceOff
  | homeSwitchSet
  | lensStep (leaves : Bool)
  | homingLimit
  | lensStall
  | cameraAnswer (ans : CameraAnswer)
  | cameraReadyRise
  | cameraReadyFall
  | answerLimitExpiry
  | cameraWaitExpiry
  | trialWaitExpiry
  deriving DecidableEq, Repr

end Sys2Proof
end

