-- ==== Sys2Proof/WellFormed.lean ====
section
/-! DEFINITION. Which commands a master can put on a line at all: the checks on list operands. Every other operand is
carried at its width on the line, so any value of it is one a master may send (a value out of the range of R193 is
answered INVALID, which is part of the command's meaning). -/

namespace Sys2Proof

/-- The request kinds of R192. -/
def requestKinds : List Byte :=
  [0x01, 0x02, 0x03, 0x04, 0x05, 0x06, 0x07, 0x08, 0x09, 0x0A, 0x0B, 0x0C, 0x0D, 0x0E, 0x0F,
   0x30, 0x31, 0x32, 0x33, 0x34, 0x35]

/-- A command a master can send: FETCH carries at most as many items as a body of 250 bytes holds (R193), an unknown
request has a kind that is no request kind and a body of at most 250 bytes (R176), and a received frame has a body
of 2 to 250 bytes (9.2). -/
def Instr.wellFormed : Instr → Bool
  | .fetch _ _ _ items => items.length ≤ 35
  | .unknownRequest _ _ kind rest => !requestKinds.contains kind && rest.length ≤ 248
  | .frameReceived _ body _ => 2 ≤ body.length && body.length ≤ 250
  | _ => true

end Sys2Proof
end

