-- ==== Sys2Proof/Decode.lean ====
section
/-! DEFINITION. The word decoder. No row of spec/opcode_table.json gives bits, so no word spells a command. The bodies
of link frames are read in Machine/Codec.lean. -/

namespace Sys2Proof

/-- The command that the low `nbits` bits of a word spell by the table's bits: the table gives no row any bits, so
none. -/
def decodeTableWord (_nbits _w : Nat) : Option Instr := none

end Sys2Proof
end

