-- ==== Sys2Proof/Machine/Crc.lean ====
section
/-! DEFINITION. The 16-bit check of a link frame (R173). -/

namespace Sys2Proof.Machine

/-- One bit into the check register (R173). -/
def crcBit (reg : BitVec 16) (b : Bool) : BitVec 16 :=
  if reg.msb != b then (reg <<< 1) ^^^ 0x1021#16 else reg <<< 1

/-- The bits of a byte, most significant first. -/
def byteBits (b : Byte) : List Bool :=
  [b.getLsbD 7, b.getLsbD 6, b.getLsbD 5, b.getLsbD 4, b.getLsbD 3, b.getLsbD 2, b.getLsbD 1, b.getLsbD 0]

/-- One byte into the check register (R173). -/
def crcByte (reg : BitVec 16) (b : Byte) : BitVec 16 := (byteBits b).foldl crcBit reg

/-- The check over a list of bytes (R173). -/
def crc (bs : List Byte) : BitVec 16 := bs.foldl crcByte 0xFFFF#16

/-- The check of a body: over the length byte and the body (R173). -/
def bodyCheck (body : List Byte) : BitVec 16 := crc (BitVec.ofNat 8 body.length :: body)

/-- The two check bytes, high byte first. -/
def checkBytes (c : BitVec 16) : List Byte := [c.extractLsb' 8 8, c.extractLsb' 0 8]

/-- The frame that carries a body (9.2). -/
def frameOf (body : List Byte) : List Byte :=
  Config.startByte :: BitVec.ofNat 8 body.length :: (body ++ checkBytes (bodyCheck body))

end Sys2Proof.Machine
end

