-- ==== Sys2Proof/Machine/State.lean ====
section
/-! DEFINITION. The state of the WNT-6408: every register, table, list, timer and flag the manual names, the input
levels, and the queue of commands that wait. -/

namespace Sys2Proof.Machine

/-! ### Values shared by several blocks -/

/-- A frame address, batch.document.page (00_scope, Frame addresses). -/
structure Address where
  batch    : Nat
  document : Nat
  page     : Nat
  deriving DecidableEq, Repr

/-- A resolved target field (R194): what a SEEK, an item, a bound of a SWEEP or an INDEX_TO names. -/
inductive Target where
  | frame (n : Nat)
  | address (a : Address)
  | rollEnd
  deriving DecidableEq, Repr

/-- The fault causes of 8.1. -/
inductive Cause where
  | filmBreak | capstanStall | tensionRange | lensFault | operatorStop
  deriving DecidableEq, Repr

/-- Who asked for a motion (R117). -/
inductive Requester where
  | job (n : Nat)
  | tracker | transport | arbiter
  deriving DecidableEq, Repr

/-- How a move ended (R10). -/
inductive MoveOutcome where
  | reached | clamped | rollEnd | stopped
  deriving DecidableEq, Repr

/-- Why a frame was MISSED (R101, R109). -/
inductive MissReason where
  | cameraBusy | ringFull | lensLate
  deriving DecidableEq, Repr

/-- The maskable notice kinds (R181). -/
inductive NoticeKind where
  | fault | rollState | indexProgress | dispute
  deriving DecidableEq, Repr

/-- One flag for each maskable notice kind: the mask (set: masked) and the pending flags of a link (9.1). -/
structure NoticeFlags where
  fault         : Bool := false
  rollState     : Bool := false
  indexProgress : Bool := false
  dispute       : Bool := false
  deriving DecidableEq, Repr

/-! ### Roll and transport (chapter 1) -/

/-- The format profile (1.2, R2, R199). -/
structure Profile where
  filmWidth         : Nat := 16
  pitchNominal      : Nat := 2400
  pitchMin          : Nat := 1600
  pitchMax          : Nat := 3600
  imageMin          : Nat := 1200
  imageMax          : Nat := 3400
  markMin           : Nat := 60
  mark12            : Nat := 300
  mark23            : Nat := 600
  markMax           : Nat := 1200
  startAddress      : Address := ⟨1, 1, 1⟩
  axisOffset        : Nat := 6000
  slipTol           : Nat := 40
  rescanLimit       : Nat := 2
  spliceFocusOffset : Int := 0
  defaultFocus      : Nat := 2048
  focusReach        : Nat := 40000
  metricFloor       : Nat := 2000
  captureSpeed      : Nat := 60
  answerLimit       : Nat := 250
  holdTime          : Nat := 120
  readAhead         : Bool := true
  deriving DecidableEq, Repr

/-- transport_state (1.4). -/
inductive TransportState where
  | empty | threading | referencing | ready | moving | tensioning | resting | rewinding | halted
  deriving DecidableEq, Repr

/-- Reference quality (R5). -/
inductive Reference where
  | exact | drifted | lost
  deriving DecidableEq, Repr

/-- Tension state (1.6). -/
inductive Tension where
  | slack | taut
  deriving DecidableEq, Repr

/-- Speed classes (R6). -/
inductive SpeedClass where
  | seek | scan | capture | creep | rewind
  deriving DecidableEq, Repr

/-- Purpose of a move record (R6). -/
inductive Purpose where
  | seek | run | scan | creep | rewind | reference
  deriving DecidableEq, Repr

/-- A move record held by the transport (R6) with the marks the rules put on it. Its requester is that of the
arbiter's current entry. -/
structure MoveRecord where
  /-- clamped target (R6); a REFERENCE record carries none -/
  target        : Nat
  speed         : SpeedClass
  purpose       : Purpose
  stopAtTrigger : Bool
  /-- the target was clamped (R6) -/
  clamped       : Bool
  /-- the target was replaced at TAIL_SEEN (R14) -/
  retargeted    : Bool
  /-- a stop was asked (R9) -/
  stopping      : Bool
  deriving DecidableEq, Repr

/-- What the drives are commanded to do (R8, R23). -/
structure Drive where
  dir      : Direction
  speed    : SpeedClass
  /-- counts per ms of the CAPTURE class, read when the run started or the throttle last changed (R3, R107) -/
  capture  : Nat
  /-- held at SCAN from start to end, the reference being LOST over a table of splices (R8) -/
  heldScan : Bool
  deriving DecidableEq, Repr

/-- Phase of a reference search (R17, R18, R21). -/
inductive SearchPhase where
  /-- rewinding until LEADER_EDGE with reverse travel -/
  | reverse
  /-- LEADER_EDGE taken in reverse, coming to rest -/
  | turning
  /-- creeping forward until LEADER_EDGE -/
  | forward
  /-- LEADER_EDGE taken forward, coming to rest -/
  | arriving
  deriving DecidableEq, Repr

/-- A reference search under way, with the forward travel from its start (R17). -/
structure LeaderSearch where
  phase  : SearchPhase
  travel : Nat
  deriving DecidableEq, Repr

/-- The roll job the transport carries out (R15, R20). -/
inductive RollKind where
  | load | unload
  deriving DecidableEq, Repr

/-- The transport controller and the roll record. -/
structure Transport where
  state          : TransportState
  reference      : Reference
  position       : Nat
  absorbed       : Nat
  rollEnd        : Option Nat
  tailLimit      : Option Nat
  broken         : Bool
  leaderMissing  : Bool
  profile        : Profile
  tension        : Tension
  holdTimer      : Option Nat
  move           : Option MoveRecord
  drive          : Option Drive
  travel         : Direction
  search         : Option LeaderSearch
  roll           : Option RollKind
  /-- a cancelled LOAD or UNLOAD is bringing the film to rest (R19) -/
  cancelling     : Bool
  tensionLimit   : Bool
  threadLimit    : Bool
  stallLimit     : Bool
  persistSupply  : Bool
  persistTakeUp  : Bool
  /-- the halt in force began in EMPTY (R22) -/
  haltedEmpty    : Bool
  deriving DecidableEq, Repr

/-! ### Frame index (chapter 3) -/

/-- The flags of an entry (R54). -/
structure EntryFlags where
  noMark         : Bool := false
  multiMark      : Bool := false
  markLong       : Bool := false
  markDispute    : Bool := false
  pitchOdd       : Bool := false
  pitchClamp     : Bool := false
  gapBefore      : Bool := false
  splice         : Bool := false
  spliceUnlisted : Bool := false
  noise          : Bool := false
  overlong       : Bool := false
  rescanned      : Bool := false
  focusWeak      : Bool := false
  deriving DecidableEq, Repr

/-- capture_state of an entry (R54). -/
inductive CaptureState where
  | none | captured | missed | failed
  deriving DecidableEq, Repr

/-- An index entry (R54). gap_length and missing are 0 without GAP_BEFORE, as their wire form is (R198). -/
structure Entry where
  low           : Nat
  high          : Nat
  address       : Address
  markLevel     : Nat
  flags         : EntryFlags
  gapLength     : Nat
  missing       : Nat
  captureState  : CaptureState
  captureCount  : Nat
  lastFocusStep : Option Nat
  deriving DecidableEq, Repr

/-- Index state (R58). -/
inductive IndexState where
  | empty | growing | complete | frozenFull | frozenAddress
  deriving DecidableEq, Repr

/-- A segment record (R65). -/
structure Segment where
  verified   : Bool := false
  link       : Option LinkId := none
  verifiedAt : Nat := 0
  deriving DecidableEq, Repr

/-- last_dispute (R69): frame, recorded level, observed level. -/
structure Dispute where
  frame    : Nat
  recorded : Nat
  observed : Nat
  deriving DecidableEq, Repr

/-- The frame index. -/
structure Index where
  /-- the entry table; a frame number is an entry's place in it (R54) -/
  entries      : List Entry
  frontier     : Nat
  state        : IndexState
  segments     : List Segment
  disputeCount : Nat
  lastDispute  : Option Dispute
  deriving DecidableEq, Repr

/-! ### Frame tracker (chapter 2) -/

/-- Tracker mode (R28). -/
inductive TrackerMode where
  | idle | verifying | indexing
  deriving DecidableEq, Repr

/-- Opening kind of a candidate (2.1). -/
inductive Opening where
  | first | inWindow | short | gap
  deriving DecidableEq, Repr

/-- A mark counted for a frame: its level and whether it was longer than mark_max (R37). -/
structure Mark where
  level : Nat
  long  : Bool
  deriving DecidableEq, Repr

/-- A frame candidate (2.1). -/
structure Candidate where
  low          : Nat
  high         : Option Nat
  opening      : Opening
  gapLength    : Nat
  missing      : Nat
  flags        : EntryFlags
  marks        : List Mark
  estimateDone : Bool
  deriving DecidableEq, Repr

/-- A parked opening (2.1): a discarded candidate without high edge and marks. -/
structure Parked where
  low          : Nat
  opening      : Opening
  gapLength    : Nat
  missing      : Nat
  flags        : EntryFlags
  estimateDone : Bool
  deriving DecidableEq, Repr

/-- A rescan record (2.1, R42). The reverse target E_last - W may lie below 0 and is clamped by R6. -/
structure Rescan where
  origin        : Nat
  predicted     : Nat
  window        : Nat
  reverseTarget : Nat
  forwardTarget : Nat
  deriving DecidableEq, Repr

/-- A span of the splice table (R45, R46). -/
structure Span where
  start  : Nat
  finish : Nat
  deriving DecidableEq, Repr

/-- An entry whose marks are being gathered, with the marks (R52). -/
structure Gather where
  frame : Nat
  marks : List Mark
  deriving DecidableEq, Repr

/-- The frame tracker. -/
structure Tracker where
  mode           : TrackerMode
  p16            : Nat
  eLast          : Option Nat
  candidate      : Option Candidate
  parked         : Option Parked
  /-- miss_state is ACCEPTED -/
  missAccepted   : Bool
  budget         : Nat
  rescan         : Option Rescan
  counters       : Option Address
  pendingNoise   : Bool
  pendingSplice  : Bool
  openMark       : Option Nat
  openSplice     : Option Nat
  unmatchedRun   : Nat
  splices        : List Span
  /-- the position at which the pass under way began (R50) -/
  passStart      : Nat
  /-- the entries matched in the pass and not yet passed (R50) -/
  matched        : List Nat
  /-- a LOW_EDGE was taken unmatched since the last match (R50) -/
  edgeUnmatched  : Bool
  /-- the entries whose marks are being gathered in the pass (R52) -/
  gathering      : List Gather
  /-- IDLE until the move stopped for a rescan has stopped (R42) -/
  heldIdle       : Bool
  /-- the last frame was committed at low + pitch_max (R33 step 5, R36) -/
  lastByPitchMax : Bool
  deriving DecidableEq, Repr

/-! ### Focus controller (chapter 4) -/

/-- lens_state (4.2). -/
inductive LensState where
  | unhomed | homing | idle | slewing | searching | faulted
  deriving DecidableEq, Repr

/-- Source of a map point (4.3). -/
inductive PointSource where
  | search | master
  deriving DecidableEq, Repr

/-- A point of the focus map (R79). -/
structure MapPoint where
  position : Nat
  lens     : Nat
  source   : PointSource
  deriving DecidableEq, Repr

/-- A slew entry (R85, R86). -/
structure SlewEntry where
  frame  : Nat
  mid    : Nat
  target : Option Nat
  deriving DecidableEq, Repr

/-- A trial of a focus search (4.6). -/
structure Trial where
  lens     : Nat
  metric   : Nat
  answered : Bool
  deriving DecidableEq, Repr

/-- Phase of a focus search (4.6). -/
inductive FocusPhase where
  | coarse | extension | fine
  deriving DecidableEq, Repr

/-- Where the trial under way stands (R89). -/
inductive TrialStage where
  /-- the lens steps to the trial step -/
  | stepping
  /-- waiting for a READY handshake, with the wait limit it was loaded with -/
  | waiting (limit : Nat)
  /-- its TRIAL trigger is fired -/
  | fired
  deriving DecidableEq, Repr

/-- The search record (4.6). The head of `steps` is the trial under way. -/
structure FocusSearch where
  frame         : Nat
  mid           : Nat
  start         : Nat
  job           : Nat
  phase         : FocusPhase
  trials        : List Trial
  steps         : List Nat
  extensionDone : Bool
  stage         : TrialStage
  deriving DecidableEq, Repr

/-- The result record (R84, R91). -/
structure FocusResult where
  frame : Nat
  lens  : Nat
  deriving DecidableEq, Repr

/-- The focus controller. -/
structure Focus where
  state     : LensState
  lens      : Option Nat
  recal     : Bool
  homeCount : Nat
  map       : List MapPoint
  slew      : List SlewEntry
  search    : Option FocusSearch
  result    : Option FocusResult
  deriving DecidableEq, Repr

/-! ### Capture sequencer (chapter 5) -/

/-- The camera handshake (5.2). -/
inductive Handshake where
  | ready | waitAnswer | notReady
  deriving DecidableEq, Repr

/-- Mode of an armed trigger (5.1). -/
inductive TriggerMode where
  | run | stationary
  deriving DecidableEq, Repr

/-- Capture kind (R104). -/
inductive CaptureKind where
  | run | stationary | revisit
  deriving DecidableEq, Repr

/-- An armed trigger (5.1). -/
structure Armed where
  frame : Nat
  t     : Nat
  mode  : TriggerMode
  kind  : CaptureKind
  job   : Nat
  item  : Option Nat
  deriving DecidableEq, Repr

/-- What a fired CAPTURE trigger holds beside its answer limit (5.1). -/
structure CaptureShot where
  trigger : Armed
  address : Address
  lens    : Nat
  link    : LinkId
  drop    : Bool
  /-- its stationary capture was abandoned by a halt (R164) -/
  orphan  : Bool
  deriving DecidableEq, Repr

/-- The outstanding trigger record (5.1): a TRIAL or a CAPTURE, and the answer limit it was fired under. -/
inductive Outstanding where
  | trial (limit : Nat)
  | capture (limit : Nat) (shot : CaptureShot)
  deriving DecidableEq, Repr

/-- Why a capture failed (R104); `none` with DONE. -/
inductive FailReason where
  | none | camera | noAnswer
  deriving DecidableEq, Repr

/-- Outcome of a capture record (R104). -/
inductive CaptureOutcome where
  | done | fail
  deriving DecidableEq, Repr

/-- A capture record (R104). -/
structure CaptureRecord where
  job     : Nat
  link    : LinkId
  item    : Option Nat
  frame   : Nat
  address : Address
  t       : Nat
  lens    : Nat
  kind    : CaptureKind
  outcome : CaptureOutcome
  reason  : FailReason
  drop    : Bool
  deriving DecidableEq, Repr

/-- Phase of a stationary capture (5.1); WAIT_CAMERA carries the wait limit it was loaded with. -/
inductive StationaryPhase where
  | movingToAxis | atAxis | searching | waitLens
  | waitCamera (limit : Nat)
  | waitAnswer
  deriving DecidableEq, Repr

/-- The stationary capture record (5.1). -/
structure Stationary where
  trigger : Armed
  attempt : Nat
  phase   : StationaryPhase
  deriving DecidableEq, Repr

/-- A revisit list (R112): the sweep job it belongs to and its frames, ascending. -/
structure RevisitList where
  job    : Nat
  frames : List Nat
  deriving DecidableEq, Repr

/-- The capture sequencer. -/
structure Capture where
  handshake   : Handshake
  answerLock  : Bool
  outstanding : Option Outstanding
  armed       : List Armed
  /-- slot number of the ring's head (R104); the tail is `ringHead + ring.length` modulo 32 -/
  ringHead    : Nat
  ring        : List CaptureRecord
  throttle    : Bool
  holding     : Option Stationary
  revisits    : List RevisitList
  lastMiss    : Option (Nat × MissReason)
  deriving DecidableEq, Repr

/-! ### Motion arbiter (chapter 6) -/

/-- Class of a queue entry (R117). -/
inductive QClass where
  | internal | urgent | normal | background
  deriving DecidableEq, Repr

/-- Kind of a queue entry (R117). -/
inductive QKind where
  | seek | item | run | index | rescan | reference | readAhead
  deriving DecidableEq, Repr

/-- A queue entry (R117). A RUN's next frame and boundary are those of its sweep record, a RESCAN's targets those of
the rescan record. -/
structure QEntry where
  requester : Requester
  cls       : QClass
  kind      : QKind
  frame     : Option Nat
  start     : Nat
  arrival   : Nat
  skip      : Nat
  resume    : Bool
  deriving DecidableEq, Repr

/-- A leg of a motion (R119, R191). -/
inductive Leg where
  | approach | runUp | main | reverse | forward | reference
  deriving DecidableEq, Repr

/-- Why the leg in flight was asked to stop (R122). -/
inductive StopCause where
  /-- the entry was withdrawn (R118) -/
  | withdrawn
  /-- the entry was re-targeted from INDEX (R118) -/
  | retarget
  /-- a run yields (R124) -/
  | yielded
  /-- a run is suspended (R125) -/
  | suspended
  /-- the sequencer stopped the run: reference, or a frame armed too late (R126) -/
  | sequencer
  /-- the sequencer stopped the run for a focus search of the frame (R126) -/
  | searchFrame (n : Nat)
  /-- a read-ahead gives way (R128) -/
  | preempted
  /-- loss of reference (R129) -/
  | lossOfRef
  /-- a rescan was asked (R130) -/
  | rescan
  /-- a LOAD or UNLOAD claims the transport (R123) -/
  | rollClaim
  deriving DecidableEq, Repr

/-- The current motion (6.1): what was selected, the leg in flight or next, why it is being stopped, and for a run
the frame whose search it has stopped for (R126). -/
structure Current where
  requester : Requester
  cls       : QClass
  kind      : QKind
  frame     : Option Nat
  leg       : Leg
  stop      : Option StopCause
  search    : Option Nat
  deriving DecidableEq, Repr

/-- Elevator direction (R121). -/
inductive Elevator where
  | up | down
  deriving DecidableEq, Repr

/-- The motion arbiter. -/
structure Arbiter where
  queue       : List QEntry
  current     : Option Current
  elevator    : Elevator
  arrival     : Nat
  yieldCount  : Nat
  runImmune   : Bool
  interrupted : Option Requester
  captureHold : Bool
  searchHold  : Bool
  rollClaim   : Bool
  blocked     : Bool
  deriving DecidableEq, Repr

/-! ### Job table (chapter 7) -/

/-- State of a job (7.1, 7.3). -/
inductive JobState where
  | queued | resolving | running | suspended | revisiting | done | part | failed | cancelled
  deriving DecidableEq, Repr

/-- end_reason (7.1). -/
inductive EndReason where
  | none | notFound | range | frozen | limit | noRoll | threadFail | noLeader | cancelled
  | fault (c : Cause)
  deriving DecidableEq, Repr

/-- Outcome of a FETCH item (7.4). -/
inductive ItemOutcome where
  | pending | captured | notFound | missed | failed | cancelled
  deriving DecidableEq, Repr

/-- A FETCH item (7.4); its index is its place in the list, from 1. -/
structure Item where
  target    : Target
  resolved  : Option Nat
  outcome   : ItemOutcome
  captures  : Nat
  inCapture : Bool
  deriving DecidableEq, Repr

/-- end_frame of a sweep (7.7). -/
inductive EndFrame where
  | frame (n : Nat)
  | rollEnd
  deriving DecidableEq, Repr

/-- The sweep record (7.7). -/
structure SweepRec where
  fromT     : Target
  toT       : Target
  revisit   : Bool
  fromFrame : Option Nat
  endFrame  : Option EndFrame
  nextFrame : Option Nat
  overflow  : Bool
  captured  : Nat
  revisits  : Nat
  /-- the outcome with which the run leg reached its boundary, while the sweep decides by it (R151) -/
  runEnded  : Option MoveOutcome
  deriving DecidableEq, Repr

/-- The part of a job that depends on its kind (7.1). -/
inductive JobBody where
  | load
  | unload
  | seek (target : Target) (resolved : Option Nat) (outcome : Option MoveOutcome) (final : Option Nat)
  | fetch (items : List Item)
  | sweep (r : SweepRec)
  | indexTo (target : Target) (found : Option Nat) (count : Option Nat) (frontier : Option Nat)
  deriving DecidableEq, Repr

/-- A job in a slot (7.1). -/
structure Job where
  number    : Nat
  link      : LinkId
  state     : JobState
  urgent    : Bool
  /-- the focus policy is SEARCH -/
  search    : Bool
  endReason : EndReason
  /-- accepted while HALTED and QUEUED for the clear (R138) -/
  waitClear : Bool
  body      : JobBody
  deriving DecidableEq, Repr

/-- The job table: the jobs that hold slots, in the order they were accepted; the other slots are free. -/
structure Jobs where
  slots   : List Job
  counter : Nat
  deriving DecidableEq, Repr

/-! ### Fault record (chapter 8) -/

/-- The fault record (8.1). -/
structure FaultRecord where
  halted   : Bool
  cause    : Option Cause
  position : Option Nat
  later    : Bool
  deriving DecidableEq, Repr

/-! ### Link units (chapter 9) -/

/-- State of a receiver (R174). LENGTH, BODY and CHECK carry the frame in reception. -/
inductive Receiver where
  | hunt
  | length
  | body (len : Nat) (soFar : List Byte)
  | check (len : Nat) (body : List Byte) (first : Option Byte)
  | brk
  deriving DecidableEq, Repr

/-- What a transmission is (R187). -/
inductive TxKind where
  | reply | jobDone | captured
  | notice (k : NoticeKind)
  deriving DecidableEq, Repr

/-- State of a transmitter (9.1); SENDING carries the frame on the line. -/
inductive Transmitter where
  | idle
  | sending (kind : TxKind) (frame : List Byte)
  | held
  deriving DecidableEq, Repr

/-- A link unit (9.1). -/
structure LinkUnit where
  receiver         : Receiver
  inputBuffer      : List (List Byte)
  replySlot        : Option (List Byte)
  frameDropped     : Bool
  sessionRestarted : Bool
  hold             : Bool
  mask             : NoticeFlags
  flags            : NoticeFlags
  jobDone          : List Nat
  transmitter      : Transmitter
  deriving DecidableEq, Repr

/-- The three link units. -/
structure Links where
  a : LinkUnit
  b : LinkUnit
  c : LinkUnit
  deriving DecidableEq, Repr

/-! ### The machine -/

/-- The input levels of the machine side and the last report of each tension sensor. -/
structure Pins where
  levels : Levels
  supply : TensionReading
  takeUp : TensionReading
  deriving DecidableEq, Repr

/-- The state of the WNT-6408, with the queue of commands that wait, first in, first out. -/
structure State where
  transport : Transport
  tracker   : Tracker
  index     : Index
  focus     : Focus
  capture   : Capture
  arbiter   : Arbiter
  jobs      : Jobs
  fault     : FaultRecord
  links     : Links
  pins      : Pins
  pending   : List Instr
  deriving DecidableEq, Repr

/-- Model faults: there is none. Every command of the WNT-6408 has an effect in every state, and the part's own faults
are states of its fault record (R159). -/
inductive Fault where
  deriving DecidableEq, Repr

/-- Refusals of the model. -/
inductive Refusal where
  /-- Raised by exec's arm of a command that has no meaning yet, with the row's mnemonic; safe. No arm raises it. -/
  | notModelled (mnemonic : String)
  deriving DecidableEq, Repr

/-! ### Updates of one block -/

/-- Change the transport. -/
def State.onTransport (f : Transport → Transport) (s : State) : State := { s with transport := f s.transport }
/-- Change the tracker. -/
def State.onTracker (f : Tracker → Tracker) (s : State) : State := { s with tracker := f s.tracker }
/-- Change the index. -/
def State.onIndex (f : Index → Index) (s : State) : State := { s with index := f s.index }
/-- Change the focus controller. -/
def State.onFocus (f : Focus → Focus) (s : State) : State := { s with focus := f s.focus }
/-- Change the capture sequencer. -/
def State.onCapture (f : Capture → Capture) (s : State) : State := { s with capture := f s.capture }
/-- Change the arbiter. -/
def State.onArbiter (f : Arbiter → Arbiter) (s : State) : State := { s with arbiter := f s.arbiter }
/-- Change the job table. -/
def State.onJobs (f : Jobs → Jobs) (s : State) : State := { s with jobs := f s.jobs }
/-- Change the fault record. -/
def State.onFault (f : FaultRecord → FaultRecord) (s : State) : State := { s with fault := f s.fault }
/-- Change the input levels. -/
def State.onPins (f : Pins → Pins) (s : State) : State := { s with pins := f s.pins }
/-- Change all link units. -/
def State.onLinks (f : Links → Links) (s : State) : State := { s with links := f s.links }

/-- The unit of a link. -/
def Links.get (ls : Links) : LinkId → LinkUnit
  | .a => ls.a
  | .b => ls.b
  | .c => ls.c

/-- Change the unit of a link. -/
def Links.modify (ls : Links) (l : LinkId) (f : LinkUnit → LinkUnit) : Links :=
  match l with
  | .a => { ls with a := f ls.a }
  | .b => { ls with b := f ls.b }
  | .c => { ls with c := f ls.c }

/-- The unit of a link. -/
def State.link (s : State) (l : LinkId) : LinkUnit := s.links.get l

/-- Change the unit of a link. -/
def State.onLink (l : LinkId) (f : LinkUnit → LinkUnit) (s : State) : State :=
  { s with links := s.links.modify l f }

/-! ### After reset -/

/-- The transport after reset (R1), before STOP is read: EMPTY, or RESTING with film in the gate. -/
def Transport.afterReset (lv : Levels) : Transport where
  state          := if lv.filmPresent then .resting else .empty
  reference      := .lost
  position       := 0
  absorbed       := 0
  rollEnd        := none
  tailLimit      := none
  broken         := false
  leaderMissing  := false
  profile        := {}
  tension        := .slack
  holdTimer      := none
  move           := none
  drive          := none
  travel         := .forward
  search         := none
  roll           := none
  cancelling     := false
  tensionLimit   := false
  threadLimit    := false
  stallLimit     := false
  persistSupply  := false
  persistTakeUp  := false
  haltedEmpty    := false

/-- The tracker's values for a profile (R27). -/
def Tracker.fresh (p : Profile) : Tracker where
  mode           := .idle
  p16            := 16 * p.pitchNominal
  eLast          := none
  candidate      := none
  parked         := none
  missAccepted   := false
  budget         := p.rescanLimit
  rescan         := none
  counters       := none
  pendingNoise   := false
  pendingSplice  := false
  openMark       := none
  openSplice     := none
  unmatchedRun   := 0
  splices        := []
  passStart      := 0
  matched        := []
  edgeUnmatched  := false
  gathering      := []
  heldIdle       := false
  lastByPitchMax := false

/-- The empty index (R60). -/
def Index.fresh : Index where
  entries      := []
  frontier     := 0
  state        := .empty
  segments     := List.replicate 64 {}
  disputeCount := 0
  lastDispute  := none

/-- The focus controller after reset (R73). -/
def Focus.afterReset : Focus where
  state     := .unhomed
  lens      := none
  recal     := false
  homeCount := 0
  map       := []
  slew      := []
  search    := none
  result    := none

/-- The sequencer after reset (R93). -/
def Capture.afterReset (lv : Levels) : Capture where
  handshake   := if lv.cameraReady then .ready else .notReady
  answerLock  := false
  outstanding := none
  armed       := []
  ringHead    := 0
  ring        := []
  throttle    := false
  holding     := none
  revisits    := []
  lastMiss    := none

/-- The arbiter after reset (R116). -/
def Arbiter.afterReset : Arbiter where
  queue       := []
  current     := none
  elevator    := .up
  arrival     := 0
  yieldCount  := 0
  runImmune   := false
  interrupted := none
  captureHold := false
  searchHold  := false
  rollClaim   := false
  blocked     := false

/-- The job table after reset (R134). -/
def Jobs.afterReset : Jobs where
  slots   := []
  counter := 1

/-- The clear fault record (R158). -/
def FaultRecord.clear : FaultRecord where
  halted   := false
  cause    := none
  position := none
  later    := false

/-- A link unit after reset (R172). -/
def LinkUnit.afterReset : LinkUnit where
  receiver         := .hunt
  inputBuffer      := []
  replySlot        := none
  frameDropped     := false
  sessionRestarted := true
  hold             := false
  mask             := {}
  flags            := {}
  jobDone          := []
  transmitter      := .idle

/-- Every block at its after-reset values for the input levels, before the STOP level is read (R158). -/
def State.afterReset (pins : Pins) (waiting : List Instr) : State where
  transport := Transport.afterReset pins.levels
  tracker   := Tracker.fresh {}
  index     := Index.fresh
  focus     := Focus.afterReset
  capture   := Capture.afterReset pins.levels
  arbiter   := Arbiter.afterReset
  jobs      := Jobs.afterReset
  fault     := FaultRecord.clear
  links     := { a := LinkUnit.afterReset, b := LinkUnit.afterReset, c := LinkUnit.afterReset }
  pins      := pins
  pending   := waiting

/-- The input levels of `State.reset`. DESIGN CHOICE (log 1, unsafe): the spec states no level; all are clear and both
tension sensors read LOW. -/
def Pins.atReset : Pins where
  levels := { filmPresent := false, stop := false, protectKey := false, cameraReady := false, homeSwitch := false }
  supply := .low
  takeUp := .low

/-- The machine right after reset, with no command waiting. -/
def State.reset : State := State.afterReset Pins.atReset []

end Sys2Proof.Machine
end

