-- ==== Sys2Proof/Machine/Ops.lean ====
section
/-! DEFINITION. The named operations over single blocks that the rules share: notices raised, the roll record's
changes, stopping a move, the tally of positions and limits. -/

namespace Sys2Proof.Machine

/-! ### Arithmetic -/

/-- |a - b| of two positions. -/
def dist (a b : Nat) : Nat := (a - b) + (b - a)

/-- `n` held within `lo..hi`. -/
def clampNat (lo hi n : Nat) : Nat := max lo (min hi n)

/-- An integer held within 0..4095 (R83, R90, R91). -/
def clampStep (z : Int) : Nat := min Config.maxStep z.toNat

/-- Address order: batch, then document, then page (00_scope, Frame addresses). -/
def Address.lt (x y : Address) : Bool :=
  x.batch < y.batch || (x.batch == y.batch &&
    (x.document < y.document || (x.document == y.document && x.page < y.page)))

/-! ### Notices (R181) -/

/-- The flag of a kind. -/
def NoticeFlags.get (f : NoticeFlags) : NoticeKind → Bool
  | .fault => f.fault
  | .rollState => f.rollState
  | .indexProgress => f.indexProgress
  | .dispute => f.dispute

/-- Set the flag of a kind to a value. -/
def NoticeFlags.put (f : NoticeFlags) (k : NoticeKind) (v : Bool) : NoticeFlags :=
  match k with
  | .fault => { f with fault := v }
  | .rollState => { f with rollState := v }
  | .indexProgress => { f with indexProgress := v }
  | .dispute => { f with dispute := v }

/-- A raise at one link unit: the pending flag is set unless the receiver is BREAK (R181, R189). -/
def LinkUnit.raise (k : NoticeKind) (u : LinkUnit) : LinkUnit :=
  if u.receiver = .brk then u else { u with flags := u.flags.put k true }

/-- Raise a maskable notice kind to every link (R181). -/
def raise (k : NoticeKind) (s : State) : State :=
  s.onLinks fun ls => { a := ls.a.raise k, b := ls.b.raise k, c := ls.c.raise k }

/-! ### The roll record: each change raises ROLL_STATE (R1) -/

/-- Enter a transport state. -/
def enterState (st : TransportState) (s : State) : State :=
  if s.transport.state = st then s
  else raise .rollState (s.onTransport fun t => { t with state := st })

/-- Give the reference quality a value, without what other blocks do on it (R5). -/
def putReference (r : Reference) (s : State) : State :=
  if s.transport.reference = r then s
  else raise .rollState (s.onTransport fun t => { t with reference := r })

/-- Give roll_end a value. -/
def putRollEnd (e : Option Nat) (s : State) : State :=
  if s.transport.rollEnd = e then s
  else raise .rollState (s.onTransport fun t => { t with rollEnd := e })

/-- Set or clear broken. -/
def putBroken (v : Bool) (s : State) : State :=
  if s.transport.broken = v then s
  else raise .rollState (s.onTransport fun t => { t with broken := v })

/-- Set or clear leader_missing. -/
def putLeaderMissing (v : Bool) (s : State) : State :=
  if s.transport.leaderMissing = v then s
  else raise .rollState (s.onTransport fun t => { t with leaderMissing := v })

/-! ### Transport -/

/-- The upper limit of the position count (R4). -/
def Transport.upperLimit (t : Transport) : Nat := t.rollEnd.getD Config.maxPosition

/-- The upper limit of a move's target (R6). -/
def Transport.targetLimit (t : Transport) : Nat :=
  match t.tailLimit with
  | some e => e
  | none => t.rollEnd.getD Config.maxPosition

/-- The reels go slack or are switched off (R11). -/
def slacken (s : State) : State := s.onTransport fun t => { t with tension := .slack }

/-- The drive command ends; with it the stall limit (R23). -/
def driveOff (s : State) : State := s.onTransport fun t => { t with drive := none, stallLimit := false }

/-- The reels are driven in a direction at a class. Where the reference is LOST and the splice table is not empty, REWIND
and SEEK class motion is held at SCAN from its start to its end (R8). The stall limit starts (R23). -/
def driveOn (dir : Direction) (sp : SpeedClass) (capture : Nat) (s : State) : State :=
  let held := s.transport.reference == .lost && !s.tracker.splices.isEmpty && (sp == .rewind || sp == .seek)
  s.onTransport fun t => { t with drive := some { dir := dir, speed := sp, capture := capture, heldScan := held },
                                  stallLimit := true }

/-- The CAPTURE class speed in force (R6, R107). -/
def captureSpeed (s : State) : Nat :=
  let p := s.transport.profile.captureSpeed
  if s.capture.throttle then max 10 (p / 2) else p

/-- Counts per ms of a speed class (00_scope, Speeds). -/
def SpeedClass.counts (capture : Nat) : SpeedClass → Nat
  | .seek => 400
  | .scan => 100
  | .capture => capture
  | .creep => 4
  | .rewind => 800

/-- Two stretches of film overlap: they share more than an end point (R46 tells touching from overlapping; log 12). -/
def overlaps (a b x y : Nat) : Bool := a < y && x < b

/-- Two stretches of film touch or overlap (R46). -/
def meets (a b x y : Nat) : Bool := a ≤ y && x ≤ b

/-- The span between the sensor station and the optical axis overlaps a span of the splice table (R8). -/
def spliceInPath (s : State) : Bool :=
  s.tracker.splices.any fun sp =>
    overlaps sp.start sp.finish (s.transport.position - s.transport.profile.axisOffset) s.transport.position

/-- The speed in counts per ms at which the reels are driven now, 0 when they are not (R8). -/
def driveSpeed (s : State) : Nat :=
  match s.transport.drive with
  | none => 0
  | some d =>
    let v := d.speed.counts d.capture
    if d.heldScan || (s.transport.reference != .lost && spliceInPath s) then min v 100 else v

/-- A stop request to the transport (R9): ignored when no move record is in flight. In TENSIONING the tension is
brought up all the same, and nothing is driven yet. -/
def stopMove (s : State) : State :=
  match s.transport.move with
  | none => s
  | some m =>
    if s.transport.state = .moving ∨ s.transport.state = .referencing ∨ s.transport.state = .tensioning then
      driveOff (s.onTransport fun t => { t with move := some { m with stopping := true } })
    else s

/-- A change of film direction: travel reverses, so open_splice is cleared (R45). -/
def setTravel (d : Direction) (s : State) : State :=
  if s.transport.travel = d then s
  else (s.onTransport fun t => { t with travel := d }).onTracker fun t => { t with openSplice := none }

/-! ### Index lookups (R61) -/

/-- The entry count. -/
def Index.count (ix : Index) : Nat := ix.entries.length

/-- The last entry. -/
def Index.last? (ix : Index) : Option Entry := ix.entries.getLast?

/-- The index is FROZEN (R58). -/
def Index.frozen (ix : Index) : Bool := ix.state = .frozenFull || ix.state = .frozenAddress

/-- The number of verified segments (R65). -/
def Index.verifiedCount (ix : Index) : Nat := (ix.segments.filter (·.verified)).length

/-- Entries that segment `sg` holds (R65). -/
def Index.segmentEntries (ix : Index) (sg : Nat) : Nat :=
  min Config.segmentSize (ix.count - Config.segmentSize * sg)

/-- The frame whose low ≤ p ≤ high (R61), from frame `n` on. -/
def frameAtFrom (p : Nat) : List Entry → Nat → Option Nat
  | [], _ => none
  | e :: es, n => if e.low ≤ p ∧ p ≤ e.high then some n else frameAtFrom p es (n + 1)

/-- Lookup by position (R61). -/
def Index.frameAt (ix : Index) (p : Nat) : Option Nat := frameAtFrom p ix.entries 0

/-- The frame at the optical axis now (R61). -/
def frameAtAxis (s : State) : Option Nat :=
  let off := s.transport.profile.axisOffset
  if s.transport.position < off then none else s.index.frameAt (s.transport.position - off)

/-- Mid-point of an entry (R83, R98). -/
def Entry.mid (e : Entry) : Nat := (e.low + e.high) / 2

/-- Trigger position of a frame with an entry (R98). -/
def triggerPosition (s : State) (n : Nat) : Option Nat :=
  (s.index.entries[n]?).map fun e => e.mid + s.transport.profile.axisOffset

/-- Change the entry of a frame; a frame number that names no entry changes nothing (R55). -/
def modifyEntry (n : Nat) (f : Entry → Entry) (s : State) : State :=
  s.onIndex fun ix => { ix with entries := ix.entries.modify n f }

/-! ### Reports to the index (R55) -/

/-- Trigger fired: last_focus_step becomes the step. -/
def reportFired (n lens : Nat) (s : State) : State := modifyEntry n (fun e => { e with lastFocusStep := some lens }) s

/-- Answer DONE: CAPTURED, and capture_count rises by 1 up to 15. -/
def reportDone (n : Nat) (s : State) : State :=
  modifyEntry n (fun e => { e with captureState := .captured, captureCount := min 15 (e.captureCount + 1) }) s

/-- Answer FAIL: FAILED. -/
def reportFail (n : Nat) (s : State) : State := modifyEntry n (fun e => { e with captureState := .failed }) s

/-- Frame missed: MISSED. -/
def reportMissed (n : Nat) (s : State) : State := modifyEntry n (fun e => { e with captureState := .missed }) s

/-- Weak search: FOCUS_WEAK. -/
def reportWeak (n : Nat) (s : State) : State :=
  modifyEntry n (fun e => { e with flags := { e.flags with focusWeak := true } }) s

/-- A later pass observed a different mark level (R69). -/
def reportDispute (n observed : Nat) (s : State) : State :=
  match s.index.entries[n]? with
  | none => s
  | some e =>
    let s1 := modifyEntry n (fun e => { e with flags := { e.flags with markDispute := true } }) s
    match s.index.segments[n / Config.segmentSize]? with
    | some sg =>
      if sg.verified then
        raise .dispute (s1.onIndex fun ix =>
          { ix with disputeCount := min 65535 (ix.disputeCount + 1),
                    lastDispute := some { frame := n, recorded := e.markLevel, observed := observed } })
      else s1
    | none => s1

end Sys2Proof.Machine
end

