-- ==== Sys2Proof/Machine/Flags.lean ====
section
/-! DEFINITION. Groups of flags as bytes (bit 0 least significant, R191), and the mark flags of a frame (R38). -/

namespace Sys2Proof.Machine

/-- A group of flags as a number, the first one bit 0 (R191). -/
def bitsOf : List Bool → Nat
  | [] => 0
  | b :: bs => (if b then 1 else 0) + 2 * bitsOf bs

/-- The flags field of an entry (R198). -/
def EntryFlags.bits (f : EntryFlags) : Nat :=
  bitsOf [f.noMark, f.multiMark, f.markLong, f.markDispute, f.pitchOdd, f.pitchClamp, f.gapBefore, f.splice,
    f.spliceUnlisted, f.noise, f.overlong, f.rescanned, f.focusWeak]

/-- The mask and the pending flags, in the order FAULT, ROLL_STATE, INDEX_PROGRESS, DISPUTE (R193, R196). -/
def NoticeFlags.bits (f : NoticeFlags) : Nat := bitsOf [f.fault, f.rollState, f.indexProgress, f.dispute]

/-- The mask a SET_NOTICE_MASK byte gives: a set bit masks the kind (R193). -/
def maskOf (b : Byte) : NoticeFlags where
  fault         := b.getLsbD 0
  rollState     := b.getLsbD 1
  indexProgress := b.getLsbD 2
  dispute       := b.getLsbD 3

/-- The link status byte of a reply (R195). -/
def linkStatus (u : LinkUnit) : Nat := bitsOf [u.frameDropped, u.sessionRestarted]

/-- The levels byte of GET_STATUS (R197). -/
def levelsByte (lv : Levels) : Nat := bitsOf [lv.filmPresent, lv.stop, lv.protectKey, lv.cameraReady]

/-- The holds byte of GET_STATUS (R197). -/
def holdsByte (a : Arbiter) : Nat := bitsOf [a.captureHold, a.searchHold, a.rollClaim, a.blocked]

/-! ### Marks (R37, R38) -/

/-- The mark that a length gives; none when it is too short to be one (R37). -/
def markOf (p : Profile) (len : Nat) : Option Mark :=
  if len < p.markMin then none
  else if len < p.mark12 then some { level := 1, long := false }
  else if len < p.mark23 then some { level := 2, long := false }
  else if len ≤ p.markMax then some { level := 3, long := false }
  else some { level := 1, long := true }

/-- The mark level of a frame: the highest of the marks counted for it, 0 without one (R38). -/
def frameLevel (ms : List Mark) : Nat := ms.foldl (fun m x => max m x.level) 0

/-- The mark flags of a frame at commit (R38). -/
def markFlags (ms : List Mark) (f : EntryFlags) : EntryFlags :=
  { f with noMark := f.noMark || ms.isEmpty, multiMark := f.multiMark || 2 ≤ ms.length,
           markLong := f.markLong || ms.any (·.long) }

end Sys2Proof.Machine
end

