-- ==== Sys2Proof/Machine/Codes.lean ====
section
/-! DEFINITION. The codes of the enumerated values (R191), the result codes (R195) and the notice kinds (R192). -/

namespace Sys2Proof.Machine

def TransportState.code : TransportState → Byte
  | .empty => 0x00 | .threading => 0x01 | .referencing => 0x02 | .ready => 0x03 | .moving => 0x04
  | .tensioning => 0x05 | .resting => 0x06 | .rewinding => 0x07 | .halted => 0x08

def Reference.code : Reference → Byte
  | .exact => 0x00 | .drifted => 0x01 | .lost => 0x02

def Tension.code : Tension → Byte
  | .slack => 0x00 | .taut => 0x01

def TrackerMode.code : TrackerMode → Byte
  | .idle => 0x00 | .verifying => 0x01 | .indexing => 0x02

def IndexState.code : IndexState → Byte
  | .empty => 0x00 | .growing => 0x01 | .complete => 0x02 | .frozenFull => 0x03 | .frozenAddress => 0x04

def LensState.code : LensState → Byte
  | .unhomed => 0x00 | .homing => 0x01 | .idle => 0x02 | .slewing => 0x03 | .searching => 0x04 | .faulted => 0x05

def PointSource.code : PointSource → Byte
  | .search => 0x01 | .master => 0x02

def Handshake.code : Handshake → Byte
  | .ready => 0x00 | .waitAnswer => 0x01 | .notReady => 0x02

def MissReason.code : MissReason → Byte
  | .cameraBusy => 0x01 | .ringFull => 0x02 | .lensLate => 0x03

def CaptureState.code : CaptureState → Byte
  | .none => 0x00 | .captured => 0x01 | .missed => 0x02 | .failed => 0x03

def CaptureKind.code : CaptureKind → Byte
  | .run => 0x01 | .stationary => 0x02 | .revisit => 0x03

def CaptureOutcome.code : CaptureOutcome → Byte
  | .done => 0x01 | .fail => 0x02

def FailReason.code : FailReason → Byte
  | .none => 0x00 | .camera => 0x01 | .noAnswer => 0x02

def QClass.code : QClass → Byte
  | .internal => 0x01 | .urgent => 0x02 | .normal => 0x03 | .background => 0x04

def QKind.code : QKind → Byte
  | .seek => 0x01 | .item => 0x02 | .run => 0x03 | .index => 0x04 | .rescan => 0x05 | .reference => 0x06
  | .readAhead => 0x07

def Requester.code : Requester → Byte
  | .job _ => 0x01 | .tracker => 0x02 | .transport => 0x03 | .arbiter => 0x04

def Leg.code : Leg → Byte
  | .approach => 0x01 | .runUp => 0x02 | .main => 0x03 | .reverse => 0x04 | .forward => 0x05 | .reference => 0x06

def Elevator.code : Elevator → Byte
  | .up => 0x00 | .down => 0x01

def MoveOutcome.code : MoveOutcome → Byte
  | .reached => 0x01 | .clamped => 0x02 | .rollEnd => 0x03 | .stopped => 0x04

def JobState.code : JobState → Byte
  | .queued => 0x01 | .resolving => 0x02 | .running => 0x03 | .suspended => 0x04 | .revisiting => 0x05
  | .done => 0x10 | .part => 0x11 | .failed => 0x12 | .cancelled => 0x13

def ItemOutcome.code : ItemOutcome → Byte
  | .pending => 0x00 | .captured => 0x01 | .notFound => 0x02 | .missed => 0x03 | .failed => 0x04 | .cancelled => 0x05

def Cause.code : Cause → Byte
  | .filmBreak => 0x01 | .capstanStall => 0x02 | .tensionRange => 0x03 | .lensFault => 0x04 | .operatorStop => 0x05

def EndReason.code : EndReason → Byte
  | .none => 0x00 | .notFound => 0x01 | .range => 0x02 | .frozen => 0x03 | .limit => 0x04 | .noRoll => 0x05
  | .threadFail => 0x06 | .noLeader => 0x07 | .cancelled => 0x08 | .fault c => 0x10 + c.code

/-- The code of a link, 00h when absent. -/
def linkCode : Option LinkId → Byte
  | none => 0x00
  | some .a => 0x01
  | some .b => 0x02
  | some .c => 0x03

def JobBody.code : JobBody → Byte
  | .load => 0x01 | .unload => 0x02 | .seek _ _ _ _ => 0x03 | .fetch _ => 0x04 | .sweep _ => 0x05 | .indexTo _ _ _ _ => 0x06

/-- The kind byte of a maskable notice (R192). -/
def NoticeKind.code : NoticeKind → Byte
  | .fault => 0xC2 | .rollState => 0xC3 | .indexProgress => 0xC4 | .dispute => 0xC5

/-- The result of a request (9.3); `guarded` is PROTECTED. -/
inductive Result where
  | ok | invalid | wrongState | busy | noSlot | noJob | notOwner | guarded | inUse | incomplete | outOfRange
  | profileInvalid | conditionPresent | notFound
  deriving DecidableEq, Repr

/-- The result codes (R195). -/
def Result.code : Result → Byte
  | .ok => 0x00 | .invalid => 0x01 | .wrongState => 0x02 | .busy => 0x03 | .noSlot => 0x04 | .noJob => 0x05
  | .notOwner => 0x06 | .guarded => 0x07 | .inUse => 0x08 | .incomplete => 0x09 | .outOfRange => 0x0A
  | .profileInvalid => 0x0B | .conditionPresent => 0x0C | .notFound => 0x0D

end Sys2Proof.Machine
end

