-- ==== Sys2Proof/Machine/FocusOps.lean ====
section
/-! DEFINITION. The focus controller's own operations: the map, targets, the slew list and the search record (chapter 4). -/

namespace Sys2Proof.Machine

/-! ### The focus map (R79 to R82) -/

/-- Insert a point in its place by position. -/
def insertPoint (p : MapPoint) : List MapPoint → List MapPoint
  | [] => [p]
  | q :: qs => if p.position ≤ q.position then p :: q :: qs else q :: insertPoint p qs

/-- The point farthest from a position; of two at the same distance the lower one (R80 step 3). -/
def farthest (pos : Nat) : List MapPoint → Option MapPoint
  | [] => none
  | q :: qs =>
    match farthest pos qs with
    | none => some q
    | some r => if dist pos r.position ≤ dist pos q.position then some q else some r

/-- Place a point in the map (R80). -/
def placePoint (p : MapPoint) (m : List MapPoint) : List MapPoint :=
  let kept := m.filter fun q => Config.mapSpacing ≤ dist p.position q.position
  if kept.length < m.length || m.length < Config.mapPoints then insertPoint p kept
  else
    match farthest p.position m with
    | none => insertPoint p m
    | some f => insertPoint p (m.filter fun q => q.position != f.position)

/-- The base of R83 steps 2 to 4 for mid-point `p` from point `a` on: steps between neighbours are interpolated and
truncated toward zero. -/
def interpolate (p : Nat) (a : MapPoint) : List MapPoint → Int
  | [] => a.lens
  | b :: rest =>
    if p ≤ a.position then a.lens
    else if p < b.position then
      (a.lens : Int) + (((b.lens : Int) - a.lens) * ((p : Int) - a.position)).tdiv ((b.position : Int) - a.position)
    else interpolate p b rest

/-- The focus target of a mid-point (R83). -/
def focusTarget (mid : Nat) (s : State) : Nat :=
  let p := s.transport.profile
  let base : Int := match s.focus.map with
    | [] => p.defaultFocus
    | a :: rest => interpolate mid a rest
  let off : Int := if s.tracker.splices.any fun sp => sp.start ≤ mid && mid ≤ sp.finish then p.spliceFocusOffset else 0
  clampStep (base + off)

/-- Does a frame need a focus search, under policy SEARCH (`search`) or MAP (R84). -/
def needsSearch (frame mid : Nat) (search : Bool) (s : State) : Bool :=
  if s.focus.result.any fun r => r.frame == frame then false
  else if !search then false
  else s.focus.map.all fun q => s.transport.profile.focusReach < dist q.position mid

/-! ### The slew list (R85 to R87) -/

/-- A trigger was armed: an entry is appended at the tail (R85). -/
def slewAppend (frame mid : Nat) (s : State) : State :=
  s.onFocus fun f => { f with slew := f.slew ++ [{ frame := frame, mid := mid, target := none }] }

/-- With the list emptied, a SLEWING lens stops at the step it has reached (R87). -/
def Focus.restIfEmptied (f : Focus) : Focus :=
  if f.slew.isEmpty && f.state == .slewing then { f with state := .idle } else f

/-- A trigger was fired, missed or disarmed: its entry is removed wherever it stands (R85, R87). -/
def slewRemove (frame : Nat) (s : State) : State :=
  s.onFocus fun f => { f with slew := f.slew.filter fun e => e.frame != frame }.restIfEmptied

/-- The whole list is disarmed (R87). -/
def slewClear (s : State) : State := s.onFocus fun f => { f with slew := [] }.restIfEmptied

/-- The target the lens has for an entry: the result record's step if it is the frame's, otherwise that of R83 (R86). -/
def slewTarget (e : SlewEntry) (s : State) : Nat :=
  match s.focus.result with
  | some r => if r.frame = e.frame then r.lens else focusTarget e.mid s
  | none => focusTarget e.mid s

/-- Is the lens at the target of a frame (R86). -/
def atTarget (frame : Nat) (s : State) : Bool :=
  match s.focus.slew with
  | [] => false
  | e :: _ => e.frame == frame && s.focus.state == .idle && e.target.isSome && e.target == s.focus.lens

/-! ### The search record (R88 to R92) -/

/-- The steps centre + k·pitch for k = -4..4, clamped, less those already tried and less repeats (R90, R91). -/
def trialSteps (centre : Nat) (pitch : Int) (tried : List Nat) : List Nat :=
  ([-4, -3, -2, -1, 0, 1, 2, 3, 4] : List Int).foldl
    (fun acc k =>
      let st := clampStep ((centre : Int) + k * pitch)
      if tried.contains st || acc.contains st then acc else acc ++ [st])
    []

/-- Trial `x` is better than `y`: a higher metric, then nearer the starting target, then the lower step (R91). -/
def Trial.better (start : Nat) (x y : Trial) : Bool :=
  y.metric < x.metric || (x.metric == y.metric &&
    (dist x.lens start < dist y.lens start || (dist x.lens start == dist y.lens start && x.lens < y.lens)))

/-- The best trial of a set (R91). -/
def bestTrial (start : Nat) : List Trial → Option Trial
  | [] => none
  | x :: xs =>
    match bestTrial start xs with
    | none => some x
    | some y => if y.better start x then some y else some x

/-- The search record made when a request is taken (R88): phase COARSE with its steps (R90). -/
def FocusSearch.begin (frame mid start job : Nat) : FocusSearch where
  frame         := frame
  mid           := mid
  start         := start
  job           := job
  phase         := .coarse
  trials        := []
  steps         := trialSteps start 24 []
  extensionDone := false
  stage         := .stepping

/-- Enter phase FINE about the best so far (R91). -/
def FocusSearch.toFine (sr : FocusSearch) : FocusSearch :=
  match bestTrial sr.start sr.trials with
  | none => { sr with phase := .fine, steps := [] }
  | some b => { sr with phase := .fine, steps := trialSteps b.lens 5 (sr.trials.map fun t => t.lens) }

/-- The coarse best is the lowest or highest step tried, at neither limit, and no extension was made (R90). -/
def FocusSearch.wantsExtension (sr : FocusSearch) : Option Trial :=
  match bestTrial sr.start sr.trials with
  | none => none
  | some b =>
    if !sr.extensionDone && b.lens != 0 && b.lens != Config.maxStep &&
        (sr.trials.all (fun t => b.lens ≤ t.lens) || sr.trials.all (fun t => t.lens ≤ b.lens)) then some b
    else none

/-- With the phase's steps recorded, the phase after it, as far as a phase with a step to try; steps stay empty where the
search is at its end (R90, R91). -/
def FocusSearch.advance (sr : FocusSearch) : FocusSearch :=
  if !sr.steps.isEmpty then sr
  else match sr.phase with
    | .fine => sr
    | .extension => sr.toFine
    | .coarse =>
      match sr.wantsExtension with
      | none => sr.toFine
      | some b =>
        let more := trialSteps b.lens 24 (sr.trials.map fun t => t.lens)
        if more.isEmpty then FocusSearch.toFine { sr with phase := .extension, extensionDone := true, steps := [] }
        else { sr with phase := .extension, extensionDone := true, steps := more }

/-- A trial's answer is recorded and the next step of the search comes to the head (R89). -/
def FocusSearch.record (metric : Nat) (answered : Bool) (sr : FocusSearch) : FocusSearch :=
  match sr.steps with
  | [] => sr
  | st :: rest =>
    FocusSearch.advance
      { sr with trials := sr.trials ++ [{ lens := st, metric := metric, answered := answered }],
                steps := rest, stage := .stepping }

/-- The best step of a search with outcome STRONG, none when it is WEAK (R91). -/
def FocusSearch.strong (floor : Nat) (sr : FocusSearch) : Option Nat :=
  match bestTrial sr.start sr.trials with
  | none => none
  | some b => if sr.trials.any (·.answered) && floor ≤ b.metric then some b.lens else none

/-- A search in progress is abandoned and the arbiter is told that it has ended (R92): a SEARCHING lens rests at the step it
has reached; a homing goes on (R75). The result record becomes absent. Without a search nothing changes. -/
def abandonSearch (s : State) : State :=
  match s.focus.search with
  | none => s
  | some _ =>
    (s.onFocus fun f => { f with search := none, result := none,
                                 state := if f.state = .searching then .idle else f.state }).onArbiter
      fun a => { a with searchHold := false }

end Sys2Proof.Machine
end

