-- ==== Sys2Proof/Machine/CaptureOps.lean ====
section
/-! DEFINITION. The capture sequencer's own operations: handshake, armed list, ring, throttle and revisit lists (chapter 5). -/

namespace Sys2Proof.Machine

/-! ### Handshake (R94) -/

/-- The handshake follows the READY level and answer_lock while no trigger is outstanding (R94). -/
def refreshHandshake (s : State) : State :=
  s.onCapture fun c =>
    match c.outstanding with
    | some _ => c
    | none =>
      { c with handshake := if s.pins.levels.cameraReady && !c.answerLock then .ready else .notReady }

/-- A camera answer is outstanding (R95). -/
def Capture.answerOutstanding (c : Capture) : Bool := c.outstanding.isSome

/-- A trigger may be fired now (R95): handshake READY; transport MOVING, or READY with tension on; not HALTED. -/
def mayFire (s : State) : Bool :=
  s.capture.handshake == .ready && !s.fault.halted &&
    (s.transport.state == .moving || (s.transport.state == .ready && s.transport.tension == .taut))

/-! ### Armed trigger list (R98 to R100) -/

/-- Put a trigger in its place by T. -/
def insertArmed (a : Armed) : List Armed → List Armed
  | [] => [a]
  | b :: bs => if a.t ≤ b.t then a :: b :: bs else b :: insertArmed a bs

/-- Arm a trigger and give it to the focus controller (R98, R85). The mid-point is T - axis_offset. -/
def armTrigger (a : Armed) (s : State) : State :=
  slewAppend a.frame (a.t - s.transport.profile.axisOffset)
    (s.onCapture fun c => { c with armed := insertArmed a c.armed })

/-- A trigger leaves the list, fired or missed or disarmed alone, and with it its slew entry (R85). -/
def unarm (frame : Nat) (s : State) : State :=
  slewRemove frame (s.onCapture fun c => { c with armed := c.armed.filter fun a => a.frame != frame })

/-- Disarm the whole list without outcome (R100, R87). -/
def disarm (s : State) : State := slewClear (s.onCapture fun c => { c with armed := [] })

/-! ### Throttle and ring (R104 to R107) -/

/-- The throttle tests the ring's count; a change is given at once to a CAPTURE class motion in flight (R107). -/
def throttleTest (s : State) : State :=
  let n := s.capture.ring.length
  let on := if 24 ≤ n then true else if n ≤ 15 then false else s.capture.throttle
  if on = s.capture.throttle then s
  else
    let s1 := s.onCapture fun c => { c with throttle := on }
    let v := captureSpeed s1
    s1.onTransport fun t =>
      { t with drive := t.drive.map fun d => if d.speed = .capture then { d with capture := v } else d }

/-- File a record at the tail (R105). -/
def fileRecord (r : CaptureRecord) (s : State) : State :=
  throttleTest (s.onCapture fun c => { c with ring := c.ring ++ [r] })

/-- The head record leaves the ring (R106). -/
def removeHead (s : State) : State :=
  throttleTest (s.onCapture fun c =>
    { c with ring := c.ring.tail, ringHead := (c.ringHead + 1) % Config.ringSlots })

/-- The head leaves undelivered while its drop mark is set or its link is in break; `n` bounds the heads looked at. -/
def dropHeadsN : Nat → State → State
  | 0, s => s
  | n + 1, s =>
    match s.capture.ring with
    | [] => s
    | r :: _ => if r.drop || (s.link r.link).receiver == .brk then dropHeadsN n (removeHead s) else s

/-- Every head that may not be delivered leaves the ring (R106). -/
def dropHeads (s : State) : State := dropHeadsN s.capture.ring.length s

/-- The ring is full (R104). -/
def Capture.ringFull (c : Capture) : Bool := Config.ringMax ≤ c.ring.length

/-! ### Revisit lists (R112) -/

/-- Insert a frame number in its place, no duplicates. -/
def insertFrame (n : Nat) : List Nat → List Nat
  | [] => [n]
  | m :: ms => if n < m then n :: m :: ms else if n = m then m :: ms else m :: insertFrame n ms

/-- The frames of a job's revisit list; none when it keeps no list. -/
def Capture.revisitOf (c : Capture) (job : Nat) : Option (List Nat) :=
  (c.revisits.find? fun r => r.job == job).map (·.frames)

/-- Change a job's revisit list. -/
def modifyRevisit (job : Nat) (f : List Nat → List Nat) (s : State) : State :=
  s.onCapture fun c =>
    { c with revisits := c.revisits.map fun r => if r.job = job then { r with frames := f r.frames } else r }

/-- Discard a job's revisit list (R93). -/
def discardRevisit (job : Nat) (s : State) : State :=
  s.onCapture fun c => { c with revisits := c.revisits.filter fun r => r.job != job }

/-- last_miss is set at each miss (R93). -/
def setLastMiss (frame : Nat) (why : MissReason) (s : State) : State :=
  s.onCapture fun c => { c with lastMiss := some (frame, why) }

/-- last_miss becomes absent when its frame is removed from the index (R93). -/
def trimLastMiss (s : State) : State :=
  s.onCapture fun c =>
    match c.lastMiss with
    | some (n, _) => if s.index.count ≤ n then { c with lastMiss := none } else c
    | none => c

end Sys2Proof.Machine
end

