-- ==== Sys2Proof/Machine/JobOps.lean ====
section
/-! DEFINITION. The job table's own operations: slots, records, resolution of targets against the index (7.1, 7.4). -/

namespace Sys2Proof.Machine

/-! ### Slots (R134 to R136) -/

/-- The job has not reached a final state (R134). -/
def JobState.isOpen : JobState → Bool
  | .done | .part | .failed | .cancelled => false
  | _ => true

/-- The job has not reached a final state (R134). -/
def Job.isOpen (j : Job) : Bool := j.state.isOpen

/-- The job in a slot with a number. -/
def findJob (n : Nat) (s : State) : Option Job := s.jobs.slots.find? fun j => j.number == n

/-- The open job with a number (R134: a report for any other is discarded). -/
def openJob (n : Nat) (s : State) : Option Job := s.jobs.slots.find? fun j => j.number == n && j.isOpen

/-- Change the job with a number. -/
def modifyJob (n : Nat) (f : Job → Job) (s : State) : State :=
  s.onJobs fun t => { t with slots := t.slots.map fun j => if j.number = n then f j else j }

/-- A slot becomes free (R134). -/
def freeSlot (n : Nat) (s : State) : State :=
  s.onJobs fun t => { t with slots := t.slots.filter fun j => j.number != n }

/-- Open jobs of a link (R135). -/
def openOf (l : LinkId) (s : State) : Nat := (s.jobs.slots.filter fun j => j.isOpen && j.link == l).length

/-- The number after another, from 255 to 1 (R136). -/
def nextNumber (n : Nat) : Nat := if 255 ≤ n then 1 else n + 1

/-- The first number from `n` on that no job in a slot holds (R136); at most six are held, so seven looks suffice. -/
def freeNumber (held : List Nat) : Nat → Nat → Nat
  | 0, n => n
  | k + 1, n => if held.contains n then freeNumber held k (nextNumber n) else n

/-- A job is a LOAD or UNLOAD. -/
def JobBody.isRoll : JobBody → Bool
  | .load | .unload => true
  | _ => false

/-- A job is a SWEEP. -/
def JobBody.isSweep : JobBody → Bool
  | .sweep _ => true
  | _ => false

/-- The sweep record of an open job. -/
def sweepOf (n : Nat) (s : State) : Option SweepRec :=
  match openJob n s with
  | some j => match j.body with
    | .sweep r => some r
    | _ => none
  | none => none

/-- Change an open job's sweep record; an ended job takes no report (R134). -/
def modifySweep (n : Nat) (f : SweepRec → SweepRec) (s : State) : State :=
  modifyJob n (fun j => match j.body with
    | .sweep r => if j.isOpen then { j with body := .sweep (f r) } else j
    | _ => j) s

/-- The range size of a sweep: 0 while a bound is unresolved or end_frame is ROLL_END (R153, R201). -/
def SweepRec.rangeSize (r : SweepRec) : Nat :=
  match r.fromFrame, r.endFrame with
  | some x, some (.frame y) => y + 1 - x
  | _, _ => 0

/-- Change an open job's items. -/
def modifyItems (n : Nat) (f : List Item → List Item) (s : State) : State :=
  modifyJob n (fun j => match j.body with
    | .fetch is => if j.isOpen then { j with body := .fetch (f is) } else j
    | _ => j) s

/-- Change one item of a job, by its index from 1. -/
def modifyItem (n k : Nat) (f : Item → Item) (s : State) : State :=
  modifyItems n (fun is => is.modify (k - 1) f) s

/-- The item index of a job's item in capture (R144). -/
def itemInCapture : Nat → List Item → Option Nat
  | _, [] => none
  | k, i :: is => if i.inCapture then some k else itemInCapture (k + 1) is

/-- Give a job a state. -/
def setJobState (n : Nat) (st : JobState) (s : State) : State := modifyJob n (fun j => { j with state := st }) s

/-! ### Lookups and resolution (R62, R140) -/

/-- Outcome of a lookup by address, with the neighbouring frame (R62). -/
inductive Lookup where
  | found (n : Nat)
  | notFound (below : Option Nat)
  | beyond (last : Option Nat)
  deriving DecidableEq, Repr

/-- The entry with exactly an address, from frame `n` on. -/
def findExact (a : Address) : List Entry → Nat → Option Nat
  | [], _ => none
  | e :: es, n => if e.address = a then some n else findExact a es (n + 1)

/-- How many entries lie below an address; addresses ascend, so these are the first ones. -/
def countBelow (a : Address) (es : List Entry) : Nat := (es.filter fun e => e.address.lt a).length

/-- The index can still grow past its last entry (R62, R140). -/
def Index.growing (ix : Index) : Bool := ix.state = .empty || ix.state = .growing

/-- Lookup by address (R62). -/
def lookupAddress (a : Address) (start : Address) (ix : Index) : Lookup :=
  match findExact a ix.entries 0 with
  | some n => .found n
  | none =>
    let k := countBelow a ix.entries
    let below := if k = 0 then none else some (k - 1)
    if k < ix.count then .notFound below
    else if ix.growing && (ix.count != 0 || !a.lt start) then .beyond below
    else .notFound below

/-- What trying to resolve a target gives (R140). -/
inductive Resolution where
  | found (n : Nat)
  | notFound
  | beyond
  deriving DecidableEq, Repr

/-- Resolve a target against the index as it stands (R140). `final`: a target BEYOND is settled as for COMPLETE
(R141, the position limit). ROLL_END names no frame. -/
def resolve (final : Bool) (t : Target) (s : State) : Resolution :=
  match t with
  | .frame n =>
    if n < s.index.count then .found n
    else if s.index.growing && !final then .beyond else .notFound
  | .address a =>
    match lookupAddress a s.transport.profile.startAddress s.index with
    | .found n => .found n
    | .notFound _ => .notFound
    | .beyond _ => if final then .notFound else .beyond
  | .rollEnd => .beyond

/-- The first entry whose address lies above the given one. -/
def firstAbove (a : Address) (ix : Index) : Option Nat :=
  let k := (ix.entries.filter fun e => !a.lt e.address).length
  if k < ix.count then some k else none

/-- The highest entry whose address lies below the given one. -/
def highestBelow (a : Address) (ix : Index) : Option Nat :=
  let k := countBelow a ix.entries
  if k = 0 then none else some (k - 1)

end Sys2Proof.Machine
end

