-- ==== Sys2Proof/Machine/Splices.lean ====
section
/-! DEFINITION. The tracker's pitch, prediction and window (2.3), and the splice table (2.7). -/

namespace Sys2Proof.Machine

/-- The pitch in counts (R31). -/
def Tracker.pitch (t : Tracker) : Nat := (t.p16 + 8) / 16

/-- The plain window half-width W (R31). -/
def Tracker.window (t : Tracker) : Nat := clampNat 20 400 (t.p16 / 128)

/-- The doubled window W2 (R31). -/
def Tracker.window2 (t : Tracker) : Nat := min 800 (2 * t.window)

/-- The window in force for indexing: W2 while a rescan record is active (R31). -/
def Tracker.indexWindow (t : Tracker) : Nat := if t.rescan.isSome then t.window2 else t.window

/-- The prediction E_pred for an E_last (R31). -/
def Tracker.predicted (t : Tracker) (eLast : Nat) : Nat := eLast + t.pitch

/-! ### The splice table (R46) -/

/-- The spans that a span neither touches nor overlaps. -/
def apart (sp : Span) (tb : List Span) : List Span := tb.filter fun x => !meets sp.start sp.finish x.start x.finish

/-- A span widened over every span of the table that it touches or overlaps. -/
def absorb (sp : Span) (tb : List Span) : Span :=
  tb.foldl (fun acc x =>
    if meets sp.start sp.finish x.start x.finish then
      { start := min acc.start x.start, finish := max acc.finish x.finish } else acc) sp

/-- Insert a span in its place by start. -/
def insertSpan (sp : Span) : List Span → List Span
  | [] => [sp]
  | x :: xs => if sp.start ≤ x.start then sp :: x :: xs else x :: insertSpan sp xs

/-- Place a span; none when it is dropped for want of a place (R46). -/
def placeSpan (sp : Span) (tb : List Span) : Option (List Span) :=
  let kept := apart sp tb
  if kept.length < tb.length then some (insertSpan (absorb sp tb) kept)
  else if tb.length < Config.spliceMax then some (insertSpan sp tb)
  else none

/-- Splice events are taken (R45). -/
def splicesTaken (s : State) : Bool :=
  (s.transport.state == .moving || s.transport.state == .referencing || s.transport.state == .rewinding) &&
    s.transport.reference != .lost

/-- SPLICE_ON at the position count (R45). -/
def spliceOpens (s : State) : State :=
  if splicesTaken s then s.onTracker fun t => { t with openSplice := some s.transport.position } else s

/-- SPLICE_OFF at the position count (R45, R46). -/
def spliceCloses (s : State) : State :=
  if splicesTaken s then
    match s.tracker.openSplice with
    | none => s
    | some p =>
      let q := s.transport.position
      match placeSpan { start := min p q, finish := max p q } s.tracker.splices with
      | some tb => s.onTracker fun t => { t with openSplice := none, splices := tb }
      | none => s.onTracker fun t => { t with openSplice := none, pendingSplice := true }
  else s

/-- The stretch `lo..hi` overlaps a span of the table or reaches open_splice, whose stretch runs to the position count
(R36, R45; R32's test). -/
def spliceIn (lo hi : Nat) (s : State) : Bool :=
  (s.tracker.splices.any fun sp => overlaps lo hi sp.start sp.finish) ||
    (match s.tracker.openSplice with
     | none => false
     | some p => meets lo hi (min p s.transport.position) (max p s.transport.position))

end Sys2Proof.Machine
end

