-- ==== Sys2Proof/Machine/Records.lean ====
section
/-! DEFINITION. The wire forms of records: replies and notices (R195 to R202). -/

namespace Sys2Proof.Machine

/-! ### Fields (R191) -/

/-- An optional three-byte field, FFFFFFh when absent. -/
def opt24 (v : Option Nat) : List Byte := be24 (v.getD 0xFFFFFF)

/-- An optional two-byte field, FFFFh when absent. -/
def opt16 (v : Option Nat) : List Byte := be16 (v.getD 0xFFFF)

/-- An address. -/
def addressBytes (a : Address) : List Byte := be16 a.batch ++ be16 a.document ++ be16 a.page

/-! ### Index, profile and map -/

/-- The wire form of entry `n` (R198). -/
def entryBytes (n : Nat) (e : Entry) : List Byte :=
  be16 n ++ be24 e.low ++ be24 e.high ++ addressBytes e.address ++ be8 e.markLevel ++ be16 e.flags.bits ++
    be24 e.gapLength ++ be8 e.missing ++ [e.captureState.code] ++ be8 e.captureCount ++ opt16 e.lastFocusStep

/-- A segment record (R196). -/
def segmentBytes (n : Nat) (sg : Segment) : List Byte :=
  be8 n ++ [boolByte sg.verified] ++ [linkCode sg.link] ++ be16 sg.verifiedAt

/-- The segment record of segment `n`, as the index holds it. -/
def segmentRecord (n : Nat) (ix : Index) : List Byte := segmentBytes n ((ix.segments[n]?).getD {})

/-- Two's complement of a signed lens offset (R191). -/
def signed16 (z : Int) : List Byte := be16 (BitVec.ofInt 16 z).toNat

/-- The profile record (R199). -/
def profileBytes (p : Profile) : List Byte :=
  be8 p.filmWidth ++ be16 p.pitchNominal ++ be16 p.pitchMin ++ be16 p.pitchMax ++ be16 p.imageMin ++
    be16 p.imageMax ++ be16 p.markMin ++ be16 p.mark12 ++ be16 p.mark23 ++ be16 p.markMax ++
    addressBytes p.startAddress ++ be16 p.axisOffset ++ be8 p.slipTol ++ be8 p.rescanLimit ++
    signed16 p.spliceFocusOffset ++ be16 p.defaultFocus ++ be24 p.focusReach ++ be16 p.metricFloor ++
    be8 p.captureSpeed ++ be16 p.answerLimit ++ be16 p.holdTime ++ [boolByte p.readAhead]

/-- The focus map, lowest position first (R196). -/
def mapBytes (m : List MapPoint) : List Byte :=
  be8 m.length ++ m.flatMap fun q => be24 q.position ++ be16 q.lens ++ [q.source.code]

/-! ### Fault record and notices (R196, R200, R202) -/

/-- The fault record. -/
def faultBytes (f : FaultRecord) : List Byte :=
  [boolByte f.halted] ++ [(f.cause.map Cause.code).getD 0x00] ++ opt24 f.position ++ [boolByte f.later]

/-- The body of a maskable notice, built when its transmission begins (R182, R202). -/
def noticeBody (k : NoticeKind) (s : State) : List Byte :=
  k.code :: 0x00 :: match k with
  | .fault => faultBytes s.fault
  | .rollState =>
    [s.transport.state.code] ++ [s.transport.reference.code] ++ be24 s.transport.position ++
      opt24 s.transport.rollEnd ++ [boolByte s.transport.broken] ++ [boolByte s.transport.leaderMissing]
  | .indexProgress =>
    [s.index.state.code] ++ be16 s.index.count ++ be24 s.index.frontier ++ be8 s.index.verifiedCount
  | .dispute =>
    be16 s.index.disputeCount ++ opt16 (s.index.lastDispute.map (·.frame)) ++
      be8 ((s.index.lastDispute.map (·.recorded)).getD 0) ++ be8 ((s.index.lastDispute.map (·.observed)).getD 0)

/-- The body of a CAPTURED notice (R200). -/
def capturedBody (r : CaptureRecord) : List Byte :=
  [0xC0, 0x00] ++ be8 r.job ++ be8 (r.item.getD 0) ++ be16 r.frame ++ addressBytes r.address ++ be24 r.t ++
    be16 r.lens ++ [r.kind.code] ++ [r.outcome.code] ++ [r.reason.code]

/-! ### Job records (R201) -/

/-- The items in an outcome. -/
def itemCount (o : ItemOutcome) (is : List Item) : Nat := (is.filter fun i => i.outcome == o).length

/-- end_frame as it is sent (R201). -/
def endFrameBytes : Option EndFrame → List Byte
  | none => be16 0xFFFF
  | some .rollEnd => be16 0xFFFE
  | some (.frame n) => be16 n

/-- The kind part of a job record (R201), in its present values for an open INDEX_TO. -/
def kindPart (b : JobBody) (s : State) : List Byte :=
  match b with
  | .load | .unload => []
  | .seek _ resolved outcome final =>
    opt16 resolved ++ [(outcome.map MoveOutcome.code).getD 0x00] ++ opt24 final
  | .indexTo _ found count frontier =>
    opt16 found ++ be16 (count.getD s.index.count) ++ be24 (frontier.getD s.index.frontier)
  | .sweep r =>
    opt16 r.fromFrame ++ endFrameBytes r.endFrame ++ be16 r.rangeSize ++ be16 r.captured ++
      be16 (r.rangeSize - r.captured) ++ be8 r.revisits ++ [boolByte r.overflow]
  | .fetch is =>
    be8 (itemCount .captured is) ++ be8 (itemCount .notFound is) ++ be8 (itemCount .missed is) ++
      be8 (itemCount .failed is) ++ be8 (itemCount .cancelled is) ++ be8 is.length ++
      is.flatMap fun i => [i.outcome.code] ++ opt16 i.resolved ++ be8 i.captures

/-- The body of a JOB_DONE notice (R201). -/
def jobDoneBody (j : Job) (s : State) : List Byte :=
  [0xC1, 0x00] ++ be8 j.number ++ [j.body.code] ++ [j.state.code] ++ [j.endReason.code] ++ kindPart j.body s

/-- The data of a GET_JOB reply (R201). -/
def jobBytes (j : Job) (s : State) : List Byte :=
  be8 j.number ++ [j.body.code] ++ [linkCode (some j.link)] ++ [j.state.code] ++ [j.endReason.code] ++
    kindPart j.body s ++ match j.body with
    | .sweep r => opt16 r.nextFrame ++ be8 ((s.capture.revisitOf j.number).getD []).length
    | _ => []

/-! ### The status record (R197) -/

/-- The data of a GET_STATUS reply on a link (R178, R197). The kind and class of the current motion are those it was selected with, also
while a re-target of its entry from INDEX stops it (log 48). -/
def statusBytes (l : LinkId) (s : State) : List Byte :=
  let t := s.transport
  let u := s.link l
  let cur := s.arbiter.current
  [t.state.code] ++ [t.reference.code] ++ be24 t.position ++ opt24 t.rollEnd ++ [boolByte t.broken] ++
    [boolByte t.leaderMissing] ++ [t.tension.code] ++ be8 (levelsByte s.pins.levels) ++
  [s.tracker.mode.code] ++ be16 s.tracker.pitch ++ be16 s.tracker.window ++ be8 s.tracker.budget ++
    be8 s.tracker.splices.length ++
  [s.index.state.code] ++ be16 s.index.count ++ be24 s.index.frontier ++ be8 s.index.verifiedCount ++
    opt16 (frameAtAxis s) ++
  [s.focus.state.code] ++ opt16 s.focus.lens ++ [boolByte s.focus.recal] ++ be8 s.focus.map.length ++
    [boolByte s.focus.search.isSome] ++
  [s.capture.handshake.code] ++ [boolByte s.capture.answerLock] ++ be8 s.capture.armed.length ++
    be8 s.capture.ring.length ++ [boolByte s.capture.throttle] ++ be8 (captureSpeed s) ++
    opt16 (s.capture.lastMiss.map (·.1)) ++ [(s.capture.lastMiss.map fun m => m.2.code).getD 0x00] ++
  be8 s.arbiter.queue.length ++ [(cur.map fun c => c.requester.code).getD 0x00] ++
    be8 (match cur with
      | some { requester := .job n, .. } => n
      | _ => 0) ++
    [(cur.map fun c => c.kind.code).getD 0x00] ++ [(cur.map fun c => c.cls.code).getD 0x00] ++
    [(cur.map fun c => c.leg.code).getD 0x00] ++ [s.arbiter.elevator.code] ++ be8 s.arbiter.yieldCount ++
    be8 (holdsByte s.arbiter) ++
  be8 s.jobs.slots.length ++ be8 (openOf .a s) ++ be8 (openOf .b s) ++ be8 (openOf .c s) ++
  faultBytes s.fault ++
  be8 u.mask.bits ++ be8 u.flags.bits ++ [boolByte u.hold] ++ be8 u.jobDone.length

end Sys2Proof.Machine
end

