-- ==== Sys2Proof/Machine/ArbiterOps.lean ====
section
/-! DEFINITION. The motion queue: submission, re-target, withdrawal, the tests that cut a run short (chapter 6). -/

namespace Sys2Proof.Machine

/-! ### Run-up points and start positions (R119) -/

/-- The indexing run-up point. -/
def indexRunUp (s : State) : Nat := s.index.frontier - s.transport.profile.pitchMax

/-- The run-up point of a frame with an entry. -/
def frameRunUp (n : Nat) (s : State) : Option Nat :=
  (s.index.entries[n]?).map fun e => e.low - s.transport.profile.pitchMax

/-- The run-up point of a job's run: that of its next frame when the entry exists, else the indexing run-up point. -/
def runRunUp (job : Nat) (s : State) : Nat :=
  match sweepOf job s with
  | some r => match r.nextFrame with
    | some n => (frameRunUp n s).getD (indexRunUp s)
    | none => indexRunUp s
  | none => indexRunUp s

/-- The boundary of a job's run: T of its end frame + pitch_max, or 16,000,000 to ROLL_END (R119). -/
def runBoundary (job : Nat) (s : State) : Nat :=
  match sweepOf job s with
  | some r => match r.endFrame with
    | some (.frame n) =>
      match triggerPosition s n with
      | some t => t + s.transport.profile.pitchMax
      | none => Config.maxPosition
    | _ => Config.maxPosition
  | none => Config.maxPosition

/-- The start position of a motion (R119). -/
def startPosition (r : Requester) (k : QKind) (frame : Option Nat) (s : State) : Nat :=
  match k with
  | .seek | .item => (frame.bind fun n => triggerPosition s n).getD 0
  | .run => match r with
    | .job n => runRunUp n s
    | _ => indexRunUp s
  | .index | .readAhead => indexRunUp s
  | .rescan => (s.tracker.rescan.map fun r => r.reverseTarget).getD 0
  | .reference => 0

/-- Every entry's start position computed afresh (R119). -/
def refreshStarts (s : State) : State :=
  s.onArbiter fun a => { a with queue := a.queue.map fun e =>
    { e with start := startPosition e.requester e.kind e.frame s } }

/-! ### Entries (R117) -/

/-- The entry a requester holds. -/
def Arbiter.entryOf (a : Arbiter) (r : Requester) : Option QEntry := a.queue.find? fun e => e.requester == r

/-- Renumber the arrivals 0, 1 and on in their order (R117). -/
def renumber (q : List QEntry) : List QEntry :=
  q.map fun e => { e with arrival := (q.filter fun x => x.arrival < e.arrival).length }

/-- Place an entry with the next arrival and skip_count 0 (R117). -/
def Arbiter.place (e : QEntry) (a : Arbiter) : Arbiter :=
  let q := a.queue ++ [{ e with arrival := a.arrival, skip := 0 }]
  if a.arrival < Config.maxCounter then { a with queue := q, arrival := a.arrival + 1 }
  else { a with queue := renumber q, arrival := q.length }

/-- Take a requester's entry off the queue. -/
def Arbiter.remove (r : Requester) (a : Arbiter) : Arbiter :=
  { a with queue := a.queue.filter fun e => e.requester != r }

/-- Change a requester's entry. -/
def Arbiter.modifyEntry (r : Requester) (f : QEntry → QEntry) (a : Arbiter) : Arbiter :=
  { a with queue := a.queue.map fun e => if e.requester = r then f e else e }

/-- A run's occupancy ends: yield_count is 0 and run_immune clear until the next (6.7, R129, R132, log 33). -/
def Arbiter.endOccupancy (a : Arbiter) : Arbiter := { a with yieldCount := 0, runImmune := false }

/-- No entry is current; a run's occupancy ends with it. -/
def Arbiter.clearCurrent (a : Arbiter) : Arbiter :=
  { (if a.current.any fun c => c.kind == .run then a.endOccupancy else a) with current := none }

/-- interrupted becomes absent; a run interrupted by a rescan, which kept its occupancy (R130), ends it. -/
def Arbiter.dropInterrupted (a : Arbiter) : Arbiter :=
  { (if a.interrupted.isSome then a.endOccupancy else a) with interrupted := none }

/-- No entry is current. -/
def clearCurrent (s : State) : State := s.onArbiter Arbiter.clearCurrent

/-- Take the current entry's RUN entry anew: class NORMAL, a new arrival, skip_count 0 and the given resume (R124, R125). -/
def requeueRun (job : Nat) (resume : Bool) (s : State) : State :=
  let start := runRunUp job s
  s.onArbiter fun a => (a.remove (.job job)).place
    { requester := .job job, cls := .normal, kind := .run, frame := none, start := start, arrival := 0, skip := 0,
      resume := resume }

/-- The job is a sweep that is RUNNING or REVISITING (R149). -/
def Job.running (j : Job) : Bool := j.body.isSweep && (j.state == .running || j.state == .revisiting)

/-- The job table does not hold an entry back: the RUN and ITEM entries of a sweep are held back while another sweep is
RUNNING or REVISITING (R120, R149). -/
def eligible (s : State) (e : QEntry) : Bool :=
  match e.requester with
  | .job n =>
    if (e.kind == .run || e.kind == .item) && (s.jobs.slots.any fun j => j.number == n && j.body.isSweep) then
      !s.jobs.slots.any fun j => j.number != n && j.running
    else true
  | _ => true

/-- An eligible entry of a class waits beside the current one. -/
def waitingOf (cls : QClass) (s : State) : Bool :=
  s.arbiter.queue.any fun e =>
    e.cls == cls && eligible s e && !(s.arbiter.current.any fun c => c.requester == e.requester)

/-! ### Stops of the leg in flight -/

/-- The sequencer's part when a run is stopped: it disarms as the stop is asked (R100). -/
def disarmRun (c : Current) (s : State) : State := if c.kind = .run then disarm s else s

/-- Ask the transport to stop the current leg for a cause. The first cause stands (log 11). Without a move in flight nothing
is asked. -/
def askStop (why : StopCause) (s : State) : State :=
  match s.arbiter.current with
  | none => s
  | some c =>
    if s.transport.move.isNone then s
    else
      let s1 := s.onArbiter fun a => { a with current := some { c with stop := c.stop.or (some why) } }
      stopMove (disarmRun c s1)

/-- End the current motion without a completion, or ask its leg to stop: the entry is withdrawn, whatever other cause stands
(R118). -/
def dropCurrent (s : State) : State :=
  match s.arbiter.current with
  | none => s
  | some c =>
    if s.transport.move.isNone then clearCurrent s
    else
      let s1 := s.onArbiter fun a => { a with current := some { c with stop := some .withdrawn } }
      stopMove (disarmRun c s1)

/-- A requester withdraws its entry (R118). -/
def withdraw (r : Requester) (s : State) : State :=
  let s1 := s.onArbiter fun a =>
    let b := a.remove r
    if a.interrupted = some r then b.dropInterrupted else b
  if s1.arbiter.current.any fun c => c.requester == r then dropCurrent s1 else s1

/-! ### Suspension and yield (R124, R125) -/

/-- An eligible URGENT entry was placed: the run is suspended unless it is immune (R125). While the run is being stopped or is
at a search frame, nothing is asked. -/
def suspendTest (s : State) : State :=
  match s.arbiter.current with
  | none => s
  | some c =>
    if c.kind = .run ∧ c.stop = none ∧ c.search = none ∧ !s.arbiter.runImmune ∧ waitingOf .urgent s then
      askStop .suspended s
    else s

/-- The conditions of a yield (R124). -/
def yieldDue (s : State) : Bool :=
  s.arbiter.yieldCount == Config.yieldFrames &&
    (waitingOf .normal s || (s.arbiter.runImmune && waitingOf .urgent s))

/-- The test made at each report, submission and re-target: the run yields (R124). -/
def yieldTest (s : State) : State :=
  match s.arbiter.current with
  | none => s
  | some c => if c.kind = .run ∧ c.stop = none ∧ c.search = none ∧ yieldDue s then askStop .yielded s else s

/-- A fire or a miss of a RUN trigger is counted (R124). -/
def countRun (s : State) : State :=
  yieldTest (s.onArbiter fun a => { a with yieldCount := min Config.yieldFrames (a.yieldCount + 1) })

/-! ### Submission (R117, R118) -/

/-- Submit an entry, or re-target the one held (R117); that a re-target leaves the entry's resume as it was is the model's choice
(log 64). A re-target of the current entry from kind INDEX stops the move in flight (R118); the current motion keeps the kind it was
selected with until it ends (log 48). -/
def submit (r : Requester) (cls : QClass) (k : QKind) (frame : Option Nat) (s : State) : State :=
  let start := startPosition r k frame s
  match s.arbiter.entryOf r with
  | none =>
    let s1 := s.onArbiter fun a => a.place
      { requester := r, cls := cls, kind := k, frame := frame, start := start, arrival := 0, skip := 0, resume := false }
    yieldTest (if cls = .urgent then suspendTest s1 else s1)
  | some old =>
    let s1 := s.onArbiter fun a => a.modifyEntry r fun e =>
      { e with cls := cls, kind := k, frame := frame, start := start }
    let s2 := match s1.arbiter.current with
      | some c =>
        if c.requester = r ∧ c.kind = .index ∧ old.kind = .index ∧ k ≠ .index then
          if s1.transport.move.isNone then clearCurrent s1 else askStop .retarget s1
        else s1
      | none => s1
    yieldTest s2

/-- A job submits its entry. -/
def submitJob (n : Nat) (k : QKind) (frame : Option Nat) (s : State) : State :=
  match openJob n s with
  | none => s
  | some j => submit (.job n) (if j.urgent then .urgent else .normal) k frame s

/-! ### Read-ahead (R127) -/

/-- The conditions under which a READ_AHEAD entry is kept (R127). -/
def readAheadWanted (s : State) : Bool :=
  s.transport.profile.readAhead && s.index.state == .growing &&
    s.transport.state != .empty && s.transport.state != .threading && s.transport.state != .rewinding

/-- Place or withdraw the READ_AHEAD entry by its conditions (R127). -/
def syncReadAhead (s : State) : State :=
  match s.arbiter.entryOf .arbiter, readAheadWanted s with
  | none, true => submit .arbiter .background .readAhead none s
  | some _, false => withdraw .arbiter s
  | _, _ => s

/-- A non-background entry waits beside the current READ_AHEAD: its leg is stopped (R128). -/
def preemptReadAhead (s : State) : State :=
  match s.arbiter.current with
  | none => s
  | some c =>
    if c.kind = .readAhead ∧ c.stop = none ∧ (waitingOf .internal s || waitingOf .urgent s || waitingOf .normal s) then
      askStop .preempted s
    else s

/-! ### Holds and marks (R122, R123) -/

/-- Set or clear capture_hold. -/
def setCaptureHold (v : Bool) (s : State) : State := s.onArbiter fun a => { a with captureHold := v }

/-- Set or clear search_hold. -/
def setSearchHold (v : Bool) (s : State) : State := s.onArbiter fun a => { a with searchHold := v }

/-- Set or clear roll_claim. -/
def setRollClaim (v : Bool) (s : State) : State := s.onArbiter fun a => { a with rollClaim := v }

/-- Set or clear blocked. -/
def setBlocked (v : Bool) (s : State) : State := s.onArbiter fun a => { a with blocked := v }

/-- Remove the internal and background entries, with interrupted and blocked (R116). A REFERENCE, RESCAN or READ_AHEAD that is
current is stopped with its entry. -/
def clearInternal (s : State) : State :=
  let s1 := withdraw .arbiter (withdraw .tracker (withdraw .transport s))
  setBlocked false (s1.onArbiter Arbiter.dropInterrupted)

end Sys2Proof.Machine
end

