-- ==== Sys2Proof/Machine/Resolve.lean ====
section
/-! DEFINITION. How jobs end, resolve their targets and choose their next motion (chapter 7). -/

namespace Sys2Proof.Machine

/-! ### The end of a job (R154) -/

/-- JOB_DONE is queued on the job's link, unless the link is in break (R183). -/
def queueJobDone (l : LinkId) (n : Nat) (s : State) : State :=
  s.onLink l fun u => if u.receiver = .brk then u else { u with jobDone := u.jobDone ++ [n] }

/-- What the record of an ended job keeps of the index (R154); for one ended by a freeze, before the frontier falls (log 54). -/
def closeBody (s : State) : JobBody → JobBody
  | .indexTo t found _ _ => .indexTo t found (some s.index.count) (some s.index.frontier)
  | b => b

/-- An open job reaches a final state: it withdraws its entry, its revisit list is discarded, a LOAD or UNLOAD clears
roll_claim, and JOB_DONE is raised (R154). A number of no open job changes nothing. -/
def endJob (n : Nat) (st : JobState) (why : EndReason) (s : State) : State :=
  match openJob n s with
  | none => s
  | some j =>
    let s1 := modifyJob n (fun j =>
      { j with state := st, endReason := why, waitClear := false, body := closeBody s j.body }) s
    let s2 := discardRevisit n (withdraw (.job n) s1)
    let s3 := if j.body.isRoll then setRollClaim false s2 else s2
    queueJobDone j.link n s3

/-! ### INDEX entries -/

/-- A job with a BEYOND target holds an INDEX entry. -/
def ensureIndex (n : Nat) (s : State) : State :=
  if (s.arbiter.entryOf (.job n)).any fun e => e.kind == .index then s else submitJob n .index none s

/-! ### FETCH (R144 to R146) -/

/-- An item that waits for its capture. -/
def Item.ready (i : Item) : Bool := i.outcome == .pending && i.resolved.isSome && !i.inCapture

/-- T of an item's frame. -/
def Item.trigger (s : State) (i : Item) : Nat := (i.resolved.bind fun n => triggerPosition s n).getD 0

/-- The item, by its index from `k`, whose trigger position lies nearest the position count; a tie goes to the lower index
(R144). -/
def nearestItem (s : State) : Nat → List Item → Option (Nat × Nat)
  | _, [] => none
  | k, i :: is =>
    let d := dist (i.trigger s) s.transport.position
    match nearestItem s (k + 1) is with
    | none => if i.ready then some (k, d) else none
    | some (m, dm) => if i.ready ∧ d ≤ dm then some (k, d) else some (m, dm)

/-- The final state of a FETCH with no PENDING item (R146). -/
def fetchFinal (is : List Item) : JobState :=
  if is.all fun i => i.outcome == .captured then .done
  else if is.any fun i => i.outcome == .captured then .part else .failed

/-- The job chooses its next motion (R144). -/
def fetchChoose (n : Nat) (s : State) : State :=
  match openJob n s with
  | some { body := .fetch is, .. } =>
    match nearestItem s 1 is with
    | some (k, _) =>
      let s1 := setJobState n .running (modifyItem n k (fun i => { i with inCapture := true }) s)
      submitJob n .item ((is[k - 1]?).bind fun i => i.resolved) s1
    | none =>
      if is.any fun i => i.outcome == .pending then ensureIndex n (setJobState n .resolving s)
      else endJob n (fetchFinal is) .none s
  | _ => s

/-- Try an item again (R140, R141). -/
def retryItem (final : Bool) (s : State) (i : Item) : Item :=
  if i.outcome == .pending && i.resolved.isNone then
    match resolve final i.target s with
    | .found k => { i with resolved := some k }
    | .notFound => { i with outcome := .notFound }
    | .beyond => i
  else i

/-! ### SEEK (R143) -/

/-- Try a SEEK's target: on starting, and while it is BEYOND (R143). -/
def seekTry (n : Nat) (final : Bool) (s : State) : State :=
  match openJob n s with
  | some { body := .seek t none o f, .. } =>
    match resolve final t s with
    | .found k =>
      submitJob n .seek (some k)
        (modifyJob n (fun j => { j with state := .running, body := .seek t (some k) o f }) s)
    | .beyond => ensureIndex n (setJobState n .resolving s)
    | .notFound => endJob n .failed .notFound s
  | _ => s

/-! ### INDEX_TO (R147) -/

/-- Test an INDEX_TO's target (R147). -/
def indexToTry (n : Nat) (final : Bool) (s : State) : State :=
  match openJob n s with
  | some { body := .indexTo t _ _ _, .. } =>
    match t with
    | .rollEnd =>
      if s.index.state = .complete then endJob n .done .none s
      else if s.index.frozen then endJob n .part .frozen s
      else if final then endJob n .part .limit s
      else ensureIndex n (setJobState n .running s)
    | t =>
      match resolve final t s with
      | .found k =>
        endJob n .done .none (modifyJob n (fun j => { j with body := .indexTo t (some k) none none }) s)
      | .notFound => endJob n .failed .notFound s
      | .beyond => ensureIndex n (setJobState n .running s)
  | _ => s

/-! ### SWEEP bounds (R148) -/

/-- What trying a bound of a sweep gives. -/
inductive BoundResult where
  | at (n : Nat)
  | rollEnd
  | beyond
  | fails (why : EndReason)
  deriving DecidableEq, Repr

/-- Resolve the from bound (R148). -/
def resolveFrom (final : Bool) (t : Target) (s : State) : BoundResult :=
  match resolve final t s with
  | .found n => .at n
  | .beyond => .beyond
  | .notFound =>
    match t with
    | .address a => match firstAbove a s.index with
      | some n => .at n
      | none => .fails .notFound
    | _ => .fails .notFound

/-- Resolve the to bound (R148); on an index with no entries a NOT_FOUND one fails with RANGE (log 57). -/
def resolveTo (final : Bool) (t : Target) (s : State) : BoundResult :=
  match t with
  | .rollEnd => .rollEnd
  | .frame n =>
    match resolve final (.frame n) s with
    | .found k => .at k
    | .beyond => .beyond
    | .notFound => if s.index.count = 0 then .fails .range else .at (s.index.count - 1)
  | .address a =>
    match resolve final (.address a) s with
    | .found k => .at k
    | .beyond => .beyond
    | .notFound => match highestBelow a s.index with
      | some k => .at k
      | none => .fails .range

/-- The frame lies above the end of a range. -/
def EndFrame.below : EndFrame → Nat → Bool
  | .frame e, n => e < n
  | .rollEnd, _ => false

/-- A bound as resolved before, or as it resolves now. -/
def boundNow (known : Option EndFrame) (now : BoundResult) : BoundResult :=
  match known with
  | some (.frame n) => .at n
  | some .rollEnd => .rollEnd
  | none => now

/-- The bound that a result settles. -/
def BoundResult.bound : BoundResult → Option EndFrame
  | .at n => some (.frame n)
  | .rollEnd => some .rollEnd
  | _ => none

/-- The frame that a result settles. -/
def BoundResult.frame : BoundResult → Option Nat
  | .at n => some n
  | _ => none

/-- Try a sweep's bounds, and pass on with both resolved (R148, R149). Where both fail in one try the end_reason is that of the from
bound (log 47). -/
def sweepTry (n : Nat) (final : Bool) (s : State) : State :=
  match openJob n s with
  | some { body := .sweep r, .. } =>
    if r.fromFrame.isSome && r.endFrame.isSome then s
    else
      let f := boundNow (r.fromFrame.map EndFrame.frame) (resolveFrom final r.fromT s)
      let e := boundNow r.endFrame (resolveTo final r.toT s)
      let s1 := modifySweep n (fun r => { r with fromFrame := f.frame, endFrame := e.bound }) s
      match f, e with
      | .fails why, _ => endJob n .failed why s1
      | _, .fails why => endJob n .failed why s1
      | _, _ =>
        match f.frame, e.bound with
        | some x, some y =>
          if y.below x then endJob n .failed .range s1
          else
            submitJob n .run none
              (setJobState n .queued (modifySweep n (fun r => { r with nextFrame := some x }) s1))
        | _, _ => ensureIndex n (setJobState n .resolving s1)
  | _ => s

/-! ### Starting and trying again (R138, R141, R147) -/

/-- Start a SEEK, FETCH, SWEEP or INDEX_TO job (R138). -/
def startJob (n : Nat) (s : State) : State :=
  match openJob n s with
  | none => s
  | some j =>
    let s1 := modifyJob n (fun j => { j with waitClear := false }) s
    match j.body with
    | .seek _ _ _ _ => seekTry n false s1
    | .fetch _ => fetchChoose n (modifyItems n (fun is => is.map (retryItem false s1)) s1)
    | .sweep _ => sweepTry n false s1
    | .indexTo _ _ _ _ => indexToTry n false s1
    | .load | .unload => s1

/-- Try a job's targets again (R141, R147); a job QUEUED for a halt is left alone. A FETCH chooses again only while it is
RESOLVING (R144). -/
def retryJob (final : Bool) (n : Nat) (s : State) : State :=
  match openJob n s with
  | none => s
  | some j =>
    if j.waitClear then s
    else match j.body with
      | .seek _ _ _ _ => seekTry n final s
      | .fetch _ =>
        let s1 := modifyItems n (fun is => is.map (retryItem final s)) s
        if j.state = .resolving then fetchChoose n s1 else s1
      | .sweep _ => sweepTry n final s
      | .indexTo _ _ _ _ => indexToTry n final s
      | .load | .unload => s

/-- The numbers of the jobs in slots, in the order they were accepted. -/
def jobNumbers (s : State) : List Nat := s.jobs.slots.map (·.number)

/-- Every open job tries again, on an append or a change of index state (R141, R147). -/
def retryJobs (s : State) : State := (jobNumbers s).foldl (fun acc n => retryJob false n acc) s

/-! ### A sweep's progress (R150 to R153) -/

/-- A frame of the sweep was fired, missed or taken at rest: next_frame moves to the frame after it (R150). -/
def advanceSweep (n frame : Nat) (s : State) : State :=
  modifySweep n (fun r =>
    { r with nextFrame :=
        if s.index.count ≤ frame + 1 || (r.endFrame.any fun e => e.below (frame + 1)) then none
        else some (frame + 1) }) s

/-- The index appended frame `k`: a sweep to ROLL_END with no next frame takes it (R150). -/
def sweepsTakeAppended (k : Nat) (s : State) : State :=
  (jobNumbers s).foldl (fun acc n =>
    modifySweep n (fun r =>
      if r.nextFrame.isNone && r.fromFrame.isSome && r.endFrame == some .rollEnd then { r with nextFrame := some k }
      else r) acc) s

/-- A sweep at the end of its run and revisits ends with the state that captured and the range size decide (R153). -/
def endSweep (n : Nat) (s : State) : State :=
  match sweepOf n s with
  | none => s
  | some r =>
    endJob n (if r.captured = 0 then .failed else if r.captured < r.rangeSize then .part else .done) .none s

/-- The frame of a list whose trigger position lies nearest the position count; a tie goes to the lower frame (R152). -/
def nearestFrame (s : State) : List Nat → Option Nat
  | [] => none
  | n :: ns =>
    match nearestFrame s ns with
    | none => some n
    | some m =>
      let d (k : Nat) := dist ((triggerPosition s k).getD 0) s.transport.position
      if d n ≤ d m then some n else some m

/-- A sweep submits its next revisit, or ends with none left (R152). -/
def revisitNext (n : Nat) (s : State) : State :=
  match nearestFrame s ((s.capture.revisitOf n).getD []) with
  | none => endSweep n s
  | some f => submitJob n .item (some f) s

/-- A CAPTURE trigger fired for the job is outstanding (R151). -/
def Capture.outstandingFor (c : Capture) (n : Nat) : Bool :=
  match c.outstanding with
  | some (.capture _ shot) => shot.trigger.job == n
  | _ => false

/-- What a sweep with its bounds resolved does next (R151): a run not yet at its boundary is submitted again, as is one whose boundary
was reached with frames left; else a tail frame's ITEM, the revisits, or the end. A SUSPENDED sweep stays so until its entry is made
current (log 22). -/
def sweepChoose (n : Nat) (s : State) : State :=
  match openJob n s with
  | some { body := .sweep r, state := st, .. } =>
    match r.runEnded, r.nextFrame with
    | none, _ => if r.fromFrame.isSome && r.endFrame.isSome then submitJob n .run none s else s
    | some .reached, some _ => submitJob n .run none (modifySweep n (fun r => { r with runEnded := none }) s)
    | some _, some f => submitJob n .item (some f) s
    | some _, none =>
      let s1 := modifySweep n (fun r =>
        { r with endFrame := if r.endFrame = some .rollEnd then some (.frame (s.index.count - 1)) else r.endFrame }) s
      if r.revisit && !((s.capture.revisitOf n).getD []).isEmpty then
        revisitNext n (if st = .suspended then s1 else setJobState n .revisiting s1)
      else endSweep n s1
  | _ => s

/-- The sweep's decision at the end of its run leg and after each tail frame (R151). Nothing is decided while a CAPTURE trigger
of the job is outstanding, while its stationary capture is held, or while it holds an entry. -/
def sweepDecide (n : Nat) (s : State) : State :=
  if s.capture.outstandingFor n || (s.capture.holding.any fun h => h.trigger.job == n) ||
      (s.arbiter.entryOf (.job n)).isSome then s
  else sweepChoose n s

/-! ### Reports of captures (R145, R150, R152, R164) -/

/-- A motion or stationary capture of the job is under way. -/
def jobInMotion (n : Nat) (s : State) : Bool :=
  (s.capture.holding.any fun h => h.trigger.job == n) ||
    (s.arbiter.current.any fun c => c.requester == .job n && c.stop != some .withdrawn)

/-- The job's entry is an ITEM for the frame. -/
def holdsItem (n frame : Nat) (s : State) : Bool :=
  (s.arbiter.entryOf (.job n)).any fun e => e.kind == .item && e.frame == some frame

/-- The capture of a frame ended with an outcome: an item takes it and the job, with no other item of it under way (R164), chooses
again; a revisit leaves the list; a search or tail frame is reported and next_frame moves past it, an ITEM entry held for it going on
to what comes next (R145, R150 to R152, R164). -/
def jobCaptureEnded (a : Armed) (o : ItemOutcome) (s : State) : State :=
  match openJob a.job s with
  | some { body := .fetch _, .. } =>
    let s1 := modifyItem a.job (a.item.getD 0)
      (fun i => { i with outcome := o, inCapture := false }) s
    if jobInMotion a.job s1 then s1
    else fetchChoose a.job (modifyItems a.job (fun is => is.map fun i => { i with inCapture := false }) s1)
  | some { body := .sweep r, .. } =>
    if a.kind = .revisit then
      revisitNext a.job (modifySweep a.job (fun r => { r with revisits := min Config.revisitMax (r.revisits + 1) })
        (modifyRevisit a.job (fun ns => ns.filter fun m => m != a.frame) s))
    else
      let s1 := if r.nextFrame = some a.frame then advanceSweep a.job a.frame s else s
      if holdsItem a.job a.frame s1 then sweepChoose a.job s1 else sweepDecide a.job s1
  | _ => s

/-- The capture of a held frame was returned unfired: it is still to be captured. A tail frame, or a search frame that a halt left its
ITEM entry, is submitted anew unless its entry is still queued; at a search frame within a run the run's entry is (R145, R151, R152,
R163). -/
def jobUnfired (a : Armed) (s : State) : State :=
  match openJob a.job s with
  | some { body := .fetch _, .. } =>
    fetchChoose a.job (modifyItem a.job (a.item.getD 0) (fun i => { i with inCapture := false }) s)
  | some { body := .sweep _, .. } =>
    if a.kind = .revisit then revisitNext a.job s
    else if (s.arbiter.entryOf (.job a.job)).isNone then submitJob a.job .item (some a.frame) s
    else s
  | _ => s

/-- A DONE was filed for the job: an item's captures or a sweep's captured rises (R145, R150). -/
def jobDoneFiled (a : Armed) (s : State) : State :=
  match a.item with
  | some k => modifyItem a.job k (fun i => { i with captures := min 15 (i.captures + 1) }) s
  | none => modifySweep a.job (fun r => { r with captured := min Config.maxEntries (r.captured + 1) }) s

/-- A missed or failed frame of a run is offered to the sweep's revisit list (R112). -/
def offerRevisit (job frame : Nat) (s : State) : State :=
  match s.capture.revisitOf job with
  | none => s
  | some ns =>
    if ns.contains frame then s
    else if ns.length < Config.revisitMax then modifyRevisit job (insertFrame frame) s
    else modifySweep job (fun r => { r with overflow := true }) s

end Sys2Proof.Machine
end

