-- ==== Sys2Proof/Machine/LensWork.lean ====
section
/-! DEFINITION. Lens work: homing, slewing, search trials and the end of a search (4.2, 4.5, 4.6). -/

namespace Sys2Proof.Machine

/-- Lens work is present: a slew entry or a search (R74). -/
def Focus.hasWork (f : Focus) : Bool := !f.slew.isEmpty || f.search.isSome

/-- The end of a homing: step 0, recal_required clear, and the work that waited proceeds (R75). -/
def endHoming (s : State) : State :=
  s.onFocus fun f =>
    { f with lens := some 0, recal := false, state := if f.search.isSome then .searching else .idle }

/-- Homing starts; with the home switch level already set it ends at once (R75). -/
def startHoming (s : State) : State :=
  let s1 := s.onFocus fun f => { f with state := .homing, homeCount := 0, lens := none }
  if s.pins.levels.homeSwitch then endHoming s1 else s1

/-- The lens serves the head slew entry in IDLE or SLEWING: its target is computed once, and the lens is IDLE at it or SLEWING
toward it (R86). -/
def serveHead (s : State) : State :=
  match s.focus.slew with
  | [] => s
  | e :: rest =>
    let tgt := e.target.getD (slewTarget e s)
    s.onFocus fun f => { f with slew := { e with target := some tgt } :: rest,
                                state := if f.lens = some tgt then .idle else .slewing }

/-- The outcome of a search is decided (R91). -/
def finishSearch (sr : FocusSearch) (s : State) : State :=
  let done (r : FocusResult) (s : State) : State :=
    setSearchHold false (s.onFocus fun f => { f with search := none, state := .idle, result := some r })
  match sr.strong s.transport.profile.metricFloor with
  | some best =>
    done { frame := sr.frame, lens := best }
      (s.onFocus fun f =>
        { f with map := placePoint { position := sr.mid, lens := best, source := .search } f.map })
  | none => done { frame := sr.frame, lens := sr.start } (reportWeak sr.frame s)

/-- Put the search record's trial under way at a stage. -/
def setStage (st : TrialStage) (s : State) : State :=
  s.onFocus fun f => { f with search := f.search.map fun sr => { sr with stage := st } }

/-- Fire the TRIAL trigger of the trial under way (R89, R95). -/
def fireTrial (s : State) : State :=
  setStage .fired (s.onCapture fun c =>
    { c with handshake := .waitAnswer, outstanding := some (.trial s.transport.profile.answerLimit) })

/-- A search goes on in SEARCHING: with the lens at the trial step the TRIAL is fired or waits for the handshake; with no step
left the outcome is decided (R89 to R91). -/
def serveTrial (s : State) : State :=
  match s.focus.search with
  | none => s
  | some sr =>
    match sr.steps with
    | [] => finishSearch sr s
    | st :: _ =>
      if s.focus.lens = some st then
        match sr.stage with
        | .fired => s
        | .waiting _ => if mayFire s then fireTrial s else s
        | .stepping => if mayFire s then fireTrial s else setStage (.waiting s.transport.profile.answerLimit) s
      else s

/-- The work proceeds in the lens states that serve it. -/
def serveLens (s : State) : State :=
  match s.focus.state with
  | .idle | .slewing => serveHead s
  | .searching => serveTrial s
  | .unhomed | .homing | .faulted => s

/-- Lens work is served; while the part is HALTED none is (R74, R78). -/
def serviceLens (s : State) : State :=
  if s.fault.halted then s
  else if s.focus.state = .unhomed ∧ s.focus.hasWork then serveLens (startHoming s)
  else serveLens s

/-- One step toward a step number. -/
def stepToward (target lens : Nat) : Nat :=
  if lens < target then lens + 1 else if target < lens then lens - 1 else lens

/-- A step command is issued: counted in HOMING, toward the head entry's target in SLEWING, toward the trial step in SEARCHING
(R74, R75, R86, R89). No step is issued in another state. -/
def issueStep (s : State) : State :=
  match s.focus.state with
  | .homing =>
    if s.focus.homeCount < Config.homingSteps then s.onFocus fun f => { f with homeCount := f.homeCount + 1 } else s
  | .slewing =>
    match s.focus.slew, s.focus.lens with
    | { target := some tgt, .. } :: _, some n => s.onFocus fun f => { f with lens := some (stepToward tgt n) }
    | _, _ => s
  | .searching =>
    match s.focus.search, s.focus.lens with
    | some { steps := st :: _, .. }, some n => s.onFocus fun f => { f with lens := some (stepToward st n) }
    | _, _ => s
  | .unhomed | .idle | .faulted => s

/-- A step command is issued in the lens state. -/
def issuesSteps (s : State) : Bool :=
  match s.focus.state with
  | .homing => s.focus.homeCount < Config.homingSteps
  | .slewing => match s.focus.slew, s.focus.lens with
    | { target := some tgt, .. } :: _, some n => n != tgt
    | _, _ => false
  | .searching => match s.focus.search, s.focus.lens with
    | some { steps := st :: _, .. }, some n => n != st
    | _, _ => false
  | .unhomed | .idle | .faulted => false

/-- A search is taken for a frame on the axis (R88). -/
def beginSearch (frame mid job : Nat) (s : State) : State :=
  setSearchHold true (s.onFocus fun f =>
    { f with result := none, search := some (FocusSearch.begin frame mid (focusTarget mid s) job),
             state := if f.state = .idle ∨ f.state = .slewing then .searching else f.state })

/-- A trial's answer comes to the focus controller; without a trial fired no search receives it (R89, R92). -/
def recordTrial (metric : Nat) (answered : Bool) (s : State) : State :=
  match s.focus.search with
  | some { stage := .fired, .. } =>
    s.onFocus fun f => { f with search := f.search.map fun sr => sr.record metric answered }
  | _ => s

/-- A trial's wait for the handshake ran out: the search ends early (R89, R91). -/
def trialWaitEnds (s : State) : State :=
  match s.focus.search with
  | some sr => match sr.stage with
    | .waiting _ => finishSearch sr s
    | _ => s
  | none => s

/-- The first stall of a stepping lens: UNHOMED with recal_required; a search in progress reports WEAK at its starting target
(R77, R92). -/
def lensLosesHome (s : State) : State :=
  let s1 := match s.focus.search with
    | none => s
    | some sr =>
      setSearchHold false (reportWeak sr.frame (s.onFocus fun f =>
        { f with search := none, result := some { frame := sr.frame, lens := sr.start } }))
  s1.onFocus fun f => { f with state := .unhomed, lens := none, recal := true }

/-- The lens fails: FAULTED, a search in progress abandoned (R76, R77, R92). -/
def lensFails (s : State) : State :=
  (abandonSearch s).onFocus fun f => { f with state := .faulted, lens := none }

end Sys2Proof.Machine
end

