-- ==== Sys2Proof/Machine/Stationary.lean ====
section
/-! DEFINITION. Firing, answers, and the stationary capture (5.2, 5.4, 5.6). -/

namespace Sys2Proof.Machine

/-! ### Firing and missing -/

/-- Fire a CAPTURE trigger (R95). -/
def fireCapture (a : Armed) (s : State) : State :=
  let lens := s.focus.lens.getD 0
  let shot : CaptureShot :=
    { trigger := a, address := ((s.index.entries[a.frame]?).map (·.address)).getD s.transport.profile.startAddress,
      lens := lens, link := ((openJob a.job s).map (·.link)).getD .a, drop := false, orphan := false }
  let s1 := s.onCapture fun c =>
    { c with handshake := .waitAnswer, outstanding := some (.capture s.transport.profile.answerLimit shot) }
  let s2 := unarm a.frame (reportFired a.frame lens s1)
  s2.onFocus fun f => { f with result := if f.result.any fun r => r.frame == a.frame then none else f.result }

/-- A frame is MISSED: the index, the focus controller and last_miss (R101, R109). -/
def missFrame (a : Armed) (why : MissReason) (s : State) : State :=
  setLastMiss a.frame why (unarm a.frame (reportMissed a.frame s))

/-! ### The stationary capture -/

/-- Put the stationary capture at a phase. -/
def setPhase (p : StationaryPhase) (s : State) : State :=
  s.onCapture fun c => { c with holding := c.holding.map fun h => { h with phase := p } }

/-- The current motion is a run at the search frame it stopped for (R126). -/
def atSearchFrame (s : State) : Bool :=
  s.arbiter.current.any fun c => c.kind == .run && c.search.isSome

/-- The transport is released to the arbiter (R110, R123). -/
def release (s : State) : State := setCaptureHold false s

/-- The stationary capture of a search frame ended inside a run: one more toward its yield (R124). -/
def countSearchFrame (s : State) : State :=
  if atSearchFrame s then
    s.onArbiter fun a => { a with yieldCount := min Config.yieldFrames (a.yieldCount + 1) } else s

/-- A stationary capture begins: its motion is handed, the trigger is armed (R108). -/
def beginStationary (a : Armed) (s : State) : State :=
  armTrigger a ((disarm s).onCapture fun c =>
    { c with holding := some { trigger := a, attempt := 1, phase := .movingToAxis } })

/-- The stationary capture ends with an outcome (R110). -/
def endStationary (a : Armed) (o : ItemOutcome) (s : State) : State :=
  jobCaptureEnded a o (release (countSearchFrame (s.onCapture fun c => { c with holding := none })))

/-- The stationary capture is returned unfired (R108, R109). -/
def returnUnfired (a : Armed) (s : State) : State :=
  jobUnfired a (release ((disarm s).onCapture fun c => { c with holding := none }))

/-- The frame is MISSED at the axis (R109, R110). -/
def missAtAxis (a : Armed) (why : MissReason) (s : State) : State := endStationary a .missed (missFrame a why s)

/-- Step 6 of R109, with the handshake READY. -/
def fireAtAxis (a : Armed) (s : State) : State :=
  if s.capture.ringFull then missAtAxis a .ringFull s else setPhase .waitAnswer (fireCapture a s)

/-- Step 5 of R109. -/
def awaitCamera (a : Armed) (s : State) : State :=
  if s.capture.handshake = .ready then fireAtAxis a s
  else setPhase (.waitCamera s.transport.profile.answerLimit) s

/-- Steps 3 and 4 of R109. -/
def awaitLens (a : Armed) (s : State) : State :=
  if atTarget a.frame s then
    if s.capture.ringFull then missAtAxis a .ringFull s else awaitCamera a s
  else s

/-- The focus policy of a job is SEARCH. -/
def policySearch (job : Nat) (s : State) : Bool := (openJob job s).any (·.search)

/-- Step 2 of R109: a frame that needs a search gives up its trigger and a search is taken (R111), else WAIT_LENS. -/
def atAxisStep (a : Armed) (s : State) : State :=
  let mid := a.t - s.transport.profile.axisOffset
  if needsSearch a.frame mid (policySearch a.job s) s && s.focus.search.isNone then
    setPhase .searching (beginSearch a.frame mid a.job (disarm s))
  else awaitLens a (setPhase .waitLens s)

/-- The stationary capture goes on as far as it can (R109, R111): a held capture whose reference left EXACT or whose transport is
not READY is returned unfired; after a search that ended it re-arms and goes on from step 3. -/
def serviceStationary (s : State) : State :=
  match s.capture.holding with
  | none => s
  | some h =>
    let lost := s.transport.reference != .exact || s.transport.state != .ready
    match h.phase with
    | .movingToAxis | .waitAnswer => s
    | .atAxis => if lost then returnUnfired h.trigger s else atAxisStep h.trigger s
    | .searching =>
      if lost then returnUnfired h.trigger (abandonSearch s)
      else if s.focus.search.isSome then s
      else awaitLens h.trigger (serviceLens (setPhase .waitLens (armTrigger h.trigger s)))
    | .waitLens => if lost then returnUnfired h.trigger s else awaitLens h.trigger s
    | .waitCamera _ =>
      if lost then returnUnfired h.trigger s
      else if s.capture.handshake = .ready then fireAtAxis h.trigger s else s

/-- The completion of a stop-at-trigger move (R108, R123). -/
def stationaryMoved (o : MoveOutcome) (s : State) : State :=
  match s.capture.holding with
  | none => s
  | some h =>
    match o with
    | .reached | .clamped => setPhase .atAxis (setCaptureHold true s)
    | .rollEnd | .stopped => returnUnfired h.trigger s

/-! ### A job's captures are dropped (R114, R164) -/

/-- A job is cancelled or its work ends: its triggers are disarmed, its stationary capture and search abandoned (R114, R92). The
holds are cleared with them. -/
def dropCaptures (job : Nat) (s : State) : State :=
  let s1 := if s.capture.armed.any fun a => a.job == job then disarm s else s
  match s1.capture.holding with
  | none => s1
  | some h =>
    if h.trigger.job = job then
      release ((disarm (abandonSearch s1)).onCapture fun c => { c with holding := none })
    else s1

/-- The job's item in capture, where it is a FETCH (R144). -/
def itemOf (job : Nat) (s : State) : Option Nat :=
  match openJob job s with
  | some { body := .fetch is, .. } => itemInCapture 1 is
  | _ => none

/-- The trigger is one of the same frame and item for the same job. -/
def Armed.repeats (a b : Armed) : Bool := b.job == a.job && b.frame == a.frame && b.item == a.item

/-- The current motion is the job's ITEM motion to the trigger's frame, for the trigger's item. -/
def movesTo (a : Armed) (s : State) : Bool :=
  (s.arbiter.current.any fun c => c.requester == .job a.job && c.kind == .item && c.frame == some a.frame) &&
    itemOf a.job s == a.item

/-- A run of the job that is being stopped for a search of the frame stops to be taken anew instead (R126). -/
def dropSearchStop (a : Armed) (s : State) : State :=
  let again (c : Current) : Current :=
    if c.requester = .job a.job ∧ c.stop = some (.searchFrame a.frame) then { c with stop := some .sequencer } else c
  s.onArbiter fun x => { x with current := x.current.map again }

/-- A frame of which a DONE came late is not captured a second time (R164, log 40): a capture, trigger, search or motion that the job
has for it by now is dropped, and it leaves the revisit list. -/
def dropRepeat (a : Armed) (s0 : State) : State :=
  let s := modifyRevisit a.job (fun ns => ns.filter fun m => m != a.frame) (dropSearchStop a s0)
  let held := s.capture.holding.any fun h => a.repeats h.trigger
  let s1 :=
    if held then dropCaptures a.job s
    else if s.capture.armed.any a.repeats then unarm a.frame s
    else s
  if movesTo a s1 then withdraw (.job a.job) s1
  else if held then askStop .sequencer s1
  else s1

/-! ### Answers and filing (R96, R97, R103, R110) -/

/-- The capture record of a settled trigger (R103). -/
def CaptureShot.record (shot : CaptureShot) (o : CaptureOutcome) (why : FailReason) : CaptureRecord where
  job     := shot.trigger.job
  link    := shot.link
  item    := shot.trigger.item
  frame   := shot.trigger.frame
  address := shot.address
  t       := shot.trigger.t
  lens    := shot.lens
  kind    := shot.trigger.kind
  outcome := o
  reason  := why
  drop    := shot.drop

/-- Re-arm the frame for its second attempt (R110). -/
def retryStationary (a : Armed) (s : State) : State :=
  (armTrigger a s).onCapture fun c => { c with holding := some { trigger := a, attempt := 2, phase := .atAxis } }

/-- What the answer to a held frame's trigger decides (R110), to a trigger whose capture a halt abandoned (R164), and to a run's
last trigger for a sweep that waits (R151). -/
def captureDecides (shot : CaptureShot) (o : CaptureOutcome) (s : State) : State :=
  match s.capture.holding with
  | some { trigger := a, attempt := k, phase := .waitAnswer } =>
    match o with
    | .done => endStationary a .captured s
    | .fail => if k = 1 then retryStationary a s else endStationary a .failed s
  | _ =>
    if shot.orphan && o == .done then jobCaptureEnded shot.trigger .captured (dropRepeat shot.trigger s)
    else sweepDecide shot.trigger.job s

/-- A CAPTURE outcome is filed and reported (R103). -/
def settleCapture (shot : CaptureShot) (o : CaptureOutcome) (why : FailReason) (s : State) : State :=
  let s1 := fileRecord (shot.record o why) s
  let s2 := match o with
    | .done => jobDoneFiled shot.trigger (reportDone shot.trigger.frame s1)
    | .fail =>
      let s3 := reportFail shot.trigger.frame s1
      if shot.trigger.kind = .run then offerRevisit shot.trigger.job shot.trigger.frame s3 else s3
  captureDecides shot o s2

/-- The outstanding trigger is settled; the handshake follows the READY level (R94, R96). -/
def clearOutstanding (s : State) : State :=
  refreshHandshake (s.onCapture fun c => { c with outstanding := none })

/-- An answer from the camera (R96). -/
def takeAnswer (ans : CameraAnswer) (s : State) : State :=
  match s.capture.outstanding with
  | none => s
  | some (.trial _) =>
    match ans with
    | .metric v => recordTrial v.toNat true (clearOutstanding s)
    | .done | .fail => recordTrial 0 false (clearOutstanding s)
  | some (.capture _ shot) =>
    match ans with
    | .done => settleCapture shot .done .none (clearOutstanding s)
    | .fail | .metric _ => settleCapture shot .fail .camera (clearOutstanding s)

/-- The answer limit ran out (R97). -/
def answerRunsOut (s : State) : State :=
  match s.capture.outstanding with
  | none => s
  | some o =>
    let s1 := clearOutstanding (s.onCapture fun c => { c with answerLock := true })
    match o with
    | .trial _ => recordTrial 0 false s1
    | .capture _ shot => settleCapture shot .fail .noAnswer s1

/-- The wait limit of WAIT_CAMERA ran out: MISSED, CAMERA_BUSY (R109). -/
def cameraWaitRunsOut (s : State) : State :=
  match s.capture.holding with
  | some { trigger := a, phase := .waitCamera _, .. } => missAtAxis a .cameraBusy s
  | _ => s

/-! ### Halt and cancel (R114, R115) -/

/-- Mark the outstanding trigger as that of an abandoned stationary capture (R164). -/
def orphanOutstanding (s : State) : State :=
  s.onCapture fun c =>
    { c with outstanding := c.outstanding.map fun o => match o with
        | .capture lim shot => .capture lim { shot with orphan := true }
        | o => o }

/-- The sequencer at a halt: the list disarmed, a stationary capture abandoned, and its job told that the frame is still to be
captured (R115). -/
def haltSequencer (s : State) : State :=
  match s.capture.holding with
  | none => disarm s
  | some h =>
    returnUnfired h.trigger (if h.phase = .waitAnswer then orphanOutstanding s else s)

/-- A LOAD start or the entry to EMPTY: the list disarmed and a stationary capture abandoned without outcome (R93). -/
def clearSequencer (s : State) : State :=
  let s1 := disarm s
  match s1.capture.holding with
  | none => s1
  | some _ => release ((abandonSearch s1).onCapture fun c => { c with holding := none })

end Sys2Proof.Machine
end

