-- ==== Sys2Proof/Machine/Reference.lean ====
section
/-! DEFINITION. Tracker modes and passes (R28 to R30), reference quality and its loss (R5, R21, R44, R51). -/

namespace Sys2Proof.Machine

/-! ### Passes and modes -/

/-- A pass begins or ends: open_mark is cleared, unmatched_run is 0, and what a VERIFYING pass gathers starts afresh (R28, R37,
R50, R52). An edge unmatched since the last match stays so across passes (R50). -/
def newPass (s : State) : State :=
  s.onTracker fun t =>
    { t with openMark := none, unmatchedRun := 0, passStart := s.transport.position, matched := [],
             gathering := [] }

/-- The parked opening of a discarded candidate (2.1, R30). -/
def Candidate.park (c : Candidate) : Parked where
  low          := c.low
  opening      := c.opening
  gapLength    := c.gapLength
  missing      := c.missing
  flags        := c.flags
  estimateDone := c.estimateDone

/-- INDEXING is left: an open candidate is parked and the frontier set to its low edge (R30). -/
def leaveIndexing (s : State) : State :=
  match s.tracker.candidate with
  | none => s
  | some c =>
    (s.onTracker fun t => { t with candidate := none, parked := some c.park }).onIndex fun ix => { ix with frontier := c.low }

/-- Take a mode; another mode is another pass (R28, R30). -/
def setMode (m : TrackerMode) (s : State) : State :=
  if s.tracker.mode = m then s
  else newPass ((if s.tracker.mode = .indexing then leaveIndexing s else s).onTracker fun t => { t with mode := m })

/-- The mode that the transport, the reference, the frontier and the index give a tracker that is not to enter INDEXING now
(R28). -/
def modeNow (s : State) : TrackerMode :=
  let fwd := s.transport.travel == .forward
  if s.transport.state != .moving || s.transport.reference == .lost || s.tracker.heldIdle then .idle
  else if s.tracker.mode == .indexing && fwd && s.transport.reference == .exact && !s.index.frozen then .indexing
  else if s.transport.position ≤ s.index.frontier || (s.index.frozen && fwd) then .verifying
  else .idle

/-- The mode is set again (R28). Where INDEXING is left and the frontier comes down with it, the mode follows the new
frontier. -/
def refreshMode (s : State) : State :=
  let s1 := setMode (modeNow s) s
  setMode (modeNow s1) s1

/-! ### Rescans withdrawn (R44) -/

/-- The tracker closes its rescan record undecided and withdraws the RESCAN motion (R44, R130). -/
def withdrawRescan (s : State) : State :=
  if s.tracker.rescan.isNone && (s.arbiter.entryOf .tracker).isNone then s
  else
    (withdraw .tracker (s.onTracker fun t => { t with rescan := none })).onArbiter Arbiter.dropInterrupted

/-! ### Re-reference (R21, R117) -/

/-- The film is threaded (R21). -/
def threaded (s : State) : Bool :=
  s.transport.state != .empty && s.transport.state != .threading && s.transport.state != .rewinding

/-- The transport asks for a REFERENCE motion; a second request is merged with the one queued (R21, R117). It takes the internal
place of a RESCAN (R44), and blocked is cleared (R122). -/
def askReference (s : State) : State :=
  if s.transport.reference = .lost ∧ !s.transport.leaderMissing ∧ threaded s then
    let s1 := withdrawRescan s
    let s2 := if (s1.arbiter.entryOf .transport).isSome then s1 else submit .transport .internal .reference none s1
    setBlocked false s2
  else s

/-! ### Reference quality (R5) -/

/-- The cause with which a move stopped by a loss of reference ends: a loss takes the place of a rescan, a search stop and a
re-target (R129). -/
def StopCause.afterLoss : Option StopCause → StopCause
  | none | some (.searchFrame _) | some .rescan | some .retarget => .lossOfRef
  | some c => c

/-- The move in flight outside a reference search is stopped by a loss of reference (R5, R9). -/
def stopForLoss (s : State) : State :=
  match s.transport.move with
  | none => s
  | some m =>
    if m.purpose = .reference then s
    else
      stopMove (s.onArbiter fun a => { a with current := a.current.map fun c =>
        { c with stop := some (StopCause.afterLoss c.stop) } })

/-- The reference became LOST: the tracker is IDLE and withdraws a rescan (R51), the sequencer disarms (R100), the move in flight
stops, and with motion wanted the transport asks for re-reference (R21). -/
def loseReference (s : State) : State :=
  let s1 := withdrawRescan (setMode .idle s)
  let s2 := s1.onTracker fun t => { t with openMark := none, openSplice := none, unmatchedRun := 0 }
  let s3 := stopForLoss (disarm s2)
  if s.arbiter.queue.isEmpty && !(s.transport.move.any fun m => m.purpose != .reference) then s3 else askReference s3

/-- Give the reference quality a value and tell the tracker, the sequencer and the focus controller (R5). -/
def setReference (r : Reference) (s : State) : State :=
  if s.transport.reference = r then s
  else
    let s1 := (if s.transport.reference = .exact then abandonSearch else id) (putReference r s)
    match r with
    | .lost => loseReference s1
    | .exact | .drifted => setBlocked false s1

/-- A reference search is under way. -/
def searchingLeader (s : State) : Bool := s.transport.search.isSome

/-- The tracker asks for loss of reference: without effect while it is LOST, ignored during a reference search (R5, R51). -/
def askLoss (s : State) : State :=
  if s.transport.reference = .lost ∨ searchingLeader s then s else setReference .lost s

/-- EXACT becomes DRIFTED: a tracker that was INDEXING leaves it, and with the position count still above the frontier asks for
loss of reference (R4, R28). -/
def driftReference (s : State) : State :=
  if s.transport.reference = .exact then
    let was := s.tracker.mode
    let s1 := refreshMode (setReference .drifted s)
    if was = .indexing ∧ s1.index.frontier < s1.transport.position then askLoss s1 else s1
  else s

end Sys2Proof.Machine
end

