-- ==== Sys2Proof/Machine/IndexEvents.lean ====
section
/-! DEFINITION. The index grows, changes state, is cut and emptied; a run's triggers are armed from it (chapter 3, R99). -/

namespace Sys2Proof.Machine

/-! ### Arming a run (R99) -/

/-- The job whose run leg is in flight and not being stopped. -/
def runningLeg (s : State) : Option Nat :=
  match s.arbiter.current, s.transport.move with
  | some { requester := .job n, kind := .run, leg := .main, stop := none, search := none, .. }, some m =>
    if m.purpose = .run ∧ s.transport.state = .moving ∧ !m.stopping then some n else none
  | _, _ => none

/-- The next frame to arm: the one after the last armed, or the sweep's next frame. -/
def nextToArm (r : SweepRec) (s : State) : Option Nat :=
  match s.capture.armed.getLast? with
  | some a => some (a.frame + 1)
  | none => r.nextFrame

/-- Arm the next frames of the run, `fuel` of them at most (R99). A frame whose T lies at or below the position count stops the
run. -/
def armFrames (job : Nat) : Nat → State → State
  | 0, s => s
  | fuel + 1, s =>
    match sweepOf job s with
    | none => s
    | some r =>
      match r.nextFrame.bind fun _ => nextToArm r s with
      | none => s
      | some n =>
        if (r.endFrame.any fun e => e.below n) || Config.armedMax ≤ s.capture.armed.length then s
        else match triggerPosition s n with
        | none => s
        | some t =>
          if t ≤ s.transport.position then askStop .sequencer s
          else armFrames job fuel
            (armTrigger { frame := n, t := t, mode := .run, kind := .run, job := job, item := none } s)

/-- Arm what the run in flight has room for (R99). -/
def armRun (s : State) : State :=
  match runningLeg s with
  | some job => armFrames job Config.armedMax s
  | none => s

/-! ### Index states (R58, R59) -/

/-- Take an index state: INDEX_PROGRESS is raised and the job table told (R58, R59). -/
def setIndexState (st : IndexState) (s : State) : State :=
  if s.index.state = st then s
  else retryJobs (raise .indexProgress (s.onIndex fun ix => { ix with state := st }))

/-- The test for COMPLETE: when the frontier rises, roll_end is set, and after each append (R58). -/
def completeTest (s : State) : State :=
  match s.transport.rollEnd with
  | some e =>
    if s.index.state = .growing ∧ e ≤ s.index.frontier + s.transport.profile.pitchMax then setIndexState .complete s else s
  | none => s

/-- The frontier rises to a position (R28, R57, R58). -/
def raiseFrontier (p : Nat) (s : State) : State :=
  if s.index.frontier < p then
    let s1 := s.onIndex fun ix => { ix with frontier := p }
    completeTest (if s1.index.state = .empty then setIndexState .growing s1 else s1)
  else s

/-- Append an entry and tell the sequencer, the job table and the links (R56, R58, R59). -/
def appendEntry (e : Entry) (s : State) : State :=
  let k := s.index.count
  let s1 := s.onIndex fun ix => { ix with entries := ix.entries ++ [e] }
  let s2 := if s1.index.count % Config.segmentSize = 0 then raise .indexProgress s1 else s1
  let s3 := armRun (sweepsTakeAppended k s2)
  let s4 := if s3.index.state = .empty then setIndexState .growing s3 else s3
  completeTest (retryJobs s4)

/-! ### roll_end (R14) -/

/-- roll_end is set and tail_limit cleared; the index is tested for COMPLETE (R14, R58). -/
def setRollEnd (e : Nat) (s : State) : State :=
  completeTest ((putRollEnd (some e) s).onTransport fun t => { t with tailLimit := none })

/-! ### Entries removed (R53, R59, R71, R72) -/

/-- The tracker realigns on the new last entry (R53). -/
def realign (s : State) : State :=
  let last := s.index.last?
  s.onTracker fun t =>
    { t with eLast := last.map (·.low), counters := last.map (·.address), candidate := none, parked := none,
             missAccepted := false, budget := s.transport.profile.rescanLimit, pendingNoise := false, pendingSplice := false,
             lastByPitchMax := false }

/-- Remove entries `n` and above, with last_dispute and last_miss where they name a removed frame (R71, R93). -/
def removeEntries (n : Nat) (s : State) : State :=
  trimLastMiss (s.onIndex fun ix =>
    { ix with entries := ix.entries.take n,
              lastDispute := if ix.lastDispute.any fun d => n ≤ d.frame then none else ix.lastDispute })

/-- The segment has fewer than 256 entries and so loses its verification at a cut (R72). -/
def cutSegments (count : Nat) : Nat → List Segment → List Segment
  | _, [] => []
  | k, sg :: sgs => (if count < Config.segmentSize * (k + 1) then {} else sg) :: cutSegments count (k + 1) sgs

/-- The first entry whose high edge lies at or above a threshold, from frame `k` on. -/
def firstReaching (threshold : Int) : Nat → List Entry → Option (Nat × Entry)
  | _, [] => none
  | k, e :: es => if threshold ≤ e.high then some (k, e) else firstReaching threshold (k + 1) es

/-- The film-break cut at a threshold, with the focus points at or above it and the tracker's realignment (R72, R82, R53). -/
def filmBreakCut (threshold : Int) (s : State) : State :=
  let s1 := match firstReaching threshold 0 s.index.entries with
    | some (k, e) => (removeEntries k s).onIndex fun ix => { ix with frontier := e.low }
    | none => s.onIndex fun ix => { ix with frontier := (min (ix.frontier : Int) threshold).toNat }
  let s2 := s1.onIndex fun ix =>
    { ix with segments := cutSegments ix.count 0 ix.segments,
              state := if s.index.state = .empty then .empty else .growing }
  realign ((raise .indexProgress s2).onFocus fun f =>
    { f with map := f.map.filter fun q => (q.position : Int) < threshold })

/-- The index is emptied: the contents of R60; INDEX_PROGRESS is raised for a change to EMPTY. -/
def emptyIndex (s : State) : State :=
  let was := s.index.state
  let s1 := s.onIndex fun _ => Index.fresh
  trimLastMiss (if was = .empty then s1 else raise .indexProgress s1)

end Sys2Proof.Machine
end

