-- ==== Sys2Proof/Machine/Tracker.lean ====
section
/-! DEFINITION. Candidates, commits and misses of an indexing pass (2.2 to 2.6). -/

namespace Sys2Proof.Machine

/-! ### Addresses (R39, R40) -/

/-- The address of the next entry; none where a counter would pass 65535 (R39, R40). -/
def nextAddress (start : Address) (last : Option Address) (level : Nat) : Option Address :=
  match last with
  | none => some start
  | some a =>
    if level = 3 then if a.batch < Config.maxCounter then some ⟨a.batch + 1, 1, 1⟩ else none
    else if level = 2 then if a.document < Config.maxCounter then some ⟨a.batch, a.document + 1, 1⟩ else none
    else if a.page < Config.maxCounter then some ⟨a.batch, a.document, a.page + 1⟩ else none

/-! ### Commit (R36) -/

/-- Change the open candidate. -/
def modifyCandidate (f : Candidate → Candidate) (s : State) : State :=
  s.onTracker fun t => { t with candidate := t.candidate.map f }

/-- A candidate with a high edge: its own, or the given one with OVERLONG (R36). -/
def Candidate.closed (high : Nat) (c : Candidate) : Candidate :=
  match c.high with
  | some _ => c
  | none => { c with high := some high, flags := { c.flags with overlong := true } }

/-- The entry of a candidate (R36, R38). -/
def candidateEntry (c : Candidate) (a : Address) (s : State) : Entry where
  low           := c.low
  high          := c.high.getD c.low
  address       := a
  markLevel     := frameLevel c.marks
  flags         :=
    let f := markFlags c.marks c.flags
    { f with splice := f.splice || spliceIn c.low (c.high.getD c.low) s, noise := f.noise || s.tracker.pendingNoise,
             spliceUnlisted := f.spliceUnlisted || s.tracker.pendingSplice }
  gapLength     := c.gapLength
  missing       := c.missing
  captureState  := .none
  captureCount  := 0
  lastFocusStep := none

/-- The index freezes and the tracker leaves INDEXING (R36, R40). The job table is told first, so an INDEX_TO that ends FROZEN records the
frontier before it falls to the candidate's low edge (DESIGN CHOICE, log 54). -/
def freezeIndex (st : IndexState) (s : State) : State := refreshMode (setIndexState st s)

/-- Commit the open candidate, closed at `high` where it has no high edge; `byPitchMax` when it is committed at low + pitch_max
(R36). The answer says whether an entry was made. -/
def commit (high : Nat) (byPitchMax : Bool) (s : State) : Bool × State :=
  match s.tracker.candidate with
  | none => (true, s)
  | some c0 =>
    let c := c0.closed high
    match nextAddress s.transport.profile.startAddress s.tracker.counters (frameLevel c.marks) with
    | none => (false, freezeIndex .frozenAddress s)
    | some a =>
      if Config.maxEntries ≤ s.index.count then (false, freezeIndex .frozenFull s)
      else
        let e := candidateEntry c a s
        let s1 := s.onTracker fun t =>
          { t with candidate := none, counters := some a, budget := s.transport.profile.rescanLimit, pendingNoise := false,
                   pendingSplice := false, lastByPitchMax := byPitchMax }
        (true, appendEntry e s1)

/-! ### Opening (R33, R35) -/

/-- missing of a GAP candidate (R35). -/
def missingFrames (t : Tracker) (eLast low : Nat) : Nat :=
  clampNat 1 255 ((16 * (low - eLast) + t.p16 / 2) / t.p16 - 1)

/-- The candidate that an accepted edge opens (R33, R35); the gap_length of a GAP is 1 at least (R198, log 41). -/
def openedAt (pos : Nat) (k : Opening) (t : Tracker) : Candidate where
  low          := pos
  high         := none
  opening      := k
  gapLength    := match k, t.eLast with
    | .gap, some e => max 1 (pos - e - t.pitch)
    | _, _ => 0
  missing      := match k, t.eLast with
    | .gap, some e => missingFrames t e pos
    | _, _ => 0
  flags        := { pitchOdd := k == .short, gapBefore := k == .gap,
                    rescanned := t.rescan.any fun r => r.origin < pos }
  marks        := []
  estimateDone := false

/-- With the position count at the upper limit of R4 and forward travel, a candidate whose low edge lies at the limit is discarded,
also one that an edge has just opened there (R36, log 42). -/
def dropAtLimit (s : State) : State :=
  let limit := s.transport.upperLimit
  if s.transport.travel = .forward ∧ s.transport.position = limit ∧ (s.tracker.candidate.any fun c => c.low == limit) then
    s.onTracker fun t => { t with candidate := none }
  else s

/-- An accepted edge: the open candidate is committed first, then the new one opens. An edge above the rescan's origin decides it
as found (R33, R43). Where the commit froze the index the edge opens nothing (R36), and a rescan stays undecided (log 61). -/
def acceptEdge (k : Opening) (s : State) : State :=
  let pos := s.transport.position
  let c := openedAt pos k s.tracker
  match commit (pos - 1) false s with
  | (false, s1) => s1
  | (true, s1) =>
    dropAtLimit (s1.onTracker fun t =>
      { t with candidate := some c, eLast := some pos, missAccepted := false, parked := none,
               rescan := if t.rescan.any fun r => r.origin < pos then none else t.rescan })

/-- A LOW_EDGE taken while INDEXING that is no handover edge (R33). After a commit at low + pitch_max an edge below the window is SHORT, by
the order of R33's steps, where R36 has the next frame GAP whenever it comes (DESIGN CHOICE, log 66). -/
def classifyEdge (s : State) : State :=
  let pos := s.transport.position
  let t := s.tracker
  match t.eLast with
  | none => acceptEdge .first s
  | some e =>
    let pred := t.predicted e
    let w := t.indexWindow
    if t.rescan.any fun r => pos ≤ r.origin then s
    else if pos + w < pred then
      if t.candidate.any fun c => c.high.isNone then
        modifyCandidate (fun c => { c with flags := { c.flags with noise := true } }) s
      else acceptEdge .short s
    else if pred + w < pos ∨ (t.candidate.isNone ∧ t.lastByPitchMax) then acceptEdge .gap s
    else acceptEdge .inWindow s

/-! ### The pitch step (R32) -/

/-- P16 after a step of `d`, with the clamp at the profile's pitch range: the value and whether it was clamped (R32). -/
def steppedPitch (p : Profile) (p16 : Nat) (d : Int) : Nat × Bool :=
  let z : Int := (p16 : Int) + (d + 4) / 8
  if z < 16 * p.pitchMin then (16 * p.pitchMin, true)
  else if (16 * p.pitchMax : Int) < z then (16 * p.pitchMax, true)
  else (z.toNat, false)

/-- The candidate's step is considered (R32). A measurement that fails the opening-kind or splice test sets no flag, also where it fails the
|D| test too (log 63). -/
def pitchStep (s : State) : State :=
  match s.tracker.candidate with
  | none => s
  | some c =>
    if c.estimateDone then s
    else
      let s1 := modifyCandidate (fun c => { c with estimateDone := true }) s
      match s.index.last? with
      | none => s1
      | some prev =>
        let p16 := s.tracker.p16
        let d : Int := 16 * ((c.low : Int) - prev.low) - p16
        if c.opening ≠ .inWindow ∨ spliceIn prev.low (c.high.getD c.low) s then s1
        else if d.natAbs ≤ p16 / 8 then
          let (v, clamped) := steppedPitch s.transport.profile p16 d
          modifyCandidate (fun c => { c with flags := { c.flags with pitchClamp := c.flags.pitchClamp || clamped } })
            (s1.onTracker fun t => { t with p16 := v })
        else modifyCandidate (fun c => { c with flags := { c.flags with pitchOdd := true } }) s1

/-- A HIGH_EDGE taken while INDEXING; with a speck miss_state is NONE (R34, R41). -/
def takeHighEdge (s : State) : State :=
  let pos := s.transport.position
  match s.tracker.candidate with
  | none => s
  | some c =>
    if c.high.isSome then modifyCandidate (fun c => { c with flags := { c.flags with noise := true } }) s
    else if pos - c.low < s.transport.profile.imageMin then
      s.onTracker fun t =>
        { t with candidate := none, pendingNoise := true, eLast := s.index.last?.map (·.low), missAccepted := false }
    else
      pitchStep (modifyCandidate (fun c =>
        { c with high := some pos,
                 flags := { c.flags with overlong := c.flags.overlong || s.transport.profile.imageMax < pos - c.low } }) s)

/-! ### Entry to INDEXING, handover and the parked opening (R28, R29) -/

/-- The parked opening is dropped (R29). -/
def dropParked (s : State) : State :=
  s.onTracker fun t => { t with parked := none, eLast := s.index.last?.map (·.low), missAccepted := false }

/-- The position count lies past the parked low edge plus W with forward travel: the opening is dropped (R29). R29 names no mode: it is
kept while the tracker is IDLE, and tested on where the count lies in the other modes (log 43). R31 does not say whether this drop is part
of the handover test, which keeps W during a rescan: it is taken as part of it, with W and not W2 (DESIGN CHOICE, log 65). -/
def parkedTest (s : State) : State :=
  match s.tracker.parked with
  | none => s
  | some p =>
    if s.transport.travel = .forward ∧ s.tracker.mode ≠ .idle ∧ p.low + s.tracker.window < s.transport.position then
      dropParked s
    else s

/-- The tracker can index: the move has started forward and the index is not FROZEN (R28). -/
def mayIndex (s : State) : Bool :=
  s.transport.state == .moving && s.transport.travel == .forward && !s.index.frozen && !s.tracker.heldIdle &&
    s.tracker.mode != .indexing

/-- INDEXING is entered (R28, R29). -/
def enterIndexing (s : State) : State :=
  if mayIndex s then
    match s.transport.reference with
    | .lost => s
    | .drifted => askLoss s
    | .exact =>
      let s1 := setMode .indexing s
      let last := s1.index.last?
      let s2 := s1.onTracker fun t =>
        { t with eLast := last.map (·.low), counters := last.map (·.address),
                 missAccepted := t.missAccepted && t.eLast == last.map (·.low) }
      parkedTest (raiseFrontier s2.transport.position s2)
  else s

/-- A LOW_EDGE at the position count is the handover edge (R29). -/
def isHandover (p : Parked) (s : State) : Bool :=
  let pos := s.transport.position
  s.transport.travel == .forward && !s.index.frozen && dist pos p.low ≤ s.tracker.window &&
    (s.index.last?.all fun e => e.high < pos) &&
    (s.tracker.mode == .verifying || (s.tracker.mode == .indexing && s.tracker.candidate.isNone))

/-- The handover edge reopens the parked candidate and puts the tracker into INDEXING (R29). Taken with the count at the upper limit
already, it leaves open a candidate whose low edge lies below the limit (DESIGN CHOICE, log 53). -/
def handover (p : Parked) (s : State) : State :=
  match s.transport.reference with
  | .lost => s
  | .drifted => askLoss s
  | .exact =>
    let s1 := setMode .indexing s
    dropAtLimit (raiseFrontier s1.transport.position (s1.onTracker fun t =>
      { t with candidate := some { low := p.low, high := none, opening := p.opening, gapLength := p.gapLength,
                                   missing := p.missing, flags := p.flags, marks := [], estimateDone := p.estimateDone },
               parked := none, eLast := some p.low, counters := s1.index.last?.map (·.address) }))

/-! ### Misses and rescans (R41 to R43) -/

/-- The tracker asks for a rescan (R42). -/
def askRescan (e : Nat) (s : State) : State :=
  let t := s.tracker
  let record : Rescan :=
    { origin := e, predicted := t.predicted e, window := t.window2, reverseTarget := e - t.window,
      forwardTarget := t.predicted e + t.window2 }
  let frontier := match t.candidate with
    | some c => c.low
    | none => (s.index.last?.map (·.high)).getD s.index.frontier
  let s1 := askStop .rescan s
  let s2 := setMode .idle (s1.onTracker fun t => { t with budget := t.budget - 1, heldIdle := true })
  let s3 := (s2.onIndex fun ix => { ix with frontier := frontier }).onTracker fun t => { t with rescan := some record }
  submit .tracker .internal .rescan none s3

/-- The position count passed from `old` to its value while INDEXING: a window miss (R41). -/
def missTest (old : Nat) (s : State) : State :=
  let t := s.tracker
  match t.eLast with
  | none => s
  | some e =>
    let bound := t.predicted e + t.window
    if t.mode = .indexing ∧ !t.missAccepted ∧ t.rescan.isNone ∧ old ≤ bound ∧ bound < s.transport.position then
      if 0 < t.budget then askRescan e s else s.onTracker fun t => { t with missAccepted := true }
    else s

/-- The rescan is decided as not found (R43). -/
def rescanNotFound (s : State) : State := s.onTracker fun t => { t with rescan := none, missAccepted := true }

/-- The position count passed from `old` beyond E_pred + W2 while INDEXING: the rescan is not found (R43). -/
def rescanTest (old : Nat) (s : State) : State :=
  match s.tracker.rescan with
  | some r =>
    if s.tracker.mode = .indexing ∧ old ≤ r.predicted + r.window ∧ r.predicted + r.window < s.transport.position then
      rescanNotFound s
    else s
  | none => s

/-- The open candidate is committed when the position count has passed its low + pitch_max (R36). -/
def pitchMaxTest (s : State) : State :=
  match s.tracker.candidate with
  | some c =>
    let bound := c.low + s.transport.profile.pitchMax
    if s.tracker.mode = .indexing ∧ bound < s.transport.position then (commit bound true s).2 else s
  | none => s

/-- The position count reached the upper limit from `old` with forward travel (R36). A candidate reopened with the count there already
is not tested (log 53). -/
def limitTest (old : Nat) (s : State) : State :=
  let limit := s.transport.upperLimit
  match s.tracker.candidate with
  | some c =>
    if s.tracker.mode = .indexing ∧ old < limit ∧ s.transport.position = limit then
      if c.low = limit then dropAtLimit s else (commit limit false s).2
    else s
  | none => s

/-! ### Marks (R37, R38) -/

/-- Marks are taken (R37). -/
def marksTaken (s : State) : Bool :=
  s.tracker.mode == .indexing || (s.tracker.mode == .verifying && s.transport.travel == .forward)

/-- MARK_ON (R37). -/
def markOpens (s : State) : State :=
  if marksTaken s then s.onTracker fun t => { t with openMark := some s.transport.position } else s

/-- A mark of a frame behind the frontier is gathered for the matched entry it belongs to (R52); for the last entry no low edge bounds it
above (log 62). -/
def gatherMark (mid : Nat) (m : Mark) (s : State) : State :=
  s.onTracker fun t => { t with gathering := t.gathering.map fun g =>
    let above := (s.index.entries[g.frame]?).any fun e => e.low ≤ mid
    let below := (s.index.entries[g.frame + 1]?).all fun e => mid < e.low
    if above && below then { g with marks := g.marks ++ [m] } else g }

/-- MARK_OFF: an open mark ends, and a mark long enough is counted for its frame (R37, R38, R52). -/
def markCloses (s : State) : State :=
  if marksTaken s then
    match s.tracker.openMark with
    | none => s
    | some on =>
      let off := s.transport.position
      let s1 := s.onTracker fun t => { t with openMark := none }
      match markOf s.transport.profile (dist on off) with
      | none => s1
      | some m =>
        let mid := (on + off) / 2
        if s.tracker.mode = .indexing then
          modifyCandidate (fun c => if c.low ≤ mid then { c with marks := c.marks ++ [m] } else c) s1
        else gatherMark mid m s1
  else s

end Sys2Proof.Machine
end

