-- ==== Sys2Proof/Machine/Position.lean ====
section
/-! DEFINITION. The position count changes, and what each block does at the positions passed (R4, R28, R50, R52, R101); edges
matched behind the frontier (2.8). -/

namespace Sys2Proof.Machine

/-! ### Disputes and passed entries (R50, R52) -/

/-- The comparison for an entry whose marks were gathered (R52). -/
def compareMarks (g : Gather) (s : State) : State :=
  match s.index.entries[g.frame]? with
  | none => s
  | some e => if frameLevel g.marks = e.markLevel then s else reportDispute g.frame (frameLevel g.marks) s

/-- Compare and close the gathered entries that a test picks (R52). -/
def closeGathering (pick : Gather → Bool) (s : State) : State :=
  (s.tracker.gathering.filter pick).foldl (fun acc g => compareMarks g acc)
    (s.onTracker fun t => { t with gathering := t.gathering.filter fun g => !pick g })

/-- The position count has passed the low + pitch_max of gathered entries (R52). -/
def gatheringTest (s : State) : State :=
  if s.tracker.mode = .verifying ∧ s.transport.travel = .forward then
    closeGathering (fun g => (s.index.entries[g.frame]?).any fun e =>
      e.low + s.transport.profile.pitchMax < s.transport.position) s
  else s

/-- The entries passed as the position count went from `old` to its value in a direction, from frame `k` on (R50). -/
def passedFrom (old new w start : Nat) (d : Direction) : Nat → List Entry → List Nat
  | _, [] => []
  | k, e :: es =>
    let rest := passedFrom old new w start d (k + 1) es
    match d with
    | .forward => if old ≤ e.low + w ∧ e.low + w < new ∧ start ≤ e.low then k :: rest else rest
    | .reverse => if new + w < e.low ∧ e.low ≤ old + w ∧ e.low ≤ start then k :: rest else rest

/-- An entry was passed: unless it was matched it counts toward the loss of reference (R50). -/
def countPassed (k : Nat) (s : State) : State :=
  let t := s.tracker
  if t.mode ≠ .verifying ∨ t.matched.contains k then s
  else if t.unmatchedRun + 1 < 3 then s.onTracker fun t => { t with unmatchedRun := t.unmatchedRun + 1 }
  else
    let s1 := s.onTracker fun t => { t with unmatchedRun := 0 }
    if t.edgeUnmatched then askLoss s1 else s1

/-- The entries passed in a VERIFYING pass are counted (R50). -/
def passedTest (old : Nat) (d : Direction) (s : State) : State :=
  if s.tracker.mode = .verifying then
    (passedFrom old s.transport.position s.tracker.window s.tracker.passStart d 0 s.index.entries).foldl
      (fun acc k => countPassed k acc) s
  else s

/-! ### RUN triggers (R101, R102) -/

/-- A RUN trigger leaves the list fired or missed: the job table, the arbiter and the next arming (R99, R101). -/
def runReported (a : Armed) (s : State) : State := armRun (countRun (advanceSweep a.job a.frame s))

/-- A miss in a run (R101). -/
def missInRun (a : Armed) (why : MissReason) (s : State) : State :=
  runReported a (offerRevisit a.job a.frame (missFrame a why s))

/-- A RUN trigger's T is passed (R101, R102). -/
def takeTrigger (a : Armed) (s : State) : State :=
  if s.transport.reference ≠ .exact then askStop .sequencer s
  else if needsSearch a.frame (a.t - s.transport.profile.axisOffset) (policySearch a.job s) s then
    askStop (.searchFrame a.frame) s
  else if s.capture.handshake ≠ .ready then missInRun a .cameraBusy s
  else if s.capture.ringFull then missInRun a .ringFull s
  else if !atTarget a.frame s then missInRun a .lensLate s
  else runReported a (fireCapture a s)

/-- The RUN triggers passed from `old` to the position count, `fuel` of them at most (R101). -/
def takeTriggers (old : Nat) : Nat → State → State
  | 0, s => s
  | fuel + 1, s =>
    match s.capture.armed.find? fun a => a.mode == .run && old < a.t && a.t ≤ s.transport.position with
    | none => s
    | some a => takeTriggers old fuel (takeTrigger a s)

/-! ### The position count (R4) -/

/-- The tracker at the positions passed from `old`, in a direction (2.2 to 2.8; the order within a count is log 7). -/
def trackerMoved (old : Nat) (d : Direction) (s : State) : State :=
  let pos := s.transport.position
  let s1 :=
    if s.tracker.mode = .indexing then raiseFrontier pos s
    else if d = .forward ∧ old ≤ s.index.frontier ∧ s.index.frontier < pos then enterIndexing s
    else s
  let s2 := parkedTest (refreshMode s1)
  match d with
  | .forward => gatheringTest (passedTest old d (rescanTest old (missTest old (limitTest old (pitchMaxTest s2)))))
  | .reverse => passedTest old d s2

/-- tail_limit becomes roll_end when the position count comes to lie at or below it (R14). -/
def tailTest (s : State) : State :=
  match s.transport.tailLimit with
  | some e => if s.transport.position ≤ e then setRollEnd e s else s
  | none => s

/-- The position count went from `old` to its value in a direction. -/
def positionMoved (old : Nat) (d : Direction) (s : State) : State :=
  if s.transport.position = old then s
  else
    let s1 := trackerMoved old d (tailTest s)
    match d with
    | .forward => takeTriggers old Config.armedMax s1
    | .reverse => s1

/-- Counts absorbed by a limit are tallied; over 8 at one stay EXACT becomes DRIFTED outside a reference search (R4). -/
def absorbCounts (n : Nat) (s : State) : State :=
  let s1 := s.onTransport fun t => { t with absorbed := t.absorbed + n }
  if !searchingLeader s1 && Config.tallyLimit < s1.transport.absorbed then driftReference s1 else s1

/-- Put the position count at a place; the tally restarts when it moves (R4). -/
def putPosition (p : Nat) (s : State) : State :=
  s.onTransport fun t => { t with position := p, absorbed := if p = t.position then t.absorbed else 0 }

/-- Carry the position count by `n` counts in a direction, held at the limits (R4). -/
def carryPosition (d : Direction) (n : Nat) (s : State) : State :=
  let old := s.transport.position
  let limit := s.transport.upperLimit
  match d with
  | .forward =>
    let p := if old + n ≤ limit then old + n else max old limit
    let extra := n - (p - old)
    let s1 := positionMoved old .forward (putPosition p s)
    if extra = 0 then s1 else absorbCounts extra s1
  | .reverse =>
    let extra := n - old
    let s1 := positionMoved old .reverse (putPosition (old - n) s)
    if extra = 0 then s1 else absorbCounts extra s1

/-- A trim by d: the position count becomes position - d (R4, R49). -/
def trim (d : Int) (s : State) : State :=
  if d = 0 then s
  else if 0 < d then carryPosition .reverse d.toNat s
  else carryPosition .forward (-d).toNat s

/-- Film direction: a change ends the pass (R28) and clears open_splice (R45). -/
def turnTravel (d : Direction) (s : State) : State :=
  if s.transport.travel = d then s else newPass (refreshMode (setTravel d s))

/-- The travel of a forward leader search, from its start (R17; reverse counts taken off, log 15). -/
def searchTravels (d : Direction) (s : State) : State :=
  s.onTransport fun t => { t with search := t.search.map fun r =>
    if r.phase = .forward then
      { r with travel := match d with
          | .forward => r.travel + 1
          | .reverse => r.travel - 1 }
    else r }

/-- A count from the capstan encoder (R4). -/
def capstanMoves (d : Direction) (s : State) : State :=
  if s.transport.state = .empty then s else carryPosition d 1 (searchTravels d (turnTravel d s))

/-! ### Edges (R33, R34, R47 to R49, R52) -/

/-- The entry whose low edge lies nearest to a position within W, from frame `k` on; of two at the same distance the lower
(R48). -/
def nearestEntry (pos w : Nat) : Nat → List Entry → Option (Nat × Entry)
  | _, [] => none
  | k, e :: es =>
    match nearestEntry pos w (k + 1) es with
    | none => if dist pos e.low ≤ w then some (k, e) else none
    | some (m, x) => if dist pos e.low ≤ w ∧ dist pos e.low ≤ dist pos x.low then some (k, e) else some (m, x)

/-- What a matched edge does to the count and the reference (R49). -/
def correctPosition (low : Nat) (s : State) : State :=
  let d : Int := (s.transport.position : Int) - low
  let tol := s.transport.profile.slipTol
  match s.transport.reference with
  | .exact =>
    if d.natAbs ≤ 8 then s else if d.natAbs ≤ tol then trim d s else askLoss s
  | .drifted => if d.natAbs ≤ 5 * tol then trim d (setReference .exact s) else askLoss s
  | .lost => s

/-- A LOW_EDGE taken while VERIFYING that is no handover edge (R48, R50, R52). -/
def matchEdge (s : State) : State :=
  match nearestEntry s.transport.position s.tracker.window 0 s.index.entries with
  | none => s.onTracker fun t => { t with edgeUnmatched := true }
  | some (k, e) =>
    let fwd := s.transport.travel = .forward
    let s1 := if fwd then closeGathering (fun g => g.frame + 1 == k) s else s
    let s2 := s1.onTracker fun t =>
      { t with unmatchedRun := 0, edgeUnmatched := false,
               gathering := if fwd ∧ !t.matched.contains k then t.gathering ++ [{ frame := k, marks := [] }] else t.gathering,
               matched := if t.matched.contains k then t.matched else t.matched ++ [k] }
    correctPosition e.low s2

/-- LOW_EDGE at the position count. -/
def takeLowEdge (s : State) : State :=
  match s.tracker.mode, s.tracker.parked with
  | .idle, _ => s
  | .indexing, some p => if isHandover p s then handover p s else classifyEdge s
  | .indexing, none => classifyEdge s
  | .verifying, some p => if isHandover p s then handover p s else matchEdge s
  | .verifying, none => matchEdge s

/-- HIGH_EDGE at the position count: discarded in VERIFYING and IDLE (R28, R34, R47). -/
def takeHigh (s : State) : State := if s.tracker.mode = .indexing then takeHighEdge s else s

end Sys2Proof.Machine
end

