-- ==== Sys2Proof/Machine/Arbitrate.lean ====
section
/-! DEFINITION. Selection, legs handed to the transport, and their completions (6.3 to 6.9, R6, R7, R10). -/

namespace Sys2Proof.Machine

/-! ### Moves start (R7, R8, R99) -/

/-- A move record starts: the drives start toward the target and the state becomes MOVING. A forward start above the frontier enters
INDEXING (R28); a run's triggers are armed (R99). With the target at the position count itself the drives start forward (log 56). -/
def startMove (m : MoveRecord) (s : State) : State :=
  let dir : Direction := if s.transport.position ≤ m.target then .forward else .reverse
  let s1 := driveOn dir m.speed (captureSpeed s) (enterState .moving (turnTravel dir s))
  let s2 := refreshMode s1
  let s3 := if dir = .forward ∧ s2.index.frontier < s2.transport.position then enterIndexing s2 else s2
  armRun (parkedTest s3)

/-- A REFERENCE record begins its search: rewinding in reverse (R21). -/
def startReference (s : State) : State :=
  driveOn .reverse .rewind 0
    ((enterState .referencing (turnTravel .reverse s)).onTransport fun t =>
      { t with search := some { phase := .reverse, travel := 0 } })

/-- TENSIONING is entered: both reels toward working tension, the limit of 1 s started (R11). -/
def enterTensioning (s : State) : State :=
  (enterState .tensioning s).onTransport fun t => { t with tensionLimit := true }

/-! ### The current motion -/

/-- Change the current motion. -/
def modifyCurrent (f : Current → Current) (s : State) : State :=
  s.onArbiter fun a => { a with current := a.current.map f }

/-- A motion to bring a frame to the axis: a SEEK's or ITEM's, or a run's at its search frame. -/
def Current.toAxis (c : Current) : Option Nat :=
  match c.kind with
  | .item | .seek => c.frame
  | .run => c.search
  | _ => none

/-- The leg carries the stop-at-trigger flag: the main leg of an ITEM, or of a run at its search frame (R119, R126). -/
def Current.stopsAtTrigger (c : Current) : Bool :=
  c.leg == .main && (c.kind == .item || (c.kind == .run && c.search.isSome))

/-- The first leg of a motion (R119): an approach leg is required when reference is DRIFTED and the position count at or above the
frame's low edge. -/
def firstLeg (k : QKind) (frame : Option Nat) (s : State) : Leg :=
  match k with
  | .seek | .item =>
    if s.transport.reference = .drifted ∧
        ((frame.bind fun n => s.index.entries[n]?).any fun e => e.low ≤ s.transport.position) then .approach
    else .main
  | .run | .index | .readAhead => .runUp
  | .rescan => .reverse
  | .reference => .reference

/-- The leg after one that is not the last (R119). -/
def nextLeg : Leg → Option Leg
  | .approach | .runUp => some .main
  | .reverse => some .forward
  | .main | .forward | .reference => none

/-- The target, speed class and purpose of a leg (R119, R43); where they give no purpose: SEEK for a run-up leg, SCAN and CREEP for the legs
of a RESCAN (log 45). -/
def legRecord (c : Current) (s : State) : Nat × SpeedClass × Purpose :=
  let runUpOf (n : Option Nat) : Nat := (n.bind fun n => frameRunUp n s).getD (indexRunUp s)
  match c.leg with
  | .approach => (runUpOf c.frame, .seek, .seek)
  | .runUp =>
    match c.requester, c.kind with
    | .job n, .run => (runRunUp n s, .seek, .seek)
    | _, _ => (indexRunUp s, .seek, .seek)
  | .main =>
    match c.toAxis, c.requester, c.kind with
    | some f, _, _ => ((triggerPosition s f).getD 0, .seek, .seek)
    | none, .job n, .run => (runBoundary n s, .capture, .run)
    | none, _, _ => (Config.maxPosition, .scan, .scan)
  | .reverse => ((s.tracker.rescan.map fun r => r.reverseTarget).getD 0, .scan, .scan)
  | .forward => ((s.tracker.rescan.map fun r => r.forwardTarget).getD 0, .creep, .creep)
  | .reference => (0, .rewind, .reference)

/-- The move record of a leg, its target clamped (R6). -/
def clampRecord (c : Current) (s : State) : MoveRecord :=
  let (target, speed, purpose) := legRecord c s
  let limit := s.transport.targetLimit
  { target := min target limit, speed := speed, purpose := purpose, stopAtTrigger := c.stopsAtTrigger,
    clamped := limit < target, retargeted := false, stopping := false }

/-- The armed trigger of a stationary capture that a leg asks for (R108). -/
def stationaryTrigger (c : Current) (s : State) : Option Armed :=
  match c.requester, c.toAxis with
  | .job n, some f =>
    (openJob n s).map fun j =>
      { frame := f, t := (triggerPosition s f).getD 0, mode := .stationary, job := n,
        kind := if j.state = .revisiting then .revisit else .stationary,
        item := match j.body with
          | .fetch is => itemInCapture 1 is
          | _ => none }
  | _, _ => none

/-- A record is returned with no motion: current becomes absent and the entry stays queued; for reference LOST blocked is set and
the transport asks for re-reference (R7, R21, R122). A stationary capture asked with it is returned unfired (R108). -/
def returnRecord (s : State) : State :=
  let lost := s.transport.reference = .lost
  let s1 := stationaryMoved .stopped (clearCurrent s)
  if lost then askReference (setBlocked true s1) else s1

/-- The transport takes a record (R7). -/
def takeRecord (m : MoveRecord) (s : State) : State :=
  if s.transport.reference = .lost ∧ m.purpose ≠ .reference then returnRecord s
  else
    match s.transport.state with
    | .ready =>
      let s1 := s.onTransport fun t => { t with move := some m }
      if m.purpose = .reference then startReference s1 else startMove m s1
    | .resting => enterTensioning (s.onTransport fun t => { t with move := some m })
    | _ => returnRecord s

/-- Hand the current leg, and with a stop-at-trigger leg begin the stationary capture (R108, R122). -/
def handRecord (s : State) : State :=
  match s.arbiter.current with
  | none => s
  | some c =>
    let s1 := if c.stopsAtTrigger then
      match stationaryTrigger c s with
      | some a => beginStationary a s
      | none => s
      else s
    takeRecord (clampRecord c s) s1

/-- A run-up or approach leg whose target lies within 2 counts of the position count completes at once (R119). -/
def completesAtOnce (c : Current) (s : State) : Bool :=
  (c.leg == .runUp || c.leg == .approach) && decide (dist (clampRecord c s).target s.transport.position ≤ 2)

/-- Hand the current leg; one that completes at once from READY is followed by the next (R119). -/
def handLeg (s : State) : State :=
  match s.arbiter.current with
  | none => s
  | some c =>
    if completesAtOnce c s ∧ s.transport.state = .ready ∧ s.transport.reference ≠ .lost then
      handRecord (modifyCurrent (fun c => { c with leg := .main }) s)
    else handRecord s

/-! ### Selection (R120, R121, R149) -/

/-- The arbiter tells the job table which entry it makes current: a QUEUED or SUSPENDED sweep's RUN or ITEM entry makes it RUNNING; a
sweep suspended after its run, with revisits left, REVISITING (R149, log 22). -/
def tellCurrent (r : Requester) (k : QKind) (s : State) : State :=
  match r with
  | .job n =>
    match openJob n s with
    | some { body := .sweep sw, state := st, .. } =>
      if (k = .run ∨ k = .item) ∧ (st = .queued ∨ st = .suspended) then
        setJobState n (if sw.runEnded.isSome ∧ sw.nextFrame.isNone then .revisiting else .running) s
      else s
    | _ => s
  | _ => s

/-- Make an entry current and hand its first leg. -/
def makeCurrent (e : QEntry) (s : State) : State :=
  let c : Current := { requester := e.requester, cls := e.cls, kind := e.kind, frame := e.frame,
                       leg := firstLeg e.kind e.frame s, stop := none, search := none }
  let s1 := s.onArbiter fun a => { a with current := some c }
  handLeg (tellCurrent e.requester e.kind s1)

/-- Of two entries the one with the lower arrival. -/
def earlier (x y : QEntry) : QEntry := if y.arrival < x.arrival then y else x

/-- The entry with the lowest arrival. -/
def earliest : List QEntry → Option QEntry
  | [] => none
  | e :: es => match earliest es with
    | none => some e
    | some x => some (earlier e x)

/-- Distance of an entry in a direction; none when it does not lie in it (R121). -/
def ahead (dir : Elevator) (pos : Nat) (e : QEntry) : Option Nat :=
  match dir with
  | .up => if pos ≤ e.start then some (e.start - pos) else none
  | .down => if e.start ≤ pos then some (pos - e.start) else none

/-- The entry at the smallest distance in a direction; a tie goes to the lowest arrival (R121 step 2.2). -/
def nearestAhead (dir : Elevator) (pos : Nat) : List QEntry → Option (QEntry × Nat)
  | [] => none
  | e :: es =>
    match ahead dir pos e, nearestAhead dir pos es with
    | none, r => r
    | some d, none => some (e, d)
    | some d, some (x, dx) => if d < dx ∨ (d = dx ∧ e.arrival < x.arrival) then some (e, d) else some (x, dx)

/-- The other elevator direction. -/
def Elevator.flip : Elevator → Elevator
  | .up => .down
  | .down => .up

/-- The choice within a class: the aged entry of lowest arrival, else the nearest in the elevator direction, else in the other
(R121 step 2). -/
def chooseIn (dir : Elevator) (pos : Nat) (es : List QEntry) : Option (QEntry × Elevator) :=
  match earliest (es.filter fun e => Config.agedSkip ≤ e.skip) with
  | some e => some (e, dir)
  | none =>
    match nearestAhead dir pos es with
    | some (e, _) => some (e, dir)
    | none => (nearestAhead dir.flip pos es).map fun r => (r.1, dir.flip)

/-- The eligible entries of a class. -/
def entriesOf (cls : QClass) (s : State) : List QEntry :=
  s.arbiter.queue.filter fun e => e.cls == cls && eligible s e

/-- Every other eligible entry of the chosen class gains 1 on its skip_count (R121). -/
def ageOthers (chosen : QEntry) (s : State) : State :=
  s.onArbiter fun a => { a with queue := a.queue.map fun e =>
    if e.cls = chosen.cls ∧ e.requester ≠ chosen.requester ∧ eligible s e then
      { e with skip := min Config.maxSkip (e.skip + 1) } else e }

/-- A chosen entry is taken up: a RUN starts its occupancy with yield_count 0 and run_immune by the entry's resume; the entry's resume is
then cleared (R121). -/
def startOccupancy (e : QEntry) (s : State) : State :=
  s.onArbiter fun a =>
    let b := a.modifyEntry e.requester fun x => { x with resume := false }
    if e.kind = .run then { b with yieldCount := 0, runImmune := e.resume } else b

/-- Choose within a class and make the choice current (R121 step 2). -/
def selectIn (cls : QClass) (s : State) : State :=
  match chooseIn s.arbiter.elevator s.transport.position (entriesOf cls s) with
  | none => s
  | some (e, dir) =>
    makeCurrent e (startOccupancy e (ageOthers e (s.onArbiter fun a => { a with elevator := dir })))

/-- The conditions of a selection (R120). -/
def maySelect (s : State) : Bool :=
  s.arbiter.current.isNone && !s.arbiter.captureHold && !s.arbiter.searchHold && !s.arbiter.rollClaim && !s.arbiter.blocked &&
    !s.fault.halted && (s.transport.state == .ready || s.transport.state == .resting) && s.transport.move.isNone

/-- A selection, where its conditions hold (R120, R121). An INTERNAL or BACKGROUND entry is no job's and holds no resume. -/
def select (s0 : State) : State :=
  if maySelect s0 then
    let s := refreshStarts s0
    match s.arbiter.queue.find? fun e => e.cls == .internal with
    | some e => makeCurrent e s
    | none =>
      if !(entriesOf .urgent s).isEmpty then selectIn .urgent s
      else if !(entriesOf .normal s).isEmpty then selectIn .normal s
      else match s.arbiter.queue.find? fun e => e.cls == .background with
        | some e => makeCurrent e s
        | none => s
  else s0

/-! ### Completions (R122 to R130) -/

/-- A run is suspended: its sweep becomes SUSPENDED and the entry is taken anew with resume set (R125). -/
def suspendRun (job : Nat) (s : State) : State := requeueRun job true (setJobState job .suspended s)

/-- A leg completed STOPPED: what becomes of the entry by the cause of the stop (R122). A leg of the RESCAN withdraws it (R44), with a record
that the rest of its own forward leg asked too (log 59). -/
def legStopped (c : Current) (s : State) : State :=
  match c.stop, c.requester, c.kind with
  | some .withdrawn, _, _ => stationaryMoved .stopped (clearCurrent s)
  | some (.searchFrame f), _, .run =>
    handRecord (modifyCurrent (fun c => { c with leg := .main, stop := none, search := some f }) s)
  | some .yielded, .job n, .run => requeueRun n false (clearCurrent s)
  | some .suspended, .job n, .run => suspendRun n (clearCurrent s)
  | some .rollClaim, .job n, .run => stationaryMoved .stopped (suspendRun n (clearCurrent s))
  | _, .tracker, _ => withdrawRescan (clearCurrent s)
  | some .rescan, r, _ =>
    stationaryMoved .stopped (s.onArbiter fun a => { a with current := none, interrupted := some r })
  | some .preempted, r, _ =>
    (clearCurrent s).onArbiter fun a => a.modifyEntry r fun e => { e with skip := 0 }
  | _, _, _ => stationaryMoved .stopped (clearCurrent s)

/-- An INDEX motion of a job completed its last leg: at the position limit the targets left are settled; otherwise a job that still
waits submits anew (R141). -/
def indexLegDone (n : Nat) (o : MoveOutcome) (s : State) : State :=
  if s.transport.rollEnd.isNone ∧ o ≠ .rollEnd ∧ Config.maxPosition ≤ s.transport.position + 2 then retryJob true n s
  else
    match openJob n s with
    | some j =>
      let still : Bool := match j.body with
        | .indexTo _ _ _ _ => j.state == .running
        | _ => j.state == .resolving
      if still then ensureIndex n s else s
    | none => s

/-- A SEEK motion completed: the job records outcome and position and ends DONE (R143). -/
def seekLegDone (n : Nat) (o : MoveOutcome) (s : State) : State :=
  match openJob n s with
  | some { body := .seek t r _ _, .. } =>
    endJob n .done .none
      (modifyJob n (fun j => { j with body := .seek t r (some o) (some s.transport.position) }) s)
  | _ => s

/-- A run leg reached its boundary (R126, R151); triggers still armed are disarmed (log 19). -/
def runLegDone (n : Nat) (o : MoveOutcome) (s : State) : State :=
  sweepDecide n (modifySweep n (fun r => { r with runEnded := some o }) (disarm s))

/-- The rescan has ended: the interrupted entry is made current again without a selection where it may be (R130). A run goes on with
its counts; one that a halt had taken anew as suspended starts another occupancy, and its entry's resume is cleared (R132, log 46). -/
def resumeInterrupted (s : State) : State :=
  match s.arbiter.interrupted with
  | none => s
  | some r =>
    match s.arbiter.entryOf r with
    | none => s.onArbiter Arbiter.dropInterrupted
    | some e =>
      if !maySelect s || !eligible s e || (r == .arbiter && 1 < s.arbiter.queue.length) then
        s.onArbiter Arbiter.dropInterrupted
      else
        let s1 := refreshStarts (s.onArbiter fun a => { a with interrupted := none })
        makeCurrent ((s1.arbiter.entryOf r).getD e) (if e.resume then startOccupancy e s1 else s1)

/-- The entry of a completed motion leaves the queue; one re-targeted meanwhile stays for its next selection (R118, R122). -/
def dropDone (c : Current) (s : State) : State :=
  match s.arbiter.entryOf c.requester with
  | some e =>
    if e.kind = c.kind ∧ e.frame = c.frame then s.onArbiter fun a => a.remove c.requester else s
  | none => s

/-- The last leg of a motion completed REACHED, CLAMPED or ROLL_END (R122). -/
def motionDone (c : Current) (o : MoveOutcome) (s : State) : State :=
  match c.kind, c.requester with
  | .readAhead, _ => clearCurrent s
  | .rescan, _ =>
    let s1 := clearCurrent (s.onArbiter fun a => a.remove c.requester)
    resumeInterrupted (if s1.tracker.rescan.isSome then rescanNotFound s1 else s1)
  | .reference, _ => clearCurrent (s.onArbiter fun a => a.remove c.requester)
  | .seek, .job n => seekLegDone n o (clearCurrent (dropDone c s))
  | .item, _ => stationaryMoved o (clearCurrent (dropDone c s))
  | .run, .job n =>
    if c.search.isSome then
      match o with
      | .reached | .clamped => stationaryMoved o s
      | .rollEnd | .stopped => stationaryMoved o (clearCurrent s)
    else runLegDone n o (clearCurrent (dropDone c s))
  | .index, .job n => indexLegDone n o (clearCurrent (dropDone c s))
  | _, _ => clearCurrent (dropDone c s)

/-- The transport tells the completion of the leg in flight (R122). -/
def legDone (o : MoveOutcome) (s : State) : State :=
  match s.arbiter.current with
  | none => s
  | some c =>
    if o = .stopped then legStopped c s
    else match nextLeg c.leg with
      | some l => if s.fault.halted then s else handLeg (modifyCurrent (fun c => { c with leg := l }) s)
      | none => motionDone c o s

/-! ### A run after its search frame (R126) -/

/-- The capture hold of a search frame is released: the run is suspended, yields, or goes on with a run-up (R125, R124, R126). -/
def continueRun (s : State) : State :=
  match s.arbiter.current with
  | some { requester := .job n, kind := .run, search := some _, .. } =>
    if s.transport.move.isSome || s.arbiter.captureHold || s.arbiter.searchHold || s.capture.holding.isSome ||
        s.fault.halted then s
    else if !s.arbiter.runImmune && waitingOf .urgent s then suspendRun n (clearCurrent s)
    else if yieldDue s then requeueRun n false (clearCurrent s)
    else handLeg (modifyCurrent (fun c => { c with leg := .runUp, stop := none, search := none }) s)
  | _ => s

end Sys2Proof.Machine
end

