-- ==== Sys2Proof/Machine/RollJobs.lean ====
section
/-! DEFINITION. LOAD and UNLOAD, reference searches, entry to EMPTY, and the transport's completions (1.5 to 1.10). -/

namespace Sys2Proof.Machine

/-! ### Jobs and the roll beneath them (R142) -/

/-- A body without its resolved frames; settled outcomes are kept (R142). A bound of ROLL_END, resolved from the start by R148, is given up
with the others until the next try (DESIGN CHOICE, log 55). -/
def JobBody.released : JobBody → JobBody
  | .seek t _ o f => .seek t none o f
  | .fetch is => .fetch (is.map fun i => { i with resolved := none, inCapture := false })
  | .sweep r => .sweep { r with fromFrame := none, endFrame := none, nextFrame := none, runEnded := none }
  | .indexTo t _ c f => .indexTo t none c f
  | b => b

/-- A LOAD starts beneath an open job: it gives up its frames and re-targets its entry to INDEX (R142). A job that waits for the
clear of a halt holds none. -/
def releaseFrames (n : Nat) (s : State) : State :=
  match openJob n s with
  | none => s
  | some j =>
    if j.body.isRoll || j.waitClear then s
    else
      let st := match j.body with
        | .indexTo _ _ _ _ => j.state
        | _ => .resolving
      submitJob n .index none (modifyJob n (fun j => { j with state := st, body := j.body.released }) s)

/-- The open job that is a LOAD or UNLOAD. -/
def rollJob (s : State) : Option Job := s.jobs.slots.find? fun j => j.isOpen && j.body.isRoll

/-- The transport enters EMPTY other than by the UNLOAD it carries out: a job that needs a roll ends FAILED with NO_ROLL, and a
QUEUED UNLOAD ends DONE (R142). -/
def loseRoll (n : Nat) (s : State) : State :=
  match openJob n s with
  | none => s
  | some j =>
    match j.body with
    | .load => s
    | .unload => if j.state = .queued then endJob n .done .none s else s
    | _ => endJob n .failed .noRoll s

/-! ### Contents cleared (R15, R20, R27, R73, R93, R116) -/

/-- Index, splice table, focus map, roll_end, tail_limit, broken and leader_missing are cleared, with the arbiter's internal and
background entries and the sequencer's list (R15, R20). -/
def clearContents (s : State) : State :=
  let s1 := emptyIndex (clearSequencer (clearInternal s))
  let s2 := (s1.onTracker fun t => { t with splices := [] }).onFocus fun f => { f with map := [], result := none }
  (putLeaderMissing false (putBroken false (putRollEnd none s2))).onTransport fun t => { t with tailLimit := none }

/-- The tracker when a LOAD starts (R27). -/
def freshTracker (s : State) : State := s.onTracker fun _ => Tracker.fresh s.transport.profile

/-- The tracker when the transport enters EMPTY: P16 is kept (R27). -/
def emptyTracker (s : State) : State :=
  s.onTracker fun t => { Tracker.fresh s.transport.profile with p16 := t.p16 }

/-- Every drive, limit and piece of work of the transport ends. -/
def stopWork (s : State) : State :=
  s.onTransport fun t =>
    { t with move := none, drive := none, search := none, roll := none, cancelling := false, tensionLimit := false,
             threadLimit := false, stallLimit := false, persistSupply := false, persistTakeUp := false, holdTimer := none }

/-- Every open job gives up its frames (R142). -/
def releaseAll (s : State) : State := (jobNumbers s).foldl (fun acc n => releaseFrames n acc) s

/-- The transport enters EMPTY (R20); `unloaded` when by the UNLOAD it carries out (R142). The jobs that lose the roll end before the
index is emptied, so the record of an INDEX_TO keeps the old entry count and frontier (log 49). At an UNLOAD the jobs accepted
meanwhile give up their frames, so that none names a frame that is gone (R140, log 30). -/
def enterEmpty (unloaded : Bool) (s : State) : State :=
  let s1 := if unloaded then s else (jobNumbers s).foldl (fun acc n => loseRoll n acc) s
  let s2 := setReference .lost (enterState .empty (slacken (stopWork (clearCurrent s1))))
  let s3 := emptyTracker (clearContents (s2.onTransport fun t => { t with position := 0, absorbed := 0 }))
  if unloaded then releaseAll s3 else s3

/-! ### Reference searches (R16 to R18, R21) -/

/-- The forward leader search begins at CREEP speed, its travel counted from here (R17). -/
def startForwardSearch (s : State) : State :=
  driveOn .forward .creep 0 ((turnTravel .forward s).onTransport fun t =>
    { t with search := some { phase := .forward, travel := 0 } })

/-- Put the search at a phase. -/
def searchPhase (p : SearchPhase) (s : State) : State :=
  s.onTransport fun t => { t with search := t.search.map fun r => { r with phase := p } }

/-- The move in flight is being stopped. -/
def stoppingMove (s : State) : Bool := s.transport.move.any fun m => m.stopping

/-- The move in flight was retargeted to the tail (R14). -/
def retargetedMove (s : State) : Bool := s.transport.move.any fun m => m.retargeted

/-- LEADER_EDGE in a search: with reverse travel the film is brought to rest (R18, R21); with forward travel the position count is
0, reference EXACT, and the drives stop (R17, R21). Outside a search it has no effect; a search being stopped, or whose record TAIL_SEEN
retargeted (log 52), does not take it. -/
def takeLeaderEdge (s : State) : State :=
  match s.transport.search with
  | none => s
  | some r =>
    if stoppingMove s || retargetedMove s then s
    else match r.phase, s.transport.travel with
      | .reverse, .reverse => driveOff (searchPhase .turning s)
      | .forward, .forward =>
        raise .rollState (setReference .exact (tailTest (driveOff ((searchPhase .arriving s).onTransport fun t =>
          { t with position := 0, absorbed := 0 }))))
      | _, _ => s

/-- The search under way ends. -/
def endSearch (s : State) : State := s.onTransport fun t => { t with search := none, roll := none }

/-- The LOAD or UNLOAD the transport carries out ends with a state and reason. -/
def endRollJob (st : JobState) (why : EndReason) (s : State) : State :=
  match rollJob s with
  | some j => endJob j.number st why s
  | none => s

/-- The film came to rest past the leader edge: READY, and the LOAD or the REFERENCE record completes (R17, R21; log 9). -/
def searchArrived (s : State) : State :=
  let load := s.transport.roll == some .load
  let s1 := enterState .ready ((endSearch s).onTransport fun t => { t with move := none })
  if load then endRollJob .done .none s1 else legDone .reached s1

/-- The forward search travelled 200,000 counts: RESTING with reference LOST and leader_missing; the LOAD fails NO_LEADER, or the
REFERENCE entry leaves the queue (R17, R21, R129). -/
def searchFails (s : State) : State :=
  let load := s.transport.roll == some .load
  let s1 := slacken (driveOff (putLeaderMissing true ((endSearch s).onTransport fun t => { t with move := none })))
  let s2 := raise .rollState (setReference .lost (enterState .resting s1))
  if load then endRollJob .failed .noLeader s2
  else (clearCurrent s2).onArbiter fun a => a.remove .transport

/-! ### Starting LOAD and UNLOAD (R15 to R18, R20) -/

/-- A LOAD starts: the roll's contents are cleared and P16 set; from EMPTY with film-present clear it then fails at once (R15, R27). -/
def startLoad (n : Nat) (s : State) : State :=
  let s1 := releaseAll (freshTracker (clearContents (setJobState n .running (clearCurrent s))))
  if s1.transport.state = .empty ∧ !s1.pins.levels.filmPresent then endJob n .failed .threadFail s1
  else
    let s3 := s1.onTransport fun t => { t with roll := some .load }
    match s3.transport.state with
    | .empty => enterState .threading (s3.onTransport fun t => { t with threadLimit := true })
    | .ready => startReference s3
    | _ => enterTensioning s3

/-- The UNLOAD drives in reverse at REWIND speed (R20). -/
def startRewind (s : State) : State := driveOn .reverse .rewind 0 (enterState .rewinding (turnTravel .reverse s))

/-- An UNLOAD starts (R20). -/
def startUnload (n : Nat) (s : State) : State :=
  let s1 := (setJobState n .running (clearCurrent s)).onTransport fun t => { t with roll := some .unload }
  match s1.transport.state with
  | .ready => startRewind s1
  | _ => enterTensioning s1

/-- A LOAD or UNLOAD that waits starts when the transport is in EMPTY, READY or RESTING with nothing in flight (R15, R20, R139). -/
def startRollJob (s : State) : State :=
  let still := s.transport.state = .empty ∨ s.transport.state = .ready ∨ s.transport.state = .resting
  if still ∧ s.transport.move.isNone ∧ !s.fault.halted then
    match rollJob s with
    | some j =>
      if j.state = .queued then
        match j.body with
        | .load => startLoad j.number s
        | .unload => startUnload j.number s
        | _ => s
      else s
    | none => s
  else s

/-! ### Threading and tension (R11, R16) -/

/-- Threading ends at the take-up side's IN_BAND: the supply reel is tensioned and the forward search begins (R16). -/
def threadingDone (s : State) : State :=
  startForwardSearch (enterState .referencing (s.onTransport fun t =>
    { t with threadLimit := false, tension := .taut }))

/-- Threading fails: the LOAD ends THREAD_FAIL and the transport enters EMPTY (R16, R139). -/
def threadingFails (s : State) : State := enterEmpty false (endRollJob .failed .threadFail s)

/-- Both sides are IN_BAND in TENSIONING: tension is TAUT and the work that waited proceeds (R11). A move stopped meanwhile completes
STOPPED without motion (R9). -/
def tensionReached (s : State) : State :=
  let s1 := s.onTransport fun t => { t with tensionLimit := false, tension := .taut }
  match s1.transport.roll, s1.transport.move with
  | some .load, _ => startReference s1
  | some .unload, _ => startRewind s1
  | none, some m =>
    if m.stopping then legDone .stopped (enterState .ready (s1.onTransport fun t => { t with move := none }))
    else if m.purpose = .reference then startReference s1
    else if (s1.arbiter.current.any fun c => c.leg == .runUp || c.leg == .approach) &&
        decide (dist m.target s1.transport.position ≤ 2) then
      legDone .reached (enterState .ready (s1.onTransport fun t => { t with move := none }))
    else startMove m s1
  | none, none => enterState .ready s1

/-- Both tension sensors report IN_BAND. -/
def bothInBand (s : State) : Bool := s.pins.supply == .inBand && s.pins.takeUp == .inBand

/-! ### Completions (R10, R18, R19, R21) -/

/-- The move in flight completes with an outcome: READY, the pass ends, and the arbiter is told (R10, R28, R100). -/
def completeMove (o : MoveOutcome) (s : State) : State :=
  let s1 := enterState .ready ((driveOff s).onTransport fun t => { t with move := none })
  let s2 := refreshMode (s1.onTracker fun t => { t with heldIdle := false })
  legDone o (if o = .stopped ∧ s2.capture.holding.isNone then disarm s2 else s2)

/-- The outcome of a move that came to rest; none while it is under way (R10). -/
def restOutcome (m : MoveRecord) (pos : Nat) : Option MoveOutcome :=
  if m.stopping then some .stopped
  else if dist pos m.target ≤ 2 then
    some (if m.retargeted then .rollEnd else if m.clamped then .clamped else .reached)
  else none

/-- The film of a cancelled LOAD or UNLOAD came to rest: the reels go slack in RESTING (R19). -/
def cancelledAtRest (s : State) : State :=
  enterState .resting (slacken (s.onTransport fun t => { t with cancelling := false }))

/-- A REFERENCE record that TAIL_SEEN retargeted came to rest: near its target it completes ROLL_END (R14, log 52). -/
def tailReached (s : State) : State :=
  match s.transport.move.bind fun m => restOutcome m s.transport.position with
  | some o => legDone o (enterState .ready ((driveOff (endSearch s)).onTransport fun t => { t with move := none }))
  | none => s

/-- A reference search came to rest (R14, R18, R21). -/
def searchAtRest (s : State) : State :=
  if s.transport.cancelling then cancelledAtRest s
  else if stoppingMove s then
    legDone .stopped (enterState .ready ((endSearch s).onTransport fun t => { t with move := none }))
  else if retargetedMove s then tailReached s
  else match s.transport.search with
    | some { phase := .turning, .. } => startForwardSearch s
    | some { phase := .arriving, .. } => searchArrived s
    | _ => s

/-- Motion has stopped. -/
def motionStops (s : State) : State :=
  match s.transport.state with
  | .moving =>
    match s.transport.move with
    | some m => match restOutcome m s.transport.position with
      | some o => completeMove o s
      | none => s
    | none => s
  | .referencing => searchAtRest s
  | .rewinding => if s.transport.cancelling then cancelledAtRest s else s
  | _ => s

/-! ### Cancelling (R19) -/

/-- The transport's part in the cancel of a RUNNING LOAD or UNLOAD (R19; log 10). The job has ended. -/
def cancelRollWork (s : State) : State :=
  match s.transport.state with
  | .threading => enterEmpty false s
  | .tensioning => setReference .lost (enterState .resting (slacken (stopWork s)))
  | .referencing | .rewinding =>
    setReference .lost ((driveOff (endSearch s)).onTransport fun t => { t with cancelling := true })
  | _ => s

/-! ### TAIL_SEEN (R14) -/

/-- The move in flight is retargeted to an end value below its target; a film already past it comes back in reverse (R14). -/
def retargetMove (e : Nat) (s : State) : State :=
  match s.transport.move with
  | some m =>
    if m.purpose ≠ .reference ∧ e < m.target then
      s.onTransport fun t =>
        { t with move := some { m with target := e, retargeted := true },
                 drive := if e < t.position then t.drive.map fun d => { d with dir := .reverse } else t.drive }
    else s
  | none => s

/-- TAIL_SEEN is taken in this state (R14). -/
def tailTaken (s : State) : Bool :=
  s.transport.state != .empty && s.transport.state != .threading && s.transport.state != .rewinding

/-- TAIL_SEEN (R14). With reference LOST a record in flight with forward travel is retargeted to the position, also a REFERENCE record
that creeps forward (log 52). -/
def takeTail (s : State) : State :=
  let t := s.transport
  if tailTaken s then
    match t.reference with
    | .lost =>
      if t.travel = .forward ∧ (t.state = .moving ∨ t.state = .referencing) then
        s.onTransport fun t => { t with move := t.move.map fun m => { m with target := t.position, retargeted := true } }
      else s
    | .exact | .drifted =>
      let e := t.position - Config.tailOffset
      if (t.rollEnd.any fun r => r ≤ e) || (t.tailLimit.any fun r => r ≤ e) then s
      else if t.position ≤ e then retargetMove e (setRollEnd e s)
      else retargetMove e (s.onTransport fun t => { t with tailLimit := some e })
  else s

end Sys2Proof.Machine
end

