-- ==== Sys2Proof/Machine/Settle.lean ====
section
/-! DEFINITION. What follows at the end of each step: waiting work starts, timers follow their conditions, transmitters choose
(log 8). -/

namespace Sys2Proof.Machine

/-! ### Timers (R12, R24) -/

/-- The hold timer's five conditions (R12). -/
def mayRest (s : State) : Bool :=
  s.transport.state == .ready && s.arbiter.queue.isEmpty &&
    s.focus.state != .homing && s.focus.state != .slewing && s.focus.state != .searching &&
    !s.capture.answerOutstanding && s.capture.holding.isNone

/-- The hold timer is loaded when its conditions come to hold together and stopped when one ceases (R12). -/
def syncHoldTimer (s : State) : State :=
  if mayRest s then
    if s.transport.holdTimer.isNone then
      s.onTransport fun t => { t with holdTimer := some t.profile.holdTime }
    else s
  else if s.transport.holdTimer.isNone then s
  else s.onTransport fun t => { t with holdTimer := none }

/-- The states in which tension persistence is watched (R24). -/
def watchesTension (s : State) : Bool :=
  s.transport.state == .ready || s.transport.state == .moving || s.transport.state == .referencing

/-- Each side's persistence limit runs while its reading is out of IN_BAND in a watched state (R24). -/
def syncPersist (s : State) : State :=
  s.onTransport fun t =>
    { t with persistSupply := watchesTension s && s.pins.supply != .inBand,
             persistTakeUp := watchesTension s && s.pins.takeUp != .inBand }

/-- The stall limit runs only while the drives are commanded (R23). -/
def syncStall (s : State) : State :=
  if s.transport.drive.isNone then s.onTransport fun t => { t with stallLimit := false } else s

/-! ### Transmitters (R182 to R186) -/

/-- The kinds in the order they are sent (R185). -/
def noticeOrder : List NoticeKind := [.fault, .rollState, .indexProgress, .dispute]

/-- The first pending notice whose kind is unmasked (R185). -/
def nextNotice (u : LinkUnit) : Option NoticeKind := noticeOrder.find? fun k => u.flags.get k && !u.mask.get k

/-- What a transmitter would send next: its kind and body (R185). -/
def nextTransmission (l : LinkId) (s : State) : Option (TxKind × List Byte) :=
  let u := s.link l
  match u.replySlot, u.jobDone, s.capture.ring.head? with
  | some body, _, _ => some (.reply, body)
  | none, n :: _, _ => (findJob n s).map fun j => (.jobDone, jobDoneBody j s)
  | none, [], head =>
    match head.filter fun r => r.link == l && !r.drop with
    | some r => some (.captured, capturedBody r)
    | none => (nextNotice u).map fun k => (.notice k, noticeBody k s)

/-- A transmission begins; a maskable notice's flag is cleared as it does (R182, R185). -/
def beginTransmission (l : LinkId) (k : TxKind) (body : List Byte) (s : State) : State :=
  s.onLink l fun u =>
    { u with transmitter := .sending k (frameOf body),
             flags := match k with
               | .notice n => u.flags.put n false
               | _ => u.flags }

/-- An IDLE transmitter chooses: HELD with hold set, else the next frame that waits (R185, R186). Nothing is sent in a break
(R189). -/
def serviceLink (l : LinkId) (s : State) : State :=
  let u := s.link l
  if u.receiver = .brk then s
  else match u.transmitter with
    | .sending _ _ => s
    | .held => if u.hold then s else
        match nextTransmission l s with
        | some (k, body) => beginTransmission l k body s
        | none => s.onLink l fun u => { u with transmitter := .idle }
    | .idle =>
      if u.hold then s.onLink l fun u => { u with transmitter := .held }
      else match nextTransmission l s with
        | some (k, body) => beginTransmission l k body s
        | none => s

/-- Every transmitter chooses. -/
def serviceLinks (s : State) : State := serviceLink .c (serviceLink .b (serviceLink .a s))

/-! ### The end of a step -/

/-- The arbiter's part: a run goes on after its search frame, and selections are made; a record returned for LOST leaves a second
one to make (R120, R126). -/
def arbitrate (s : State) : State := select (select (continueRun (preemptReadAhead s)))

/-- The lens and the stationary capture go on as far as they can (R74, R109). -/
def serviceCapture (s : State) : State := serviceLens (serviceStationary (serviceLens s))

/-- What follows in the blocks at the end of a step, before the transmitters choose. -/
def settleBlocks (s : State) : State :=
  let s1 := serviceCapture (syncReadAhead (startRollJob s))
  let s2 := serviceCapture (syncReadAhead (arbitrate s1))
  syncHoldTimer (syncStall (syncPersist (dropHeads s2)))

/-- The end of a step (log 8). -/
def settle (s : State) : State := serviceLinks (settleBlocks s)

end Sys2Proof.Machine
end

