-- ==== Sys2Proof/Machine/Faults.lean ====
section
/-! DEFINITION. Fault reports, the halt, the fate of jobs, and the clear (chapter 8, R26, R78, R115, R131 to R133). -/

namespace Sys2Proof.Machine

/-! ### The blocks at a halt -/

/-- Rank of a cause, 1 the most severe (8.1). -/
def Cause.rank : Cause → Nat
  | .filmBreak => 1 | .capstanStall => 2 | .tensionRange => 3 | .lensFault => 4 | .operatorStop => 5

/-- The cause releases the reels (R26). -/
def Cause.slackens (c : Cause) : Bool := c == .filmBreak || c == .tensionRange

/-- The focus controller at a halt (R78). -/
def haltFocus (s : State) : State :=
  (abandonSearch s).onFocus fun f =>
    match f.state with
    | .homing => { f with state := .unhomed, lens := none, result := none }
    | .slewing | .searching => { f with state := .idle, result := none }
    | .unhomed | .idle | .faulted => { f with result := none }

/-- The ITEM entry that a sweep halted at its search frame holds in the place of its run (R163). It keeps the arrival, skip_count and
resume with which the run was taken anew (R132, log 35). -/
def holdItem (job : Nat) (frame : Nat) (s : State) : State :=
  let start := startPosition (.job job) .item (some frame) s
  s.onArbiter fun a => a.modifyEntry (.job job) fun e =>
    { e with kind := .item, frame := some frame, start := start }

/-- A run that a halt finds current is taken anew as suspended, resume set (R132); at its search frame its entry is then the ITEM of that
frame (R163, log 35). One that was stopping for a rescan, at a search frame or not, is the interrupted entry too (log 46). -/
def haltRun (n : Nat) (c : Current) (s : State) : State :=
  let s1 := requeueRun n true s
  let s2 := match c.search with
    | some f => holdItem n f s1
    | none => s1
  if c.stop = some .rescan then s2.onArbiter fun a => { a with interrupted := some (.job n) } else s2

/-- The arbiter at a halt: a run is taken anew, a RESCAN in flight withdrawn, any other entry kept; the holds are cleared (R132). -/
def haltArbiter (s : State) : State :=
  let s1 := match s.arbiter.current with
    | none => s
    | some c =>
      let s1 := clearCurrent s
      match c.stop, c.requester, c.kind with
      | some .withdrawn, _, _ => s1
      | _, .job n, .run => haltRun n c s1
      | _, .tracker, _ => withdrawRescan s1
      | some .rescan, r, _ => s1.onArbiter fun a => { a with interrupted := some r }
      | _, _, _ => s1
  setCaptureHold false (setSearchHold false s1)

/-- The reels are held at working tension by a halt for a cause that holds them (R26). -/
def heldAtHalt : TransportState → Bool
  | .referencing | .ready | .moving | .tensioning | .rewinding => true
  | .empty | .threading | .resting | .halted => false

/-- The transport at a halt (R26). -/
def haltTransport (c : Cause) (s : State) : State :=
  let hold := heldAtHalt s.transport.state && !c.slackens
  let was := s.transport.state
  let s1 := (stopWork s).onTransport fun t =>
    { t with tension := if hold then .taut else .slack, haltedEmpty := was == .empty }
  refreshMode ((enterState .halted s1).onTracker fun t => { t with heldIdle := false })

/-! ### The fate of jobs (R162, R163, R165) -/

/-- A job ends FAILED by a fault; items still PENDING take outcome FAILED (R162). -/
def failJob (c : Cause) (n : Nat) (s : State) : State :=
  endJob n .failed (.fault c) (modifyItems n (fun is => is.map fun i =>
    if i.outcome = .pending then { i with outcome := .failed, inCapture := false } else i) s)

/-- The fate of a cause for one job (R162, R163, R165). A LOAD that fails leaves reference LOST (R5). -/
def jobFate (c : Cause) (n : Nat) (s : State) : State :=
  match openJob n s with
  | none => s
  | some j =>
    if c = .filmBreak then failJob c n s
    else match j.body with
      | .load => if j.waitClear then s else setReference .lost (failJob c n s)
      | .unload => if j.waitClear then s else failJob c n s
      | .sweep _ => if j.state = .running then setJobState n .suspended s else s
      | _ => s

/-- The fate of a cause for every open job. -/
def applyFate (c : Cause) (s : State) : State := (jobNumbers s).foldl (fun acc n => jobFate c n acc) s

/-- A FILM_BREAK taken as cause sets broken and loses the reference (R159, R160). -/
def breakFilm (c : Cause) (s : State) : State :=
  if c = .filmBreak then setReference .lost (putBroken true s) else s

/-! ### Reports (R159, R160) -/

/-- A fault report: a first fault halts the part, a later one may upgrade the cause (R159, R160). -/
def reportFault (c : Cause) (s : State) : State :=
  let pos := s.transport.position
  if s.fault.halted then
    let s1 := raise .fault (s.onFault fun f => { f with later := true })
    if s.fault.cause.all fun old => c.rank < old.rank then
      let s2 := applyFate c (s1.onFault fun f => { f with cause := some c, position := some pos })
      breakFilm c (if c.slackens then slacken s2 else s2)
    else s1
  else
    let s1 := s.onFault fun _ => { halted := true, cause := some c, position := some pos, later := false }
    let s2 := haltTransport c (haltArbiter (haltFocus (haltSequencer s1)))
    raise .fault (breakFilm c (applyFate c s2))

/-! ### The clear (R167 to R169) -/

/-- The lens home is reachable (R78). -/
def homeReachable (s : State) : Bool := s.focus.state != .faulted || s.pins.levels.homeSwitch

/-- The checks of CLEAR_FAULT (R167). -/
def clearCheck (s : State) : Result :=
  if !s.fault.halted then .wrongState
  else if s.pins.levels.stop then .conditionPresent
  else if s.fault.cause = some .filmBreak ∧ !s.pins.levels.filmPresent then .conditionPresent
  else if !homeReachable s then .conditionPresent
  else if s.fault.cause = some .filmBreak ∧ (!s.capture.ring.isEmpty || s.capture.answerOutstanding) then .busy
  else .ok

/-- The reference quality a clear leaves in RESTING (R169). -/
def clearedReference (c : Option Cause) (r : Reference) : Reference :=
  match c with
  | some .filmBreak | some .capstanStall => .lost
  | _ => if r = .lost then .lost else .drifted

/-- The transport leaves HALTED with the reels slack (R26, R168 step 3, R169). -/
def leaveHalt (c : Option Cause) (s : State) : State :=
  let s1 := slacken s
  if s.pins.levels.filmPresent then
    setReference (clearedReference c s.transport.reference) (enterState .resting s1)
  else enterEmpty false s1

/-- The lens after a clear (R78). -/
def clearLens (s : State) : State :=
  s.onFocus fun f => { f with state := .unhomed, lens := none, recal := false, result := none }

/-- A job that waited for the clear starts, or waits no longer (R138, R139). -/
def startWaiting (n : Nat) (s : State) : State :=
  match openJob n s with
  | none => s
  | some j =>
    if j.waitClear then
      if j.body.isRoll then modifyJob n (fun j => { j with waitClear := false }) s else startJob n s
    else s

/-- The cut of a clear after FILM_BREAK (R72, R168 step 1). -/
def clearCut (s : State) : State :=
  match s.fault.cause, s.fault.position with
  | some .filmBreak, some p => filmBreakCut ((p : Int) - 2 * s.transport.profile.pitchMax) s
  | _, _ => s

/-- Arbitration restarts: blocked is cleared, READ_AHEAD is placed where the cut left the index GROWING (R127, R131), with reference LOST and
a motion waiting the transport asks for re-reference, and then the waiting jobs start (R133, R138, R169, log 60). -/
def restart (s : State) : State :=
  let s1 := syncReadAhead (setBlocked false s)
  let s2 := if s1.transport.state = .resting ∧ !s1.arbiter.queue.isEmpty then askReference s1 else s1
  (jobNumbers s2).foldl (fun acc n => startWaiting n acc) s2

/-- An accepted CLEAR_FAULT (R168). -/
def applyClear (s : State) : State :=
  let cause := s.fault.cause
  let s1 := clearCut s
  let s2 := raise .fault (s1.onFault fun _ => FaultRecord.clear)
  restart (clearLens (leaveHalt cause s2))

end Sys2Proof.Machine
end

