-- ==== Sys2Proof/Machine/Codec.lean ====
section
/-! DEFINITION. The bodies of request frames: the layouts of R192 to R194 and R199, written and read. -/

namespace Sys2Proof.Machine

/-- A request as its body carries it, without its tag. The fields have their width on the line. -/
inductive Request where
  | getStatus | getProfile
  | setProfile (r : ProfileRecord)
  | getEntries (n : BitVec 16) (count : Byte)
  | findAddress (b d p : BitVec 16)
  | getFocusMap
  | setFocusPoint (position : BitVec 24) (lensStep : BitVec 16)
  | clearFocusMap
  | verifySegment (seg : Byte)
  | unverifySegment (seg : Byte)
  | truncateIndex (n : BitVec 16)
  | setNoticeMask (mask : Byte)
  | clearFault
  | cancelJob (job : Byte)
  | getJob (job : Byte)
  | loadRoll | unloadRoll
  | seekFrame (flags : Byte) (target : TargetField)
  | fetch (flags : Byte) (items : List TargetField)
  | sweep (flags : Byte) (fromT toT : TargetField)
  | indexTo (flags : Byte) (target : TargetField)
  deriving DecidableEq, Repr

/-- The kind byte of a request (R192). -/
def Request.kind : Request → Byte
  | .getStatus => 0x01
  | .getProfile => 0x02
  | .setProfile _ => 0x03
  | .getEntries _ _ => 0x04
  | .findAddress _ _ _ => 0x05
  | .getFocusMap => 0x06
  | .setFocusPoint _ _ => 0x07
  | .clearFocusMap => 0x08
  | .verifySegment _ => 0x09
  | .unverifySegment _ => 0x0A
  | .truncateIndex _ => 0x0B
  | .setNoticeMask _ => 0x0C
  | .clearFault => 0x0D
  | .cancelJob _ => 0x0E
  | .getJob _ => 0x0F
  | .loadRoll => 0x30
  | .unloadRoll => 0x31
  | .seekFrame _ _ => 0x32
  | .fetch _ _ => 0x33
  | .sweep _ _ _ => 0x34
  | .indexTo _ _ => 0x35

/-! ### Writing -/

/-- Two bytes of a word, high byte first. -/
def put16 (w : BitVec 16) : List Byte := [w.extractLsb' 8 8, w.extractLsb' 0 8]

/-- Three bytes of a word, high byte first. -/
def put24 (w : BitVec 24) : List Byte := [w.extractLsb' 16 8, w.extractLsb' 8 8, w.extractLsb' 0 8]

/-- A target field (R194). -/
def putTarget (t : TargetField) : List Byte := t.code :: (put16 t.w0 ++ (put16 t.w1 ++ put16 t.w2))

/-- The profile record (R199). -/
def putProfile (r : ProfileRecord) : List Byte :=
  [r.filmWidth] ++ (put16 r.pitchNominal ++ (put16 r.pitchMin ++ (put16 r.pitchMax ++ (put16 r.imageMin ++
  (put16 r.imageMax ++ (put16 r.markMin ++ (put16 r.mark12 ++ (put16 r.mark23 ++ (put16 r.markMax ++
  (put16 r.startBatch ++ (put16 r.startDocument ++ (put16 r.startPage ++ (put16 r.axisOffset ++
  ([r.slipTol] ++ ([r.rescanLimit] ++ (put16 r.spliceFocusOffset ++ (put16 r.defaultFocus ++
  (put24 r.focusReach ++ (put16 r.metricFloor ++ ([r.captureSpeed] ++ (put16 r.answerLimit ++
  (put16 r.holdTime ++ [r.readAhead]))))))))))))))))))))))

/-- The items of a FETCH (R194). -/
def putItems : List TargetField → List Byte
  | [] => []
  | t :: ts => putTarget t ++ putItems ts

/-- The parameters of a request, from offset 2 (R193). -/
def Request.params : Request → List Byte
  | .setProfile r => putProfile r
  | .getEntries n count => put16 n ++ [count]
  | .findAddress b d p => put16 b ++ (put16 d ++ put16 p)
  | .setFocusPoint position lensStep => put24 position ++ put16 lensStep
  | .verifySegment seg => [seg]
  | .unverifySegment seg => [seg]
  | .truncateIndex n => put16 n
  | .setNoticeMask mask => [mask]
  | .cancelJob job => [job]
  | .getJob job => [job]
  | .seekFrame flags t => flags :: putTarget t
  | .fetch flags items => flags :: BitVec.ofNat 8 items.length :: putItems items
  | .sweep flags fromT toT => flags :: (putTarget fromT ++ putTarget toT)
  | .indexTo flags t => flags :: putTarget t
  | .getStatus | .getProfile | .getFocusMap | .clearFocusMap | .clearFault | .loadRoll | .unloadRoll => []

/-- The body of a request with a tag (R192, R193). -/
def Request.body (tag : Byte) (r : Request) : List Byte := r.kind :: tag :: r.params

/-! ### Reading -/

/-- Take one byte. -/
def get8 : List Byte → Option (Byte × List Byte)
  | b :: bs => some (b, bs)
  | _ => none

/-- Take two bytes, high byte first. -/
def get16 : List Byte → Option (BitVec 16 × List Byte)
  | h :: l :: bs => some (h ++ l, bs)
  | _ => none

/-- Take three bytes, high byte first. -/
def get24 : List Byte → Option (BitVec 24 × List Byte)
  | h :: m :: l :: bs => some (h ++ (m ++ l), bs)
  | _ => none

/-- Take a target field (R194). -/
def getTarget (bs : List Byte) : Option (TargetField × List Byte) := do
  let (code, bs) ← get8 bs
  let (w0, bs) ← get16 bs
  let (w1, bs) ← get16 bs
  let (w2, bs) ← get16 bs
  some ({ code := code, w0 := w0, w1 := w1, w2 := w2 }, bs)

/-- Take a profile record (R199). -/
def getProfileRecord (bs : List Byte) : Option (ProfileRecord × List Byte) := do
  let (filmWidth, bs) ← get8 bs
  let (pitchNominal, bs) ← get16 bs
  let (pitchMin, bs) ← get16 bs
  let (pitchMax, bs) ← get16 bs
  let (imageMin, bs) ← get16 bs
  let (imageMax, bs) ← get16 bs
  let (markMin, bs) ← get16 bs
  let (mark12, bs) ← get16 bs
  let (mark23, bs) ← get16 bs
  let (markMax, bs) ← get16 bs
  let (startBatch, bs) ← get16 bs
  let (startDocument, bs) ← get16 bs
  let (startPage, bs) ← get16 bs
  let (axisOffset, bs) ← get16 bs
  let (slipTol, bs) ← get8 bs
  let (rescanLimit, bs) ← get8 bs
  let (spliceFocusOffset, bs) ← get16 bs
  let (defaultFocus, bs) ← get16 bs
  let (focusReach, bs) ← get24 bs
  let (metricFloor, bs) ← get16 bs
  let (captureSpeed, bs) ← get8 bs
  let (answerLimit, bs) ← get16 bs
  let (holdTime, bs) ← get16 bs
  let (readAhead, bs) ← get8 bs
  some ({ filmWidth := filmWidth, pitchNominal := pitchNominal, pitchMin := pitchMin, pitchMax := pitchMax,
          imageMin := imageMin, imageMax := imageMax, markMin := markMin, mark12 := mark12, mark23 := mark23,
          markMax := markMax, startBatch := startBatch, startDocument := startDocument, startPage := startPage,
          axisOffset := axisOffset, slipTol := slipTol, rescanLimit := rescanLimit,
          spliceFocusOffset := spliceFocusOffset, defaultFocus := defaultFocus, focusReach := focusReach,
          metricFloor := metricFloor, captureSpeed := captureSpeed, answerLimit := answerLimit,
          holdTime := holdTime, readAhead := readAhead }, bs)

/-- Take `n` target fields. -/
def getItems : Nat → List Byte → Option (List TargetField × List Byte)
  | 0, bs => some ([], bs)
  | n + 1, bs => do
    let (t, bs) ← getTarget bs
    let (ts, bs) ← getItems n bs
    some (t :: ts, bs)

/-- The value read, where nothing is left over. -/
def whole {α : Type} (r : Option (α × List Byte)) : Option α := do
  let (v, bs) ← r
  if bs.isEmpty then some v else none

/-- No parameters. -/
def bare (r : Request) (bs : List Byte) : Option Request := if bs.isEmpty then some r else none

/-- One byte of parameters. -/
def oneByte (f : Byte → Request) (bs : List Byte) : Option Request := whole do
  let (b, bs) ← get8 bs
  some (f b, bs)

/-- Flags and a target. -/
def flagsTarget (f : Byte → TargetField → Request) (bs : List Byte) : Option Request := whole do
  let (flags, bs) ← get8 bs
  let (t, bs) ← getTarget bs
  some (f flags t, bs)

/-- Read the parameters of a request of a kind; none where the body's length is not that of its layout, or the kind is
no request kind (R193). -/
def readParams (kind : Byte) (bs : List Byte) : Option Request :=
  match kind.toNat with
  | 0x01 => bare .getStatus bs
  | 0x02 => bare .getProfile bs
  | 0x03 => whole do
    let (r, bs) ← getProfileRecord bs
    some (.setProfile r, bs)
  | 0x04 => whole do
    let (n, bs) ← get16 bs
    let (count, bs) ← get8 bs
    some (.getEntries n count, bs)
  | 0x05 => whole do
    let (b, bs) ← get16 bs
    let (d, bs) ← get16 bs
    let (p, bs) ← get16 bs
    some (.findAddress b d p, bs)
  | 0x06 => bare .getFocusMap bs
  | 0x07 => whole do
    let (position, bs) ← get24 bs
    let (lensStep, bs) ← get16 bs
    some (.setFocusPoint position lensStep, bs)
  | 0x08 => bare .clearFocusMap bs
  | 0x09 => oneByte .verifySegment bs
  | 0x0A => oneByte .unverifySegment bs
  | 0x0B => whole do
    let (n, bs) ← get16 bs
    some (.truncateIndex n, bs)
  | 0x0C => oneByte .setNoticeMask bs
  | 0x0D => bare .clearFault bs
  | 0x0E => oneByte .cancelJob bs
  | 0x0F => oneByte .getJob bs
  | 0x30 => bare .loadRoll bs
  | 0x31 => bare .unloadRoll bs
  | 0x32 => flagsTarget .seekFrame bs
  | 0x33 => whole do
    let (flags, bs) ← get8 bs
    let (count, bs) ← get8 bs
    let (items, bs) ← getItems count.toNat bs
    some (.fetch flags items, bs)
  | 0x34 => whole do
    let (flags, bs) ← get8 bs
    let (fromT, bs) ← getTarget bs
    let (toT, bs) ← getTarget bs
    some (.sweep flags fromT toT, bs)
  | 0x35 => flagsTarget .indexTo bs
  | _ => none

/-- Read a body: the tag and the request (R193). -/
def readBody : List Byte → Option (Byte × Request)
  | kind :: tag :: bs => (readParams kind bs).map fun r => (tag, r)
  | _ => none

end Sys2Proof.Machine
end

