-- ==== Sys2Proof/Machine/Operands.lean ====
section
/-! DEFINITION. The operands of requests: target fields, the body check of R193 and R194, and the profile check of R2. -/

namespace Sys2Proof.Machine

/-! ### Target fields (R194) -/

/-- The target a field names, none where the field breaks its row of R194. -/
def targetOf (t : TargetField) : Option Target :=
  match t.code.toNat with
  | 1 => if t.w0.toNat ≤ Config.maxFrame ∧ t.w1 = 0 ∧ t.w2 = 0 then some (.frame t.w0.toNat) else none
  | 2 => if t.w0 ≠ 0 ∧ t.w1 ≠ 0 ∧ t.w2 ≠ 0 then some (.address ⟨t.w0.toNat, t.w1.toNat, t.w2.toNat⟩) else none
  | 3 => if t.w0 = 0 ∧ t.w1 = 0 ∧ t.w2 = 0 then some .rollEnd else none
  | _ => none

/-- A field that names a frame or an address. -/
def namedTarget (t : TargetField) : Option Target :=
  match targetOf t with
  | some .rollEnd => none
  | r => r

/-- The fields of an item list, none where one of them is no FRAME or ADDRESS. -/
def itemTargets : List TargetField → Option (List Target)
  | [] => some []
  | t :: ts => do
    let x ← namedTarget t
    let xs ← itemTargets ts
    some (x :: xs)

/-- R137 check 1 on the bounds of a sweep: of two frames or two addresses, `from` must not lie above `to`. -/
def boundsOrdered : Target → Target → Bool
  | .frame x, .frame y => x ≤ y
  | .address x, .address y => !y.lt x
  | _, _ => true

/-- The parameters of a job request, checked. -/
inductive JobOrder where
  | load | unload
  | seek (urgent : Bool) (t : Target)
  | fetch (urgent search : Bool) (items : List Target)
  | sweep (revisit search : Bool) (fromT toT : Target)
  | indexTo (t : Target)
  deriving DecidableEq, Repr

/-- A request whose body passed the check, with plain values. -/
inductive Order where
  | getStatus | getProfile
  | setProfile (r : ProfileRecord)
  | getEntries (n count : Nat)
  | findAddress (a : Address)
  | getFocusMap
  | setFocusPoint (position lens : Nat)
  | clearFocusMap
  | verifySegment (seg : Nat)
  | unverifySegment (seg : Nat)
  | truncateIndex (n : Nat)
  | setNoticeMask (mask : Byte)
  | clearFault
  | cancelJob (job : Nat)
  | getJob (job : Nat)
  | job (o : JobOrder)
  deriving DecidableEq, Repr

/-- The body check of R193 and R194 on a request of the right length; none: INVALID. -/
def checkRequest (r : Request) : Option Order :=
  match r with
  | .getStatus => some .getStatus
  | .getProfile => some .getProfile
  | .setProfile r => some (.setProfile r)
  | .getEntries n count =>
    if n.toNat ≤ Config.maxFrame ∧ 1 ≤ count.toNat ∧ count.toNat ≤ 8 then some (.getEntries n.toNat count.toNat) else none
  | .findAddress b d p => if b ≠ 0 ∧ d ≠ 0 ∧ p ≠ 0 then some (.findAddress ⟨b.toNat, d.toNat, p.toNat⟩) else none
  | .getFocusMap => some .getFocusMap
  | .setFocusPoint position lens =>
    if position.toNat ≤ Config.maxPosition ∧ lens.toNat ≤ Config.maxStep then
      some (.setFocusPoint position.toNat lens.toNat) else none
  | .clearFocusMap => some .clearFocusMap
  | .verifySegment seg => if seg.toNat < Config.segments then some (.verifySegment seg.toNat) else none
  | .unverifySegment seg => if seg.toNat < Config.segments then some (.unverifySegment seg.toNat) else none
  | .truncateIndex n => if n.toNat ≤ Config.maxFrame then some (.truncateIndex n.toNat) else none
  | .setNoticeMask mask => if mask.toNat < 16 then some (.setNoticeMask mask) else none
  | .clearFault => some .clearFault
  | .cancelJob job => if job = 0 then none else some (.cancelJob job.toNat)
  | .getJob job => if job = 0 then none else some (.getJob job.toNat)
  | .loadRoll => some (.job .load)
  | .unloadRoll => some (.job .unload)
  | .seekFrame flags t =>
    if flags.toNat < 2 then (namedTarget t).map fun x => .job (.seek (flags.getLsbD 0) x) else none
  | .fetch flags items =>
    if flags.toNat < 4 ∧ 1 ≤ items.length ∧ items.length ≤ 32 then
      (itemTargets items).map fun xs => .job (.fetch (flags.getLsbD 0) (flags.getLsbD 1) xs)
    else none
  | .sweep flags fromT toT =>
    if flags.toNat < 4 then
      match namedTarget fromT, targetOf toT with
      | some x, some y =>
        if boundsOrdered x y then some (.job (.sweep (flags.getLsbD 0) (flags.getLsbD 1) x y)) else none
      | _, _ => none
    else none
  | .indexTo flags t =>
    if flags = 0 then
      match targetOf t with
      | some (.frame _) | none => none
      | some x => some (.job (.indexTo x))
    else none

/-! ### The profile (R2, R199) -/

/-- The profile a record gives. -/
def profileOf (r : ProfileRecord) : Profile where
  filmWidth         := r.filmWidth.toNat
  pitchNominal      := r.pitchNominal.toNat
  pitchMin          := r.pitchMin.toNat
  pitchMax          := r.pitchMax.toNat
  imageMin          := r.imageMin.toNat
  imageMax          := r.imageMax.toNat
  markMin           := r.markMin.toNat
  mark12            := r.mark12.toNat
  mark23            := r.mark23.toNat
  markMax           := r.markMax.toNat
  startAddress      := ⟨r.startBatch.toNat, r.startDocument.toNat, r.startPage.toNat⟩
  axisOffset        := r.axisOffset.toNat
  slipTol           := r.slipTol.toNat
  rescanLimit       := r.rescanLimit.toNat
  spliceFocusOffset := r.spliceFocusOffset.toInt
  defaultFocus      := r.defaultFocus.toNat
  focusReach        := r.focusReach.toNat
  metricFloor       := r.metricFloor.toNat
  captureSpeed      := r.captureSpeed.toNat
  answerLimit       := r.answerLimit.toNat
  holdTime          := r.holdTime.toNat
  readAhead         := r.readAhead == 1

/-- `n` lies within `lo..hi`. -/
def within (lo hi n : Nat) : Bool := lo ≤ n && n ≤ hi

/-- The ranges and cross-field checks of 1.2 (R2). -/
def Profile.valid (p : Profile) : Bool :=
  (p.filmWidth == 16 || p.filmWidth == 35) &&
  within p.pitchMin p.pitchMax p.pitchNominal && within 800 p.pitchNominal p.pitchMin &&
  within p.pitchNominal 12000 p.pitchMax &&
  within 400 12000 p.imageMin && p.imageMin < p.imageMax && p.imageMax < p.pitchMax &&
  within 1 2000 p.markMin && p.markMin < p.mark12 && p.mark12 < p.mark23 && p.mark23 < p.markMax && p.markMax ≤ 2000 &&
  within 1 65535 p.startAddress.batch && within 1 65535 p.startAddress.document &&
  within 1 65535 p.startAddress.page &&
  within (p.pitchMax + 400) 20000 p.axisOffset && within 16 200 p.slipTol && p.rescanLimit ≤ 3 &&
  (-200 ≤ p.spliceFocusOffset && p.spliceFocusOffset ≤ 200) && p.defaultFocus ≤ Config.maxStep &&
  within 5000 200000 p.focusReach && p.metricFloor ≤ 65535 && within 10 100 p.captureSpeed &&
  within 50 1000 p.answerLimit && within 1 600 p.holdTime

/-- The profile a record gives where every field passes its checks; none: PROFILE_INVALID (R2, R199). -/
def checkProfile (r : ProfileRecord) : Option Profile :=
  if (r.readAhead == 0 || r.readAhead == 1) && (profileOf r).valid then some (profileOf r) else none

end Sys2Proof.Machine
end

