-- ==== Sys2Proof/Machine/Requests.lean ====
section
/-! DEFINITION. What each request does when it is taken, its result and its data (9.4). -/

namespace Sys2Proof.Machine

/-- What a request gives back: the state after its effect, the result and the data. -/
structure Answer where
  state  : State
  result : Result
  data   : List Byte

/-- A refusal: no effect, no data. -/
def refuse (r : Result) (s : State) : Answer := { state := s, result := r, data := [] }

/-! ### Profile and lookups -/

/-- SET_PROFILE (R2, R3). A record that repeats the profile in force changes nothing (log 34); the budget held is brought down to the new
rescan_limit, and is not raised (2.1, R41, log 58). -/
def setProfile (r : ProfileRecord) (s : State) : Answer :=
  if s.index.state ≠ .empty then refuse .wrongState s
  else match checkProfile r with
    | none => refuse .profileInvalid s
    | some p =>
      let s1 := if p = s.transport.profile then s
        else (s.onTransport fun t => { t with profile := p }).onTracker fun t =>
          { t with p16 := 16 * p.pitchNominal, candidate := none, budget := min t.budget p.rescanLimit }
      { state := s1, result := .ok, data := [] }

/-- The wire forms of entries from frame `n` on. -/
def entriesFrom : Nat → List Entry → List Byte
  | _, [] => []
  | n, e :: es => entryBytes n e ++ entriesFrom (n + 1) es

/-- GET_ENTRIES (R63). -/
def getEntries (n count : Nat) (s : State) : Answer :=
  let ix := s.index
  let head := be16 ix.count ++ [ix.state.code] ++ be24 ix.frontier
  if ix.count ≤ n then { state := s, result := .outOfRange, data := head }
  else
    let es := (ix.entries.drop n).take count
    { state := s, result := .ok,
      data := head ++ segmentRecord (n / Config.segmentSize) ix ++ be8 es.length ++ entriesFrom n es }

/-- FIND_ADDRESS (R62, R64). R57 names the frontier among what it reports, and R64 and the layouts of R196 leave no place for it: the
reply is laid out as R196 has it (log 44). -/
def findAddress (a : Address) (s : State) : Answer :=
  let ix := s.index
  let head := be16 ix.count ++ [ix.state.code]
  match lookupAddress a s.transport.profile.startAddress ix with
  | .found n =>
    { state := s, result := .ok, data := head ++ ((ix.entries[n]?).map (entryBytes n)).getD [] }
  | .notFound below => { state := s, result := .notFound, data := head ++ [0x01] ++ opt16 below }
  | .beyond last => { state := s, result := .notFound, data := head ++ [0x02] ++ opt16 last }

/-! ### Focus map -/

/-- SET_FOCUS_POINT (R80, R81). -/
def setFocusPoint (position lens : Nat) (s : State) : Answer :=
  if s.transport.state = .empty then refuse .wrongState s
  else
    let m := placePoint { position := position, lens := lens, source := .master } s.focus.map
    { state := s.onFocus fun f => { f with map := m }, result := .ok, data := be8 m.length }

/-- CLEAR_FOCUS_MAP (R82). -/
def clearFocusMap (s : State) : Answer :=
  { state := s.onFocus fun f => { f with map := [] }, result := .ok, data := [] }

/-! ### Segments and truncation -/

/-- Put a segment record. -/
def putSegment (n : Nat) (sg : Segment) (s : State) : State :=
  s.onIndex fun ix => { ix with segments := ix.segments.set n sg }

/-- A segment can be verified: it holds 256 entries, or the last entry of a COMPLETE or FROZEN index (R66). -/
def segmentComplete (n : Nat) (ix : Index) : Bool :=
  ix.segmentEntries n == Config.segmentSize ||
    (0 < ix.segmentEntries n && (ix.state == .complete || ix.frozen))

/-- VERIFY_SEGMENT (R66). -/
def verifySegment (l : LinkId) (n : Nat) (s : State) : Answer :=
  let sg := (s.index.segments[n]?).getD {}
  if !segmentComplete n s.index then refuse .incomplete s
  else if sg.verified && sg.link.any fun k => k != l then refuse .notOwner s
  else
    let sg' : Segment := { verified := true, link := some l, verifiedAt := s.index.segmentEntries n }
    { state := putSegment n sg' s, result := .ok, data := segmentBytes n sg' }

/-- UNVERIFY_SEGMENT (R67). -/
def unverifySegment (l : LinkId) (n : Nat) (s : State) : Answer :=
  let sg := (s.index.segments[n]?).getD {}
  if s.pins.levels.protectKey then refuse .guarded s
  else if !sg.verified then refuse .wrongState s
  else if sg.link.any fun k => k != l then refuse .notOwner s
  else { state := putSegment n {} s, result := .ok, data := segmentBytes n {} }

/-- A verified segment, from segment `k` on, holds a frame at or above `n` (R70 check 4). -/
def verifiedReaches (n count : Nat) : Nat → List Segment → Bool
  | _, [] => false
  | k, sg :: sgs =>
    (sg.verified && Config.segmentSize * k < count && n < min count (Config.segmentSize * (k + 1))) ||
      verifiedReaches n count (k + 1) sgs

/-- The frame number is present and at or above `n`. -/
def reaches (n : Nat) (f : Option Nat) : Bool := f.any fun k => n ≤ k

/-- An open job holds a frame at or above `n` (R70 check 5). -/
def jobReaches (n : Nat) (s : State) (j : Job) : Bool :=
  j.isOpen && match j.body with
  | .load | .unload => false
  | .seek _ r _ _ => reaches n r
  | .fetch is => is.any fun i => reaches n i.resolved
  | .indexTo _ f _ _ => reaches n f
  | .sweep r =>
    reaches n r.fromFrame || reaches n r.nextFrame ||
      (match r.endFrame with
       | some (.frame e) => n ≤ e
       | some .rollEnd => true
       | none => false) ||
      ((s.capture.revisitOf j.number).getD []).any fun f => n ≤ f

/-- The ring or the outstanding trigger names a frame at or above `n` (R70 check 6). -/
def capturesReach (n : Nat) (c : Capture) : Bool :=
  (c.ring.any fun r => n ≤ r.frame) || (match c.outstanding with
    | some (.capture _ shot) => n ≤ shot.trigger.frame
    | _ => false)

/-- A RESCAN motion is queued or in flight. -/
def rescanHeld (s : State) : Bool :=
  (s.arbiter.entryOf .tracker).isSome || s.arbiter.current.any fun c => c.requester == .tracker

/-- The checks of TRUNCATE_INDEX (R70). -/
def truncateCheck (n : Nat) (s : State) : Result :=
  if s.pins.levels.protectKey then .guarded
  else if s.index.count ≤ n then .outOfRange
  else if verifiedReaches n s.index.count 0 s.index.segments then .guarded
  else if s.jobs.slots.any (jobReaches n s) then .inUse
  else if capturesReach n s.capture then .inUse
  else if s.tracker.mode = .indexing ∨ rescanHeld s then .busy
  else .ok

/-- The removal of an accepted truncation, and the tracker on the new frontier (R28, R53, R71). -/
def truncateAt (n : Nat) (s : State) : State :=
  let frontier := ((s.index.entries[n]?).map (·.low)).getD s.index.frontier
  let s1 := raise .indexProgress ((removeEntries n s).onIndex fun ix => { ix with frontier := frontier })
  let s2 := realign (setIndexState .growing s1)
  if s2.index.frontier < s2.transport.position ∧ mayIndex s2 then enterIndexing s2 else refreshMode s2

/-- TRUNCATE_INDEX (R70, R71). -/
def truncateIndex (n : Nat) (s : State) : Answer :=
  match truncateCheck n s with
  | .ok =>
    let s1 := truncateAt n s
    { state := settleBlocks s1, result := .ok,
      data := be16 n ++ be24 (((s.index.entries[n]?).map (·.low)).getD s.index.frontier) }
  | r => refuse r s

/-! ### Fault record -/

/-- CLEAR_FAULT (R167, R168). -/
def clearFault (s : State) : Answer :=
  match clearCheck s with
  | .ok => { state := settleBlocks (applyClear s), result := .ok, data := faultBytes s.fault }
  | r => { state := s, result := r, data := faultBytes s.fault }

/-! ### Jobs -/

/-- What cancelling an open job does (R155, R114, R92, R19). -/
def cancelWork (j : Job) (s : State) : State :=
  let s1 := modifyItems j.number (fun is => is.map fun i =>
    if i.outcome = .pending then { i with outcome := .cancelled, inCapture := false } else i) s
  let s2 := endJob j.number .cancelled .cancelled (dropCaptures j.number s1)
  if j.body.isRoll && j.state == .running then cancelRollWork s2 else s2

/-- CANCEL_JOB (R155). -/
def cancelJob (l : LinkId) (n : Nat) (s : State) : Answer :=
  match findJob n s with
  | none => refuse .noJob s
  | some j =>
    if j.link ≠ l then refuse .notOwner s
    else if !j.isOpen then refuse .wrongState s
    else { state := settleBlocks (cancelWork j s), result := .ok, data := be8 n ++ [j.state.code] }

/-- GET_JOB (R156). -/
def getJob (n : Nat) (s : State) : Answer :=
  match findJob n s with
  | none => refuse .noJob s
  | some j => { state := s, result := .ok, data := jobBytes j s }

/-- The checks of LOAD_ROLL (R15). -/
def loadCheck (s : State) : Result :=
  if s.index.state ≠ .empty then .wrongState
  else if s.transport.state = .empty ∧ !s.pins.levels.filmPresent then .wrongState
  else if (rollJob s).isSome ∨ s.transport.state = .threading ∨ s.transport.state = .rewinding then .busy
  else .ok

/-- The checks of UNLOAD_ROLL (R20). R20 lists no answer for REWINDING, where the film of a cancelled UNLOAD is still coming to rest with
no job open: there it is accepted and waits for RESTING (log 50). -/
def unloadCheck (s : State) : Result :=
  if s.transport.state = .empty then .wrongState
  else if (s.jobs.slots.any fun j => j.isOpen) || !s.capture.ring.isEmpty || s.capture.answerOutstanding then .busy
  else .ok

/-- A sweep whose bounds resolve at once with from above to (R137 check 4). -/
def boundsReversed (fromT toT : Target) (s : State) : Bool :=
  match resolveFrom false fromT s, resolveTo false toT s with
  | .at x, .at y => y < x
  | _, _ => false

/-- The checks of a job request after its parameters, in order (R137). -/
def acceptCheck (l : LinkId) (o : JobOrder) (s : State) : Result :=
  if Config.jobsPerLink ≤ openOf l s ∨ Config.jobSlots ≤ s.jobs.slots.length then .noSlot
  else match o with
    | .load => loadCheck s
    | .unload => unloadCheck s
    | .sweep _ _ fromT toT =>
      if s.transport.state = .empty then .wrongState
      else if !s.fault.halted && boundsReversed fromT toT s then .invalid
      else .ok
    | _ => if s.transport.state = .empty then .wrongState else .ok

/-- The item of a target at acceptance (7.4). -/
def newItem (t : Target) : Item :=
  { target := t, resolved := none, outcome := .pending, captures := 0, inCapture := false }

/-- The body of a new job. -/
def JobOrder.body : JobOrder → JobBody
  | .load => .load
  | .unload => .unload
  | .seek _ t => .seek t none none none
  | .fetch _ _ ts => .fetch (ts.map newItem)
  | .sweep revisit _ fromT toT =>
    .sweep { fromT := fromT, toT := toT, revisit := revisit, fromFrame := none,
             endFrame := if toT = .rollEnd then some .rollEnd else none, nextFrame := none, overflow := false, captured := 0,
             revisits := 0, runEnded := none }
  | .indexTo t => .indexTo t none none none

/-- The urgent flag of an order. -/
def JobOrder.urgent : JobOrder → Bool
  | .seek u _ => u
  | .fetch u _ _ => u
  | _ => false

/-- Focus policy SEARCH in an order. -/
def JobOrder.search : JobOrder → Bool
  | .fetch _ p _ => p
  | .sweep _ p _ _ => p
  | _ => false

/-- A sweep with revisit on gets an empty revisit list (R93). -/
def JobOrder.keepsRevisits : JobOrder → Bool
  | .sweep r _ _ _ => r
  | _ => false

/-- A roll job or other job is LOAD or UNLOAD. -/
def JobOrder.isRoll : JobOrder → Bool
  | .load | .unload => true
  | _ => false

/-- The number the next accepted job is given (R136). -/
def newNumber (s : State) : Nat := freeNumber (jobNumbers s) 7 s.jobs.counter

/-- An accepted job takes a slot, its number and its first state (R136, R138). -/
def insertJob (l : LinkId) (o : JobOrder) (s : State) : State :=
  let n := newNumber s
  let j : Job := { number := n, link := l, state := .queued, urgent := o.urgent, search := o.search, endReason := .none,
                   waitClear := s.fault.halted, body := o.body }
  let s1 := s.onJobs fun t => { slots := t.slots ++ [j], counter := nextNumber n }
  if o.keepsRevisits then
    (discardRevisit n s1).onCapture fun c => { c with revisits := c.revisits ++ [{ job := n, frames := [] }] }
  else s1

/-- An accepted LOAD or UNLOAD claims the transport and stops what is in flight; any other job starts unless the part is HALTED
(R15, R20, R123, R138, R139). -/
def beginJob (n : Nat) (o : JobOrder) (s : State) : State :=
  if o.isRoll then
    let s1 := setRollClaim true s
    if s1.fault.halted then s1 else askStop .rollClaim s1
  else if s.fault.halted then s
  else startJob n s

/-- A job request (R137, R180). -/
def jobRequest (l : LinkId) (o : JobOrder) (s : State) : Answer :=
  match acceptCheck l o s with
  | .ok =>
    let n := newNumber s
    { state := settleBlocks (beginJob n o (insertJob l o s)), result := .ok, data := be8 n }
  | r => refuse r s

/-! ### Handing a request to its owner (R176) -/

/-- SET_NOTICE_MASK (R179). -/
def setNoticeMask (l : LinkId) (b : Byte) (s : State) : Answer :=
  let s1 := s.onLink l fun u => { u with mask := maskOf b }
  { state := s1, result := .ok, data := be8 (maskOf b).bits ++ be8 (s.link l).flags.bits }

/-- The owning block takes a request of a link (9.4). -/
def perform (l : LinkId) (o : Order) (s : State) : Answer :=
  match o with
  | .getStatus => { state := s, result := .ok, data := statusBytes l s }
  | .getProfile => { state := s, result := .ok, data := profileBytes s.transport.profile }
  | .setProfile r => setProfile r s
  | .getEntries n count => getEntries n count s
  | .findAddress a => findAddress a s
  | .getFocusMap => { state := s, result := .ok, data := mapBytes s.focus.map }
  | .setFocusPoint position lens => setFocusPoint position lens s
  | .clearFocusMap => clearFocusMap s
  | .verifySegment n => verifySegment l n s
  | .unverifySegment n => unverifySegment l n s
  | .truncateIndex n => truncateIndex n s
  | .setNoticeMask b => setNoticeMask l b s
  | .clearFault => clearFault s
  | .cancelJob n => cancelJob l n s
  | .getJob n => getJob n s
  | .job o => jobRequest l o s

end Sys2Proof.Machine
end

