-- ==== Sys2Proof/Machine/LinkOps.lean ====
section
/-! DEFINITION. The link units: reception, requests taken and answered, transmissions ended, breaks (chapter 9). -/

namespace Sys2Proof.Machine

/-! ### Replies (R176, R177, R195) -/

/-- Build a reply and place it in the reply slot; the link status it carries is cleared (R177, R195). -/
def buildReply (l : LinkId) (kind tag : Byte) (r : Result) (data : List Byte) (s : State) : State :=
  s.onLink l fun u =>
    { u with replySlot := some (kind :: tag :: r.code :: BitVec.ofNat 8 (linkStatus u) :: data),
             frameDropped := false, sessionRestarted := false }

/-- The reply kind of a request kind (R192). -/
def replyKind (kind : Byte) : Byte := kind + 0x80

/-- A frame's request: INVALID where its kind is unknown or its body does not fit, else the request (R176). -/
def readRequest (body : List Byte) : Option (Byte × Order) :=
  match readBody body with
  | none => none
  | some (tag, r) => (checkRequest r).map fun o => (tag, o)

/-- A taken frame is answered (R176). -/
def answerFrame (l : LinkId) (body : List Byte) (s : State) : State :=
  match body with
  | kind :: tag :: _ =>
    if !requestKinds.contains kind then buildReply l 0xFF tag .invalid [] s
    else match readRequest body with
      | none => buildReply l (replyKind kind) tag .invalid [] s
      | some (_, o) =>
        let a := perform l o s
        buildReply l (replyKind kind) tag a.result a.data a.state
  | _ => s

/-- With the reply slot empty the oldest frame in the input buffer is taken (R175, R176). -/
def takeFrame (l : LinkId) (s : State) : State :=
  match (s.link l).replySlot, (s.link l).inputBuffer with
  | none, body :: rest => answerFrame l body (s.onLink l fun u => { u with inputBuffer := rest })
  | _, _ => s

/-! ### Reception (R174, R175) -/

/-- Something is discarded: frame_dropped is set and the receiver hunts (R174). -/
def dropped (u : LinkUnit) : LinkUnit := { u with receiver := .hunt, frameDropped := true }

/-- A frame whose check is equal is placed, and taken at once with the reply slot empty (R175). -/
def placeFrame (l : LinkId) (body : List Byte) (s : State) : State :=
  if Config.bufferFrames ≤ (s.link l).inputBuffer.length then s.onLink l dropped
  else takeFrame l (s.onLink l fun u => { u with receiver := .hunt, inputBuffer := u.inputBuffer ++ [body] })

/-- One byte of the receive line (R174). In BREAK nothing is received (R189). -/
def receiveByte (l : LinkId) (b : RxByte) (s : State) : State :=
  match (s.link l).receiver, b with
  | .brk, _ => s
  | _, .bad => s.onLink l dropped
  | .hunt, .good b =>
    if b = Config.startByte then s.onLink l fun u => { u with receiver := .length }
    else if b = Config.holdByte then s.onLink l fun u => { u with hold := true }
    else if b = Config.resumeByte then s.onLink l fun u => { u with hold := false }
    else s.onLink l dropped
  | .length, .good b =>
    if 2 ≤ b.toNat ∧ b.toNat ≤ 250 then s.onLink l fun u => { u with receiver := .body b.toNat [] }
    else s.onLink l dropped
  | .body len soFar, .good b =>
    let more := soFar ++ [b]
    s.onLink l fun u => { u with receiver := if len ≤ more.length then .check len more none else .body len more }
  | .check len body none, .good b => s.onLink l fun u => { u with receiver := .check len body (some b) }
  | .check _ body (some first), .good b =>
    if first ++ b = bodyCheck body then placeFrame l body s else s.onLink l dropped

/-- Between two bytes of one row: after a byte that leaves the receiver in HUNT, such as HOLD, RESUME or the end of a frame, the transmitters
choose before the next byte is taken (R185, R186). -/
def betweenBytes (l : LinkId) (s : State) : State := if (s.link l).receiver = .hunt then serviceLinks s else s

/-- Bytes of the receive line in turn. -/
def receiveBytes (l : LinkId) : List Byte → State → State
  | [], s => s
  | [b], s => receiveByte l (.good b) s
  | b :: bs, s => receiveBytes l bs (betweenBytes l (receiveByte l (.good b) s))

/-- A frame with a good check arrives whole: in HUNT it is placed (R174, R175); in a break nothing is received (R189); with a frame in
reception its bytes are that frame's (R174, log 3). -/
def frameArrives (l : LinkId) (body : List Byte) (s : State) : State :=
  match (s.link l).receiver with
  | .brk => s
  | .hunt => if 2 ≤ body.length ∧ body.length ≤ 250 then placeFrame l body s else receiveBytes l (frameOf body) s
  | _ => receiveBytes l (frameOf body) s

/-- A request arrives on a link with a tag, and the transmitters choose (R176, R185). -/
def requestArrives (l : LinkId) (tag : Byte) (r : Request) (s : State) : State :=
  serviceLinks (frameArrives l (r.body tag) s)

/-- The input levels are those that the row carries, as they stand when the request comes; what a block does at a change of one is the
effect of the row that reports the change (log 2). -/
def takeLevels (lv : Levels) (s : State) : State := s.onPins fun p => { p with levels := lv }

/-! ### Transmissions end (R187) -/

/-- The owner of a sent frame acts on its end (R187). -/
def sentFrame (l : LinkId) (k : TxKind) (s : State) : State :=
  match k with
  | .reply => takeFrame l (s.onLink l fun u => { u with replySlot := none })
  | .jobDone =>
    match (s.link l).jobDone with
    | [] => s
    | n :: rest => freeSlot n (s.onLink l fun u => { u with jobDone := rest })
  | .captured => removeHead s
  | .notice _ => s

/-- A transmission ends (R187); without one nothing changes. -/
def endTransmission (l : LinkId) (s : State) : State :=
  match (s.link l).transmitter with
  | .sending k _ => serviceLinks (dropHeads (sentFrame l k (s.onLink l fun u => { u with transmitter := .idle })))
  | .idle | .held => s

/-! ### Breaks (R157, R188, R190) -/

/-- The link unit as a break begins (R188). -/
def LinkUnit.broken (u : LinkUnit) : LinkUnit :=
  { u with receiver := .brk, inputBuffer := [], replySlot := none, frameDropped := false, hold := false, mask := {}, flags := {},
           jobDone := [], transmitter := .idle }

/-- A job of the broken link is cancelled without a JOB_DONE, and its slot is freed (R157). -/
def breakJob (l : LinkId) (n : Nat) (s : State) : State :=
  match findJob n s with
  | none => s
  | some j =>
    if j.link = l then freeSlot n (if j.isOpen then cancelWork j s else s) else s

/-- The drop mark on every record and on the outstanding trigger of the link (R106). -/
def markDropped (l : LinkId) (s : State) : State :=
  s.onCapture fun c =>
    { c with ring := c.ring.map fun r => if r.link = l then { r with drop := true } else r,
             outstanding := c.outstanding.map fun o => match o with
               | .capture lim shot => .capture lim (if shot.link = l then { shot with drop := true } else shot)
               | o => o }

/-- verifying_link becomes absent in the segments of the link (R65). -/
def forgetVerifier (l : LinkId) (s : State) : State :=
  let forget (sg : Segment) : Segment := if sg.link = some l then { sg with link := none } else sg
  s.onIndex fun ix => { ix with segments := ix.segments.map forget }

/-- A link break begins (R188); one begun is not begun again. -/
def beginBreak (l : LinkId) (s : State) : State :=
  if (s.link l).receiver = .brk then s
  else
    let s1 := s.onLink l LinkUnit.broken
    let s2 := (jobNumbers s1).foldl (fun acc n => breakJob l n acc) s1
    settle (forgetVerifier l (markDropped l s2))

/-- A link break ends (R190). -/
def endBreak (l : LinkId) (s : State) : State :=
  if (s.link l).receiver = .brk then
    s.onLink l fun u => { u with receiver := .hunt, sessionRestarted := true }
  else s

end Sys2Proof.Machine
end

