-- ==== Sys2Proof/Machine/TransportCommands.lean ====
section
/-! DEFINITION. The meanings of the rows of power, reels, capstan, tension, leader, tail, film-present and STOP (chapter 1). An expiry or
a report that finds its limit not running, or its state not entered, has no effect (log 4). -/

namespace Sys2Proof.Machine

/-- Where a test holds, an event acts and the step is settled; elsewhere it has no effect. -/
def taken (test : Bool) (act : State → State) (s : State) : State := if test then settle (act s) else s

/-! ### Power -/

/-- The levels of the machine side, the last tension reports kept. -/
def State.powered (lv : Levels) (s : State) : State := State.afterReset { s.pins with levels := lv } s.pending

/-- POWER_ON_RESET (R1, R27, R60, R73, R93, R116, R134, R158, R172): every block takes its after-reset values; a STOP level that is set
is taken as a rise (R158). -/
def execPowerOnReset (lv : Levels) (s : State) : Host.Outcome State Fault Refusal :=
  .next (if lv.stop then serviceLinks (reportFault .operatorStop (s.powered lv)) else s.powered lv)

/-! ### Capstan -/

/-- CAPSTAN_COUNT (R4): taken in every state but EMPTY. -/
def execCapstanCount (d : Direction) (s : State) : Host.Outcome State Fault Refusal :=
  .next (taken (s.transport.state != .empty) (capstanMoves d) s)

/-- CAPSTAN_STALL (R23). -/
def execCapstanStall (s : State) : Host.Outcome State Fault Refusal :=
  .next (taken s.transport.stallLimit (reportFault .capstanStall) s)

/-- The film is in motion, or comes to rest, in this state. -/
def TransportState.driven : TransportState → Bool
  | .moving | .referencing | .rewinding => true
  | _ => false

/-- MOVE_COMPLETE (R10, R17, R18, R19, R21): motion has stopped. -/
def execMoveComplete (s : State) : Host.Outcome State Fault Refusal :=
  .next (taken s.transport.state.driven motionStops s)

/-! ### Tension -/

/-- A side's last report. -/
def putReading (side : Side) (r : TensionReading) (s : State) : State :=
  s.onPins fun p => match side with
    | .supply => { p with supply := r }
    | .takeUp => { p with takeUp := r }

/-- BREAK_LOW is FILM_BREAK in this state of the transport (R22). -/
def breakWatched (s : State) : Bool :=
  match s.transport.state with
  | .referencing | .ready | .moving | .tensioning | .rewinding => true
  | .halted => s.transport.tension == .taut
  | .empty | .threading | .resting => false

/-- What a tension report does beyond the persistence limits (R11, R16, R22). -/
def tensionEffect (side : Side) (r : TensionReading) (s : State) : State :=
  if r = .breakLow then (if breakWatched s then reportFault .filmBreak s else s)
  else match s.transport.state with
    | .threading => if side = .takeUp ∧ r = .inBand then threadingDone s else s
    | .tensioning => if bothInBand s then tensionReached s else s
    | _ => s

/-- TENSION_CHANGE (R11, R16, R22, R24): the persistence limits follow the reports as the step is settled. -/
def execTensionChange (side : Side) (r : TensionReading) (s : State) : Host.Outcome State Fault Refusal :=
  .next (settle (tensionEffect side r (putReading side r s)))

/-- The tensioning limit ran out: with both sides IN_BAND already tension was reached, else TENSION_RANGE (R11, log 13). -/
def tensionRunsOut (s : State) : State := if bothInBand s then tensionReached s else reportFault .tensionRange s

/-- TENSION_LIMIT_EXPIRY (R11). -/
def execTensionLimitExpiry (s : State) : Host.Outcome State Fault Refusal :=
  .next (taken (s.transport.tensionLimit && s.transport.state == .tensioning) tensionRunsOut s)

/-- A side's persistence limit runs. -/
def Transport.persists (t : Transport) : Side → Bool
  | .supply => t.persistSupply
  | .takeUp => t.persistTakeUp

/-- TENSION_PERSIST_EXPIRY (R24). -/
def execTensionPersistExpiry (side : Side) (s : State) : Host.Outcome State Fault Refusal :=
  .next (taken (s.transport.persists side) (reportFault .tensionRange) s)

/-! ### Timers of the roll -/

/-- THREAD_LIMIT_EXPIRY (R16). -/
def execThreadLimitExpiry (s : State) : Host.Outcome State Fault Refusal :=
  .next (taken s.transport.threadLimit threadingFails s)

/-- The transport rests: the reels go slack and EXACT becomes DRIFTED (R13). -/
def rest (s : State) : State :=
  driftReference (enterState .resting ((slacken s).onTransport fun t => { t with holdTimer := none }))

/-- HOLD_TIMER_EXPIRY (R13). -/
def execHoldTimerExpiry (s : State) : Host.Outcome State Fault Refusal :=
  .next (taken s.transport.holdTimer.isSome rest s)

/-! ### Leader, tail, film-present, STOP -/

/-- A forward leader search has travelled its limit (R17); so also one of a REFERENCE record that was asked to stop (log 51). -/
def searchSpent (s : State) : Bool :=
  s.transport.search.any fun r => r.phase == .forward && decide (Config.searchLimit ≤ r.travel)

/-- LEADER_SEARCH_LIMIT (R17, R21). -/
def execLeaderSearchLimit (s : State) : Host.Outcome State Fault Refusal := .next (taken (searchSpent s) searchFails s)

/-- LEADER_EDGE (R17, R18, R21). -/
def execLeaderEdge (s : State) : Host.Outcome State Fault Refusal :=
  .next (taken s.transport.search.isSome takeLeaderEdge s)

/-- TAIL_SEEN (R14). -/
def execTailSeen (s : State) : Host.Outcome State Fault Refusal := .next (taken (tailTaken s) takeTail s)

/-- The film-present level is clear. -/
def filmOut (s : State) : State := s.onPins fun p => { p with levels := { p.levels with filmPresent := false } }

/-- The rewind ends: an UNLOAD carried out is DONE and the transport enters EMPTY (R20, R142); a cancelled one has ended already. -/
def rewindEnds (s : State) : State :=
  if s.transport.roll = some .unload then enterEmpty true (endRollJob .done .none s) else enterEmpty false s

/-- What the clearing of film-present does by transport state (R16, R20, R22). -/
def filmOutEffect (s : State) : State :=
  match s.transport.state with
  | .empty => s
  | .threading => threadingFails s
  | .rewinding => rewindEnds s
  | .halted => if s.transport.haltedEmpty then s else reportFault .filmBreak s
  | .referencing | .ready | .moving | .tensioning | .resting => reportFault .filmBreak s

/-- FILM_PRESENT_CLEAR (R16, R20, R22). -/
def execFilmPresentClear (s : State) : Host.Outcome State Fault Refusal := .next (settle (filmOutEffect (filmOut s)))

/-- The STOP level is set. -/
def stopIn (s : State) : State := s.onPins fun p => { p with levels := { p.levels with stop := true } }

/-- STOP_RISE (R25): OPERATOR_STOP, in any transport state. -/
def execStopRise (s : State) : Host.Outcome State Fault Refusal :=
  .next (settle (reportFault .operatorStop (stopIn s)))

end Sys2Proof.Machine
end

