-- ==== Sys2Proof/Machine/CameraCommands.lean ====
section
/-! DEFINITION. The meanings of the rows of the camera (5.2, 5.6). -/

namespace Sys2Proof.Machine

/-- CAMERA_ANSWER (R96): with no trigger outstanding it is discarded. -/
def execCameraAnswer (ans : CameraAnswer) (s : State) : Host.Outcome State Fault Refusal :=
  .next (taken s.capture.answerOutstanding (takeAnswer ans) s)

/-- The camera READY level. -/
def putCameraReady (v : Bool) (s : State) : State :=
  s.onPins fun p => { p with levels := { p.levels with cameraReady := v } }

/-- READY rises: answer_lock is cleared and the handshake follows (R94). -/
def readyRises (s : State) : State :=
  refreshHandshake ((putCameraReady true s).onCapture fun c => { c with answerLock := false })

/-- CAMERA_READY_RISE (R94): a capture or trial that waited for the handshake goes on (R89, R109). -/
def execCameraReadyRise (s : State) : Host.Outcome State Fault Refusal := .next (settle (readyRises s))

/-- CAMERA_READY_FALL (R94). -/
def execCameraReadyFall (s : State) : Host.Outcome State Fault Refusal :=
  .next (refreshHandshake (putCameraReady false s))

/-- ANSWER_LIMIT_EXPIRY (R97). -/
def execAnswerLimitExpiry (s : State) : Host.Outcome State Fault Refusal :=
  .next (taken s.capture.answerOutstanding answerRunsOut s)

/-- A stationary capture waits for the camera (R109). -/
def cameraWaits (s : State) : Bool :=
  match s.capture.holding with
  | some { phase := .waitCamera _, .. } => true
  | _ => false

/-- CAMERA_WAIT_EXPIRY (R109). -/
def execCameraWaitExpiry (s : State) : Host.Outcome State Fault Refusal :=
  .next (taken (cameraWaits s) cameraWaitRunsOut s)

end Sys2Proof.Machine
end

