-- ==== Sys2Proof/Machine/LensCommands.lean ====
section
/-! DEFINITION. The meanings of the rows of the lens drive (4.2, 4.6). -/

namespace Sys2Proof.Machine

/-- The home switch level. -/
def putHomeSwitch (v : Bool) (s : State) : State := s.onPins fun p => { p with levels := { p.levels with homeSwitch := v } }

/-- HOME_SWITCH_SET (R75): in HOMING it ends the homing; in another state the level alone changes (R76). -/
def execHomeSwitchSet (s : State) : Host.Outcome State Fault Refusal :=
  .next (taken (s.focus.state == .homing) endHoming (putHomeSwitch true s))

/-- LENS_STEP (R74, R75, R86, R89): the step command the lens state asks for. `leaves`: with it the lens leaves the home switch, whose
level clears (log 2). -/
def execLensStep (leaves : Bool) (s : State) : Host.Outcome State Fault Refusal :=
  .next (taken (issuesSteps s) issueStep (if leaves then putHomeSwitch false s else s))

/-- A homing has counted all its steps (R76). -/
def homingSpent (s : State) : Bool := s.focus.state == .homing && decide (Config.homingSteps ≤ s.focus.homeCount)

/-- The lens is FAULTED and LENS_FAULT is reported (R76, R77). -/
def lensFaults (s : State) : State := reportFault .lensFault (lensFails s)

/-- HOMING_LIMIT (R76). -/
def execHomingLimit (s : State) : Host.Outcome State Fault Refusal := .next (taken (homingSpent s) lensFaults s)

/-- A stall event is taken in this lens state (R77). -/
def stallTaken (s : State) : Bool :=
  match s.focus.state with
  | .homing | .slewing | .searching => true
  | .unhomed | .idle | .faulted => false

/-- A stall event by recal_required (R77). -/
def lensStalls (s : State) : State := if s.focus.recal then lensFaults s else lensLosesHome s

/-- LENS_STALL (R77). -/
def execLensStall (s : State) : Host.Outcome State Fault Refusal := .next (taken (stallTaken s) lensStalls s)

/-- The search's trial waits for the handshake (R89). -/
def trialWaits (s : State) : Bool :=
  match s.focus.search with
  | some { stage := .waiting _, .. } => true
  | _ => false

/-- TRIAL_WAIT_EXPIRY (R89). -/
def execTrialWaitExpiry (s : State) : Host.Outcome State Fault Refusal := .next (taken (trialWaits s) trialWaitEnds s)

end Sys2Proof.Machine
end

