-- ==== Sys2Proof/Machine/RequestCommands.lean ====
section
/-! DEFINITION. The meanings of the request rows: the request's frame arrives on a link with the master's tag (log 3) and is taken, or
waits in the input buffer, as the link unit has it (R174 to R176). -/

namespace Sys2Proof.Machine

/-- GET_STATUS (R178): a snapshot of every block's reported state, and the requesting link's status flags cleared. -/
def execGetStatus (l : LinkId) (tag : Byte) (lv : Levels) (s : State) : Host.Outcome State Fault Refusal :=
  .next (requestArrives l tag .getStatus (takeLevels lv s))

/-- GET_PROFILE (R2): the profile in force, in every state. -/
def execGetProfile (l : LinkId) (tag : Byte) (s : State) : Host.Outcome State Fault Refusal :=
  .next (requestArrives l tag .getProfile s)

/-- SET_PROFILE (R2, R3): with the index EMPTY and every check passed the profile is replaced whole. -/
def execSetProfile (l : LinkId) (tag : Byte) (r : ProfileRecord) (s : State) : Host.Outcome State Fault Refusal :=
  .next (requestArrives l tag (.setProfile r) s)

/-- GET_ENTRIES (R63): up to count entries from frame n on, with the index figures and the segment record. -/
def execGetEntries (l : LinkId) (tag : Byte) (n : BitVec 16) (count : Byte) (s : State) : Host.Outcome State Fault Refusal :=
  .next (requestArrives l tag (.getEntries n count) s)

/-- FIND_ADDRESS (R64): lookup by address (R62). -/
def execFindAddress (l : LinkId) (tag : Byte) (b d p : BitVec 16) (s : State) : Host.Outcome State Fault Refusal :=
  .next (requestArrives l tag (.findAddress b d p) s)

/-- GET_FOCUS_MAP (R79): every point, lowest position first. -/
def execGetFocusMap (l : LinkId) (tag : Byte) (s : State) : Host.Outcome State Fault Refusal :=
  .next (requestArrives l tag .getFocusMap s)

/-- SET_FOCUS_POINT (R81): a MASTER point is placed by R80 unless the transport is EMPTY. -/
def execSetFocusPoint (l : LinkId) (tag : Byte) (position : BitVec 24) (lensStep : BitVec 16) (s : State) :
    Host.Outcome State Fault Refusal :=
  .next (requestArrives l tag (.setFocusPoint position lensStep) s)

/-- CLEAR_FOCUS_MAP (R82): the map is emptied, in every state. -/
def execClearFocusMap (l : LinkId) (tag : Byte) (s : State) : Host.Outcome State Fault Refusal :=
  .next (requestArrives l tag .clearFocusMap s)

/-- VERIFY_SEGMENT (R66). -/
def execVerifySegment (l : LinkId) (tag : Byte) (seg : Byte) (s : State) : Host.Outcome State Fault Refusal :=
  .next (requestArrives l tag (.verifySegment seg) s)

/-- UNVERIFY_SEGMENT (R67). -/
def execUnverifySegment (l : LinkId) (tag : Byte) (seg : Byte) (lv : Levels) (s : State) : Host.Outcome State Fault Refusal :=
  .next (requestArrives l tag (.unverifySegment seg) (takeLevels lv s))

/-- TRUNCATE_INDEX (R70, R71). -/
def execTruncateIndex (l : LinkId) (tag : Byte) (n : BitVec 16) (lv : Levels) (s : State) : Host.Outcome State Fault Refusal :=
  .next (requestArrives l tag (.truncateIndex n) (takeLevels lv s))

/-- SET_NOTICE_MASK (R179): the requesting link's mask takes the four settings. -/
def execSetNoticeMask (l : LinkId) (tag : Byte) (mask : Byte) (s : State) : Host.Outcome State Fault Refusal :=
  .next (requestArrives l tag (.setNoticeMask mask) s)

/-- CLEAR_FAULT (R167, R168). -/
def execClearFault (l : LinkId) (tag : Byte) (lv : Levels) (s : State) : Host.Outcome State Fault Refusal :=
  .next (requestArrives l tag .clearFault (takeLevels lv s))

/-- CANCEL_JOB (R155). -/
def execCancelJob (l : LinkId) (tag : Byte) (job : Byte) (s : State) : Host.Outcome State Fault Refusal :=
  .next (requestArrives l tag (.cancelJob job) s)

/-- GET_JOB (R156): the job's record as it stands. -/
def execGetJob (l : LinkId) (tag : Byte) (job : Byte) (s : State) : Host.Outcome State Fault Refusal :=
  .next (requestArrives l tag (.getJob job) s)

/-- LOAD_ROLL (R15, R137). -/
def execLoadRoll (l : LinkId) (tag : Byte) (lv : Levels) (s : State) : Host.Outcome State Fault Refusal :=
  .next (requestArrives l tag .loadRoll (takeLevels lv s))

/-- UNLOAD_ROLL (R20, R137). -/
def execUnloadRoll (l : LinkId) (tag : Byte) (s : State) : Host.Outcome State Fault Refusal :=
  .next (requestArrives l tag .unloadRoll s)

/-- SEEK_FRAME (R137, R143). -/
def execSeekFrame (l : LinkId) (tag : Byte) (flags : Byte) (target : TargetField) (s : State) : Host.Outcome State Fault Refusal :=
  .next (requestArrives l tag (.seekFrame flags target) s)

/-- FETCH (R137, R144). -/
def execFetch (l : LinkId) (tag : Byte) (flags : Byte) (items : List TargetField) (s : State) : Host.Outcome State Fault Refusal :=
  .next (requestArrives l tag (.fetch flags items) s)

/-- SWEEP (R137, R148). -/
def execSweep (l : LinkId) (tag : Byte) (flags : Byte) (fromT toT : TargetField) (s : State) : Host.Outcome State Fault Refusal :=
  .next (requestArrives l tag (.sweep flags fromT toT) s)

/-- INDEX_TO (R137, R147). -/
def execIndexTo (l : LinkId) (tag : Byte) (flags : Byte) (target : TargetField) (s : State) : Host.Outcome State Fault Refusal :=
  .next (requestArrives l tag (.indexTo flags target) s)

/-- UNKNOWN_REQUEST (R176): a frame whose kind is no request kind is answered with kind UNKNOWN and INVALID. -/
def execUnknownRequest (l : LinkId) (tag kind : Byte) (rest : List Byte) (s : State) : Host.Outcome State Fault Refusal :=
  .next (serviceLinks (frameArrives l (kind :: tag :: rest) s))

end Sys2Proof.Machine
end

