-- ==== Sys2Proof/Machine/LinkCommands.lean ====
section
/-! DEFINITION. The meanings of the rows of the receive and transmit lines (chapter 9). -/

namespace Sys2Proof.Machine

/-- HOLD (R174, R186): the control byte is received; taken in HUNT it sets hold. -/
def execHold (l : LinkId) (s : State) : Host.Outcome State Fault Refusal :=
  .next (serviceLinks (receiveByte l (.good Config.holdByte) s))

/-- RESUME (R174, R186): the control byte is received; taken in HUNT it clears hold and the transmitter chooses. -/
def execResume (l : LinkId) (s : State) : Host.Outcome State Fault Refusal :=
  .next (serviceLinks (receiveByte l (.good Config.resumeByte) s))

/-- FRAME_RECEIVED (R173 to R175): start byte, length, body and check are received in turn; with the check equal the frame is placed,
else it is discarded and frame_dropped set. -/
def execFrameReceived (l : LinkId) (body : List Byte) (check : BitVec 16) (s : State) : Host.Outcome State Fault Refusal :=
  .next (serviceLinks (receiveBytes l
    (Config.startByte :: BitVec.ofNat 8 body.length :: (body ++ checkBytes check)) s))

/-- STRAY_BYTE (R174): one byte of the receive line, good or bad, in any state of the receiver (log 27). -/
def execStrayByte (l : LinkId) (b : RxByte) (s : State) : Host.Outcome State Fault Refusal :=
  .next (serviceLinks (receiveByte l b s))

/-- LINK_BREAK (R188, R157, R106, R65): the link enters break. -/
def execLinkBreak (l : LinkId) (s : State) : Host.Outcome State Fault Refusal := .next (beginBreak l s)

/-- LINK_BREAK_END (R190): the receiver is HUNT again and session_restarted is set. -/
def execLinkBreakEnd (l : LinkId) (s : State) : Host.Outcome State Fault Refusal := .next (serviceLinks (endBreak l s))

/-- TRANSMISSION_END (R187): the frame's owner acts on its end and the transmitter chooses again. -/
def execTransmissionEnd (l : LinkId) (s : State) : Host.Outcome State Fault Refusal := .next (endTransmission l s)

end Sys2Proof.Machine
end

