-- ==== Sys2Proof/Machine/TrackerCommands.lean ====
section
/-! DEFINITION. The meanings of the rows of the frame, mark and splice sensors (chapter 2). -/

namespace Sys2Proof.Machine

/-- LOW_EDGE (R29, R33, R48): not taken in IDLE (R28). -/
def execLowEdge (s : State) : Host.Outcome State Fault Refusal :=
  .next (taken (s.tracker.mode != .idle) takeLowEdge s)

/-- HIGH_EDGE (R34, R47). -/
def execHighEdge (s : State) : Host.Outcome State Fault Refusal := .next (takeHigh s)

/-- MARK_ON (R37). -/
def execMarkOn (s : State) : Host.Outcome State Fault Refusal := .next (markOpens s)

/-- MARK_OFF (R37, R38, R52). -/
def execMarkOff (s : State) : Host.Outcome State Fault Refusal := .next (markCloses s)

/-- SPLICE_ON (R45). -/
def execSpliceOn (s : State) : Host.Outcome State Fault Refusal := .next (spliceOpens s)

/-- SPLICE_OFF (R45, R46). -/
def execSpliceOff (s : State) : Host.Outcome State Fault Refusal := .next (spliceCloses s)

end Sys2Proof.Machine
end

