-- ==== Sys2Proof/Machine/Dispatch.lean ====
section
/-! DEFINITION. One arm per command. -/

namespace Sys2Proof.Machine

def exec (i : Instr) (s : State) : Host.Outcome State Fault Refusal :=
  match i with
  | .powerOnReset lv => Sys2Proof.Machine.execPowerOnReset lv s
  | .getStatus l tag lv => Sys2Proof.Machine.execGetStatus l tag lv s
  | .getProfile l tag => Sys2Proof.Machine.execGetProfile l tag s
  | .setProfile l tag r => Sys2Proof.Machine.execSetProfile l tag r s
  | .getEntries l tag n count => Sys2Proof.Machine.execGetEntries l tag n count s
  | .findAddress l tag b d p => Sys2Proof.Machine.execFindAddress l tag b d p s
  | .getFocusMap l tag => Sys2Proof.Machine.execGetFocusMap l tag s
  | .setFocusPoint l tag position lensStep => Sys2Proof.Machine.execSetFocusPoint l tag position lensStep s
  | .clearFocusMap l tag => Sys2Proof.Machine.execClearFocusMap l tag s
  | .verifySegment l tag seg => Sys2Proof.Machine.execVerifySegment l tag seg s
  | .unverifySegment l tag seg lv => Sys2Proof.Machine.execUnverifySegment l tag seg lv s
  | .truncateIndex l tag n lv => Sys2Proof.Machine.execTruncateIndex l tag n lv s
  | .setNoticeMask l tag mask => Sys2Proof.Machine.execSetNoticeMask l tag mask s
  | .clearFault l tag lv => Sys2Proof.Machine.execClearFault l tag lv s
  | .cancelJob l tag job => Sys2Proof.Machine.execCancelJob l tag job s
  | .getJob l tag job => Sys2Proof.Machine.execGetJob l tag job s
  | .loadRoll l tag lv => Sys2Proof.Machine.execLoadRoll l tag lv s
  | .unloadRoll l tag => Sys2Proof.Machine.execUnloadRoll l tag s
  | .seekFrame l tag flags target => Sys2Proof.Machine.execSeekFrame l tag flags target s
  | .fetch l tag flags items => Sys2Proof.Machine.execFetch l tag flags items s
  | .sweep l tag flags fromT toT => Sys2Proof.Machine.execSweep l tag flags fromT toT s
  | .indexTo l tag flags target => Sys2Proof.Machine.execIndexTo l tag flags target s
  | .unknownRequest l tag kind rest => Sys2Proof.Machine.execUnknownRequest l tag kind rest s
  | .hold l => Sys2Proof.Machine.execHold l s
  | .resume l => Sys2Proof.Machine.execResume l s
  | .frameReceived l body check => Sys2Proof.Machine.execFrameReceived l body check s
  | .strayByte l b => Sys2Proof.Machine.execStrayByte l b s
  | .linkBreak l => Sys2Proof.Machine.execLinkBreak l s
  | .linkBreakEnd l => Sys2Proof.Machine.execLinkBreakEnd l s
  | .transmissionEnd l => Sys2Proof.Machine.execTransmissionEnd l s
  | .capstanCount d => Sys2Proof.Machine.execCapstanCount d s
  | .capstanStall => Sys2Proof.Machine.execCapstanStall s
  | .moveComplete => Sys2Proof.Machine.execMoveComplete s
  | .tensionChange side r => Sys2Proof.Machine.execTensionChange side r s
  | .tensionLimitExpiry => Sys2Proof.Machine.execTensionLimitExpiry s
  | .tensionPersistExpiry side => Sys2Proof.Machine.execTensionPersistExpiry side s
  | .threadLimitExpiry => Sys2Proof.Machine.execThreadLimitExpiry s
  | .holdTimerExpiry => Sys2Proof.Machine.execHoldTimerExpiry s
  | .leaderSearchLimit => Sys2Proof.Machine.execLeaderSearchLimit s
  | .leaderEdge => Sys2Proof.Machine.execLeaderEdge s
  | .tailSeen => Sys2Proof.Machine.execTailSeen s
  | .filmPresentClear => Sys2Proof.Machine.execFilmPresentClear s
  | .stopRise => Sys2Proof.Machine.execStopRise s
  | .lowEdge => Sys2Proof.Machine.execLowEdge s
  | .highEdge => Sys2Proof.Machine.execHighEdge s
  | .markOn => Sys2Proof.Machine.execMarkOn s
  | .markOff => Sys2Proof.Machine.execMarkOff s
  | .spliceOn => Sys2Proof.Machine.execSpliceOn s
  | .spliceOff => Sys2Proof.Machine.execSpliceOff s
  | .homeSwitchSet => Sys2Proof.Machine.execHomeSwitchSet s
  | .lensStep leaves => Sys2Proof.Machine.execLensStep leaves s
  | .homingLimit => Sys2Proof.Machine.execHomingLimit s
  | .lensStall => Sys2Proof.Machine.execLensStall s
  | .cameraAnswer ans => Sys2Proof.Machine.execCameraAnswer ans s
  | .cameraReadyRise => Sys2Proof.Machine.execCameraReadyRise s
  | .cameraReadyFall => Sys2Proof.Machine.execCameraReadyFall s
  | .answerLimitExpiry => Sys2Proof.Machine.execAnswerLimitExpiry s
  | .cameraWaitExpiry => Sys2Proof.Machine.execCameraWaitExpiry s
  | .trialWaitExpiry => Sys2Proof.Machine.execTrialWaitExpiry s

end Sys2Proof.Machine
end

