-- ==== Sys2Proof/Safety.lean ====
section
/-! DEFINITION. What counts as a sound state of the WNT-6408, and the terms in which statements about commands are written. -/

namespace Sys2Proof.Machine

/-! ### Sound states -/

/-- The job table holds at most six jobs; their numbers, like the counter, lie in 1..255 and differ (R134, R136, 7.1). -/
def JobsSound (s : State) : Prop :=
  s.jobs.slots.length ≤ 6 ∧ (jobNumbers s).Nodup ∧ (∀ n ∈ jobNumbers s, 1 ≤ n ∧ n ≤ 255) ∧
    1 ≤ s.jobs.counter ∧ s.jobs.counter ≤ 255

/-- The focus map's points are ascending, at least 500 counts apart, and at most 32 (R79). -/
def MapSound (m : List MapPoint) : Prop :=
  m.length ≤ 32 ∧ m.Pairwise fun p q => p.position + 500 ≤ q.position

/-- The position count lies in 0..16,000,000 and never above roll_end while roll_end is present (R4); the end values are positions. -/
def PositionSound (s : State) : Prop :=
  s.transport.position ≤ 16000000 ∧ (∀ e, s.transport.rollEnd = some e → s.transport.position ≤ e ∧ e ≤ 16000000) ∧
    ∀ e, s.transport.tailLimit = some e → e ≤ 16000000

/-- While HALTED the transport moves no film: no drive, move or search, and none of its timers that would begin one (R26, R161). -/
def HaltSound (s : State) : Prop :=
  s.fault.halted = true →
    s.transport.state = .halted ∧ s.transport.drive = none ∧ s.transport.move = none ∧ s.transport.search = none ∧
      s.transport.threadLimit = false ∧ s.transport.holdTimer = none

/-! ### Terms of statements -/

/-- A link unit at rest: nothing in reception, nothing waits, the reply slot is empty. -/
def Listens (l : LinkId) (s : State) : Prop :=
  (s.link l).receiver = .hunt ∧ (s.link l).inputBuffer = [] ∧ (s.link l).replySlot = none

/-- The state after a reply was built on a link over a state, and the transmitters chose (R176, R185). -/
def replied (l : LinkId) (kind tag : Byte) (r : Result) (data : List Byte) (s : State) : State :=
  serviceLinks (buildReply l kind tag r data s)

/-- A command completes: its next state is a state with a property, settled (log 8). -/
def Settles (c : Instr) (s : State) (P : State → Prop) : Prop := ∃ u, exec c s = .next (settle u) ∧ P u

/-- Two states differ at most in the link units. -/
def OnlyLinks (s t : State) : Prop := t = { s with links := t.links }

/-- Two states differ at most in the transport and the notices raised. -/
def OnlyTransport (s t : State) : Prop := t = { s with transport := t.transport, links := t.links }

/-- A number in a field of `k` bytes, high byte first (R191). -/
def wire : Nat → Nat → List Byte
  | 0, _ => []
  | k + 1, v => BitVec.ofNat 8 (v / 256 ^ k) :: wire k v

/-- An optional number in a field of `k` bytes, all ones when it is absent (R191). -/
def wireOpt (k : Nat) (v : Option Nat) : List Byte := wire k (v.getD (256 ^ k - 1))

/-- A set or clear field: 01h or 00h (R191). -/
def wireFlag (b : Bool) : List Byte := wire 1 b.toNat

/-- An enumerated value, 00h when it is absent (R191). -/
def wireCode {α : Type} (code : α → Byte) (v : Option α) : List Byte := [(v.map code).getD 0x00]

/-- The fault record of a first fault (R159). -/
def FaultRecord.first (c : Cause) (s : State) : FaultRecord where
  halted   := true
  cause    := some c
  position := some s.transport.position
  later    := false

/-- What the offer of a frame makes of a revisit list (R112): one in the list already changes nothing; with fewer than 64 frames it is
inserted in its place; a full list turns it away. -/
def Offered (f : Nat) (ns ns' : List Nat) : Prop :=
  (f ∈ ns ∨ 64 ≤ ns.length → ns' = ns) ∧
    (f ∉ ns → ns.length < 64 → ns'.length = ns.length + 1 ∧ (∀ x, x ∈ ns' ↔ x = f ∨ x ∈ ns) ∧
      (ns.Pairwise (· < ·) → ns'.Pairwise (· < ·)))

/-- The tracker is VERIFYING over EXACT film that moves in a direction behind the frontier, away from the limits of the count, with nothing
parked and no trigger armed. -/
def Passing (d : Direction) (s : State) : Prop :=
  s.tracker.mode = .verifying ∧ s.tracker.heldIdle = false ∧ s.tracker.parked = none ∧ s.transport.state = .moving ∧
    s.transport.travel = d ∧ s.transport.reference = .exact ∧ s.transport.search = none ∧ s.transport.rollEnd = none ∧
    s.transport.tailLimit = none ∧ 0 < s.transport.position ∧ s.transport.position + 1 < 16000000 ∧
    s.transport.position < s.index.frontier ∧ s.capture.armed = []

/-! ### Rows by what they may touch -/

/-- The rows of the machine side: what sensors, drives, timers and the camera report, no row of a link and not the reset. -/
def isMachineEvent : Instr → Bool
  | .capstanCount _ | .capstanStall | .moveComplete | .tensionChange _ _ | .tensionLimitExpiry | .tensionPersistExpiry _
  | .threadLimitExpiry | .holdTimerExpiry | .leaderSearchLimit | .leaderEdge | .tailSeen | .filmPresentClear | .stopRise
  | .lowEdge | .highEdge | .markOn | .markOff | .spliceOn | .spliceOff | .homeSwitchSet | .lensStep _ | .homingLimit
  | .lensStall | .cameraAnswer _ | .cameraReadyRise | .cameraReadyFall | .answerLimitExpiry | .cameraWaitExpiry
  | .trialWaitExpiry => true
  | _ => false

/-- The machine-side rows that may report a fault: the detectors of R11, R22 to R25, R76 and R77. -/
def mayFault : Instr → Bool
  | .capstanStall | .tensionChange _ _ | .tensionLimitExpiry | .tensionPersistExpiry _ | .filmPresentClear | .stopRise
  | .homingLimit | .lensStall => true
  | _ => false

/-- The machine-side rows that may change the position count: a count, a trim at a LOW_EDGE, LEADER_EDGE, and an entry to EMPTY (R4). -/
def mayMovePosition : Instr → Bool
  | .capstanCount _ | .leaderEdge | .lowEdge | .threadLimitExpiry | .filmPresentClear => true
  | _ => false

end Sys2Proof.Machine
end

