-- ==== Sys2Proof/Certificates/Slice0/Obligations.lean ====
section
/-! DEFINITION. The statements about the model. A statement that names a state `u` before settling uses log 8's order of a step: the
event's own effect first, then what follows from it (`settle`). -/

open Sys2Proof Sys2Proof.Machine

/-! ### The machine -/

/-- A step takes the command at the front of the queue; on an empty queue the block idles (the model's choice, log 4). -/
def Obligations.StepRunsFront : Prop :=
  ∀ (c : Instr) (rest : List Instr) (s : State),
    step (s.withPending (c :: rest)) = exec c (s.withPending rest) ∧
      step (s.withPending []) = .next (s.withPending [])

/-- Every command completes on every state and leaves the waiting commands alone. That a row whose limit does not run, or whose state does
not take it, completes with no effect is the model's choice (log 4), as is one queue of rows that any state may meet (log 38). -/
def Obligations.EveryCommandCompletes : Prop :=
  ∀ (c : Instr) (s : State), ∃ t, exec c s = .next t ∧ t.pending = s.pending

/-- What power-on or RESET leaves, with STOP released (R1, R27, R60, R73, R93, R116, R134, R158, R172). That the row carries the input
levels and keeps the last tension reports, the clause on the pins, is the model's choice (log 1). -/
def Obligations.ResetValues : Prop :=
  ∀ (lv : Levels) (s : State), lv.stop = false → ∃ t, exec (.powerOnReset lv) s = .next t ∧
    t.transport.state = (if lv.filmPresent then .resting else .empty) ∧ t.transport.reference = .lost ∧
    t.transport.position = 0 ∧ t.transport.rollEnd = none ∧ t.transport.tailLimit = none ∧
    t.transport.broken = false ∧ t.transport.leaderMissing = false ∧ t.transport.profile = {} ∧
    t.transport.tension = .slack ∧ t.transport.holdTimer = none ∧ t.transport.move = none ∧
    t.tracker.mode = .idle ∧ t.tracker.p16 = 38400 ∧ t.tracker.budget = 2 ∧ t.tracker.splices = [] ∧
    t.tracker.eLast = none ∧ t.tracker.candidate = none ∧ t.tracker.parked = none ∧ t.tracker.missAccepted = false ∧
    t.tracker.rescan = none ∧ t.tracker.counters = none ∧ t.tracker.pendingNoise = false ∧
    t.tracker.pendingSplice = false ∧ t.tracker.openMark = none ∧ t.tracker.openSplice = none ∧
    t.tracker.unmatchedRun = 0 ∧
    t.index.entries = [] ∧ t.index.frontier = 0 ∧ t.index.state = .empty ∧
    t.index.segments = List.replicate 64 { verified := false, link := none, verifiedAt := 0 } ∧
    t.index.disputeCount = 0 ∧ t.index.lastDispute = none ∧
    t.focus.state = .unhomed ∧ t.focus.lens = none ∧ t.focus.recal = false ∧ t.focus.map = [] ∧
    t.focus.homeCount = 0 ∧ t.focus.slew = [] ∧ t.focus.search = none ∧ t.focus.result = none ∧
    t.capture.handshake = (if lv.cameraReady then .ready else .notReady) ∧ t.capture.answerLock = false ∧
    t.capture.outstanding = none ∧ t.capture.armed = [] ∧ t.capture.ring = [] ∧ t.capture.throttle = false ∧
    t.capture.ringHead = 0 ∧ t.capture.holding = none ∧ t.capture.revisits = [] ∧ t.capture.lastMiss = none ∧
    t.arbiter.queue = [] ∧ t.arbiter.current = none ∧ t.arbiter.elevator = .up ∧ t.arbiter.blocked = false ∧
    t.arbiter.arrival = 0 ∧ t.arbiter.yieldCount = 0 ∧ t.arbiter.runImmune = false ∧ t.arbiter.interrupted = none ∧
    t.arbiter.captureHold = false ∧ t.arbiter.searchHold = false ∧ t.arbiter.rollClaim = false ∧
    t.jobs.slots = [] ∧ t.jobs.counter = 1 ∧
    t.fault = { halted := false, cause := none, position := none, later := false } ∧
    (∀ l, (t.link l).receiver = .hunt ∧ (t.link l).inputBuffer = [] ∧ (t.link l).replySlot = none ∧
      (t.link l).frameDropped = false ∧ (t.link l).sessionRestarted = true ∧ (t.link l).hold = false ∧
      (t.link l).mask = {} ∧ (t.link l).flags = {} ∧ (t.link l).jobDone = [] ∧ (t.link l).transmitter = .idle) ∧
    t.pins = { s.pins with levels := lv }

/-- With STOP held at reset the part comes up HALTED by OPERATOR_STOP at position 0 (R158). -/
def Obligations.ResetWithStopHalts : Prop :=
  ∀ (lv : Levels) (s : State), lv.stop = true → ∃ t, exec (.powerOnReset lv) s = .next t ∧
    t.fault = { halted := true, cause := some .operatorStop, position := some 0, later := false } ∧
    t.transport.state = .halted ∧ t.transport.tension = .slack

/-- The invariants of the four statements below hold right after reset. -/
def Obligations.ResetSound : Prop :=
  JobsSound State.reset ∧ MapSound State.reset.focus.map ∧ PositionSound State.reset ∧ HaltSound State.reset

/-- Every step keeps the job table sound: at most six slots held, numbers distinct and in 1..255 (R134, R136). -/
def Obligations.StepKeepsJobTable : Prop :=
  ∀ s t : State, JobsSound s → step s = .next t → JobsSound t

/-- Every step keeps the focus map ascending, 500 counts apart and within 32 points (R79). -/
def Obligations.StepKeepsFocusMap : Prop :=
  ∀ s t : State, MapSound s.focus.map → step s = .next t → MapSound t.focus.map

/-- Every step keeps the position count in range and at or below roll_end (R4, R14). -/
def Obligations.StepKeepsPosition : Prop :=
  ∀ s t : State, PositionSound s → step s = .next t → PositionSound t

/-- Every step that leaves the part HALTED leaves the film undriven (R26, R161). -/
def Obligations.StepKeepsHalt : Prop :=
  ∀ s t : State, HaltSound s → step s = .next t → HaltSound t

/-- What no machine-side row touches: the profile, which numbers the job table holds and its counter, and of a link unit all but the
pending flags, the JOB_DONE queue and the transmitter (R2, R136, R181, R185). Only the detectors change the fault record (R159), and only
counts, trims, LEADER_EDGE and an entry to EMPTY change the position count (R4). That MOVE_COMPLETE never does rests on a LOAD cancelled in
THREADING entering EMPTY at once (log 10). -/
def Obligations.MachineEventsFrame : Prop :=
  ∀ (c : Instr) (s : State), isMachineEvent c = true → ∃ t, exec c s = .next t ∧
    t.transport.profile = s.transport.profile ∧ jobNumbers t = jobNumbers s ∧ t.jobs.counter = s.jobs.counter ∧
    (mayFault c = false → t.fault = s.fault) ∧
    (mayMovePosition c = false → t.transport.position = s.transport.position) ∧
    ∀ l, t.link l = { s.link l with flags := (t.link l).flags, jobDone := (t.link l).jobDone,
                                     transmitter := (t.link l).transmitter }

/-! ### Links -/

/-- The body of every request a master can send is read back to its tag and the request, each operand at every value of its width; it
holds 2 to 250 bytes (R192 to R194, R199). -/
def Obligations.RequestBodyRoundTrip : Prop :=
  ∀ (r : Request) (tag : Byte), (∀ flags items, r = .fetch flags items → items.length ≤ 35) →
    readBody (r.body tag) = some (tag, r) ∧ 2 ≤ (r.body tag).length ∧ (r.body tag).length ≤ 250

/-- The worked value of the check (R173). -/
def Obligations.CheckExample : Prop :=
  crc [0x31, 0x32, 0x33, 0x34, 0x35, 0x36, 0x37, 0x38, 0x39] = 0x29B1 ∧ crc [] = 0xFFFF

/-- FRAME_RECEIVED in HUNT. With the check equal the frame is discarded with frame_dropped set where the buffer holds two, waits behind
the frames there while a reply waits, and is answered at once with the buffer and the reply slot empty; with the check unequal it is
discarded with frame_dropped set (R174, R175). -/
def Obligations.FrameReceivedPlaced : Prop :=
  ∀ (l : LinkId) (body : List Byte) (check : BitVec 16) (s : State), (s.link l).receiver = .hunt →
    2 ≤ body.length → body.length ≤ 250 →
    (check ≠ bodyCheck body ∨ 2 ≤ (s.link l).inputBuffer.length →
      exec (.frameReceived l body check) s = .next (serviceLinks (s.onLink l fun u => { u with frameDropped := true }))) ∧
    (check = bodyCheck body → (s.link l).inputBuffer.length < 2 → (s.link l).replySlot ≠ none →
      exec (.frameReceived l body check) s =
        .next (serviceLinks (s.onLink l fun u => { u with inputBuffer := u.inputBuffer ++ [body] }))) ∧
    (check = bodyCheck body → (s.link l).inputBuffer = [] → (s.link l).replySlot = none →
      exec (.frameReceived l body check) s = .next (serviceLinks (answerFrame l body s)))

/-- HOLD, RESUME and a stray byte in HUNT act on the link units alone (R174, R186). HOLD holds an IDLE transmitter and lets a frame in
progress go on; RESUME clears hold, and a reply that waits is sent; a byte that is none of A5h, HOLD and RESUME, or a bad byte, sets
frame_dropped. -/
def Obligations.ControlBytes : Prop :=
  ∀ (l : LinkId) (s : State), (s.link l).receiver = .hunt →
    (∃ t, exec (.hold l) s = .next t ∧ OnlyLinks s t ∧ (t.link l).hold = true ∧
      ((s.link l).transmitter = .idle → (t.link l).transmitter = .held) ∧
      (∀ k f, (s.link l).transmitter = .sending k f → (t.link l).transmitter = .sending k f)) ∧
    (∃ t, exec (.resume l) s = .next t ∧ OnlyLinks s t ∧ (t.link l).hold = false ∧
      (∀ body, (s.link l).transmitter = .held → (s.link l).replySlot = some body →
        (t.link l).transmitter = .sending .reply (frameOf body)) ∧
      (∀ k f, (s.link l).transmitter = .sending k f → (t.link l).transmitter = .sending k f)) ∧
    (∀ b, b = .bad ∨ (∃ v, b = .good v ∧ v ≠ 0xA5 ∧ v ≠ 0x5C ∧ v ≠ 0x5D) →
      ∃ t, exec (.strayByte l b) s = .next t ∧ OnlyLinks s t ∧ (t.link l).frameDropped = true ∧
        (t.link l).receiver = .hunt ∧ (t.link l).inputBuffer = (s.link l).inputBuffer)

/-- A link break empties the link unit, frees the slots of the link's jobs, marks its records dropped and forgets it as verifying link
(R188, R157, R106, R65); its end puts the receiver in HUNT with session_restarted set (R190). The order of a step's effects is the model's
(log 8). -/
def Obligations.LinkBreaks : Prop :=
  ∀ (l : LinkId) (s : State), JobsSound s →
    ((s.link l).receiver ≠ .brk → Settles (.linkBreak l) s fun u =>
      (u.link l).receiver = .brk ∧ (u.link l).inputBuffer = [] ∧ (u.link l).replySlot = none ∧
      (u.link l).frameDropped = false ∧ (u.link l).hold = false ∧ (u.link l).mask = {} ∧ (u.link l).flags = {} ∧
      (u.link l).jobDone = [] ∧ (u.link l).transmitter = .idle ∧
      (∀ j ∈ u.jobs.slots, j.link ≠ l) ∧ (∀ r ∈ u.capture.ring, r.link = l → r.drop = true) ∧
      (∀ sg ∈ u.index.segments, sg.link ≠ some l) ∧ u.fault = s.fault) ∧
    ((s.link l).receiver = .brk → ∃ t, exec (.linkBreakEnd l) s = .next t ∧ OnlyLinks s t ∧
      (t.link l).receiver = .hunt ∧ (t.link l).sessionRestarted = true ∧
      (t.link l).inputBuffer = (s.link l).inputBuffer ∧ (t.link l).replySlot = (s.link l).replySlot ∧
      (t.link l).mask = (s.link l).mask ∧ (t.link l).jobDone = (s.link l).jobDone)

/-- The end of a sent frame by its kind (R187): a reply frees the reply slot and the oldest buffered frame is taken; a JOB_DONE frees its
job's slot; a CAPTURED removes the ring's head; a maskable notice does nothing further. -/
def Obligations.TransmissionEnds : Prop :=
  ∀ (l : LinkId) (f : List Byte) (s : State),
    ((s.link l).transmitter = .sending .reply f → ∀ body rest, (s.link l).inputBuffer = body :: rest →
      exec (.transmissionEnd l) s = .next (serviceLinks (dropHeads (answerFrame l body
        (s.onLink l fun u => { u with transmitter := .idle, replySlot := none, inputBuffer := rest }))))) ∧
    ((s.link l).transmitter = .sending .reply f → (s.link l).inputBuffer = [] →
      exec (.transmissionEnd l) s = .next (serviceLinks (dropHeads
        (s.onLink l fun u => { u with transmitter := .idle, replySlot := none })))) ∧
    ((s.link l).transmitter = .sending .jobDone f → ∀ n rest, (s.link l).jobDone = n :: rest →
      ∃ u, exec (.transmissionEnd l) s = .next (serviceLinks (dropHeads u)) ∧
        u.jobs.slots = s.jobs.slots.filter (fun j => j.number != n) ∧ u.jobs.counter = s.jobs.counter ∧
        u = { s with jobs := u.jobs, links := u.links } ∧ (u.link l).jobDone = rest) ∧
    ((s.link l).transmitter = .sending .captured f → ∀ r rest, s.capture.ring = r :: rest →
      ∃ u, exec (.transmissionEnd l) s = .next (serviceLinks (dropHeads u)) ∧
        u.capture.ring = rest ∧ u.capture.ringHead = (s.capture.ringHead + 1) % 32 ∧ u.jobs = s.jobs ∧
        u.index = s.index ∧ u.focus = s.focus ∧ u.fault = s.fault) ∧
    (∀ k, (s.link l).transmitter = .sending (.notice k) f →
      exec (.transmissionEnd l) s = .next (serviceLinks (dropHeads
        (s.onLink l fun u => { u with transmitter := .idle }))))

/-- What an IDLE transmitter sends next: the reply, then the head of the JOB_DONE queue, then the ring's head that names the link, then
the unmasked pending notices in their order (R185). An IDLE transmitter without hold begins to send it as a frame, a notice's pending flag
being cleared, and changes nothing else; with hold it is HELD, and a frame in progress goes on (R182, R185, R186). -/
def Obligations.TransmitOrder : Prop :=
  ∀ (l : LinkId) (s : State),
    (∀ body, (s.link l).replySlot = some body → nextTransmission l s = some (.reply, body)) ∧
    ((s.link l).replySlot = none → ∀ n rest j, (s.link l).jobDone = n :: rest → findJob n s = some j →
      nextTransmission l s = some (.jobDone, jobDoneBody j s)) ∧
    ((s.link l).replySlot = none → (s.link l).jobDone = [] → ∀ r rest, s.capture.ring = r :: rest →
      r.link = l → r.drop = false → nextTransmission l s = some (.captured, capturedBody r)) ∧
    ((s.link l).replySlot = none → (s.link l).jobDone = [] → (∀ r ∈ s.capture.ring.head?, r.link ≠ l) →
      ∀ k, nextTransmission l s = some (.notice k, noticeBody k s) ↔
        (s.link l).flags.get k = true ∧ (s.link l).mask.get k = false ∧
          ∀ m ∈ ([.fault, .rollState, .indexProgress, .dispute] : List NoticeKind).takeWhile (· != k),
            (s.link l).flags.get m = true → (s.link l).mask.get m = true) ∧
    ((s.link l).receiver ≠ .brk → (s.link l).transmitter = .idle →
      OnlyLinks s (serviceLink l s) ∧ (∀ m, m ≠ l → (serviceLink l s).link m = s.link m) ∧
      ((s.link l).hold = false → nextTransmission l s = none → serviceLink l s = s) ∧
      (∀ k body, (s.link l).hold = false → nextTransmission l s = some (k, body) →
        ((serviceLink l s).link l).transmitter = .sending k (frameOf body) ∧
        (serviceLink l s).link l = { s.link l with transmitter := .sending k (frameOf body),
                                                   flags := ((serviceLink l s).link l).flags } ∧
        (∀ n, k = .notice n → ((serviceLink l s).link l).flags.get n = false) ∧
        (∀ n, k ≠ .notice n → ((serviceLink l s).link l).flags.get n = (s.link l).flags.get n)) ∧
      ((s.link l).hold = true → (serviceLink l s).link l = { s.link l with transmitter := .held })) ∧
    (∀ k f, (s.link l).transmitter = .sending k f → serviceLink l s = s)

/-- A raise sets the pending flag of each link not in break, masked or not, and changes nothing else (R181, R189). -/
def Obligations.RaiseSetsFlags : Prop :=
  ∀ (k : NoticeKind) (s : State), OnlyLinks s (raise k s) ∧
    ∀ l, ((s.link l).receiver = .brk → (raise k s).link l = s.link l) ∧
      ((s.link l).receiver ≠ .brk → ((raise k s).link l).flags.get k = true ∧
        (∀ m, m ≠ k → ((raise k s).link l).flags.get m = (s.link l).flags.get m) ∧
        (raise k s).link l = { s.link l with flags := ((raise k s).link l).flags })

/-- A reply carries kind, tag, result, the link status with its two flags, then the data; it clears the two flags, and an IDLE
transmitter without hold begins to send it (R176, R177, R185, R195). Nothing but the link units changes. The codes of the results (R195). -/
def Obligations.ReplySent : Prop :=
  ∀ (l : LinkId) (kind tag : Byte) (r : Result) (data : List Byte) (s : State),
    OnlyLinks s (replied l kind tag r data s) ∧
    ∃ status : Byte, (status.getLsbD 0 = (s.link l).frameDropped ∧ status.getLsbD 1 = (s.link l).sessionRestarted ∧
        status.toNat < 4) ∧
      ((replied l kind tag r data s).link l).replySlot = some (kind :: tag :: r.code :: status :: data) ∧
      ((replied l kind tag r data s).link l).frameDropped = false ∧
      ((replied l kind tag r data s).link l).sessionRestarted = false ∧
      ((s.link l).transmitter = .idle → (s.link l).hold = false → (s.link l).receiver ≠ .brk →
        ((replied l kind tag r data s).link l).transmitter =
          .sending .reply (frameOf (kind :: tag :: r.code :: status :: data))) ∧
      ([.ok, .invalid, .wrongState, .busy, .noSlot, .noJob, .notOwner, .guarded, .inUse, .incomplete, .outOfRange,
        .profileInvalid, .conditionPresent, .notFound] : List Result).map (·.code) =
        [0x00, 0x01, 0x02, 0x03, 0x04, 0x05, 0x06, 0x07, 0x08, 0x09, 0x0A, 0x0B, 0x0C, 0x0D]

/-- A frame whose kind is no request kind is answered with kind UNKNOWN and INVALID, and nothing else comes of it (R176). -/
def Obligations.UnknownRequestInvalid : Prop :=
  ∀ (l : LinkId) (tag kind : Byte) (rest : List Byte) (s : State), Listens l s →
    (Instr.unknownRequest l tag kind rest).wellFormed = true →
    exec (.unknownRequest l tag kind rest) s = .next (replied l 0xFF tag .invalid [] s)

/-- A request with an operand out of its range is answered INVALID, and nothing else comes of it (R176, R193, R194). The ranges are those of
R193 with the target fields of R194; the rows without parameters, and SET_PROFILE, have none. -/
def Obligations.BadOperandInvalid : Prop :=
  ∀ frame address rollEnd : TargetField → Prop,
    (∀ t, frame t ↔ t.code = 1 ∧ t.w0.toNat ≤ 16383 ∧ t.w1 = 0 ∧ t.w2 = 0) →
    (∀ t, address t ↔ t.code = 2 ∧ t.w0 ≠ 0 ∧ t.w1 ≠ 0 ∧ t.w2 ≠ 0) →
    (∀ t, rollEnd t ↔ t.code = 3 ∧ t.w0 = 0 ∧ t.w1 = 0 ∧ t.w2 = 0) →
    (∀ n count, checkRequest (.getEntries n count) = none ↔ ¬ (n.toNat ≤ 16383 ∧ 1 ≤ count.toNat ∧ count.toNat ≤ 8)) ∧
    (∀ b d p, checkRequest (.findAddress b d p) = none ↔ b = 0 ∨ d = 0 ∨ p = 0) ∧
    (∀ p x, checkRequest (.setFocusPoint p x) = none ↔ 16000000 < p.toNat ∨ 4095 < x.toNat) ∧
    (∀ sg, (checkRequest (.verifySegment sg) = none ↔ 63 < sg.toNat) ∧
      (checkRequest (.unverifySegment sg) = none ↔ 63 < sg.toNat)) ∧
    (∀ n, checkRequest (.truncateIndex n) = none ↔ 16383 < n.toNat) ∧
    (∀ m, checkRequest (.setNoticeMask m) = none ↔ 15 < m.toNat) ∧
    (∀ j, (checkRequest (.cancelJob j) = none ↔ j = 0) ∧ (checkRequest (.getJob j) = none ↔ j = 0)) ∧
    (∀ fl t, checkRequest (.seekFrame fl t) = none ↔ ¬ (fl.toNat ≤ 1 ∧ (frame t ∨ address t))) ∧
    (∀ fl ts, checkRequest (.fetch fl ts) = none ↔
      ¬ (fl.toNat ≤ 3 ∧ 1 ≤ ts.length ∧ ts.length ≤ 32 ∧ ∀ t ∈ ts, frame t ∨ address t)) ∧
    (∀ fl x y, checkRequest (.sweep fl x y) = none ↔
      ¬ (fl.toNat ≤ 3 ∧ (frame x ∨ address x) ∧ (frame y ∨ address y ∨ rollEnd y) ∧
        (frame x → frame y → x.w0.toNat ≤ y.w0.toNat) ∧
        (address x → address y → x.w0.toNat < y.w0.toNat ∨ x.w0 = y.w0 ∧
          (x.w1.toNat < y.w1.toNat ∨ x.w1 = y.w1 ∧ x.w2.toNat ≤ y.w2.toNat)))) ∧
    (∀ fl t, checkRequest (.indexTo fl t) = none ↔ ¬ (fl = 0 ∧ (address t ∨ rollEnd t))) ∧
    (∀ r, r = .getStatus ∨ r = .getProfile ∨ r = .getFocusMap ∨ r = .clearFocusMap ∨ r = .clearFault ∨ r = .loadRoll ∨
      r = .unloadRoll ∨ (∃ p, r = .setProfile p) → checkRequest r ≠ none) ∧
    ∀ (l : LinkId) (tag : Byte) (r : Request) (s : State), Listens l s →
      (∀ flags items, r = .fetch flags items → items.length ≤ 35) → checkRequest r = none →
      requestArrives l tag r s = replied l (r.kind + 0x80) tag .invalid [] s

/-! ### Requests answered at once -/

/-- GET_STATUS, GET_PROFILE, GET_FOCUS_MAP and GET_JOB on a listening link answer with the record they ask for and change nothing but the
link units (R178, R2, R79, R156). GET_STATUS carries input levels, and those without a row of their own are taken from it (`takeLevels`,
log 2). The bytes of the status record (R197, its W the plain window, log 28, and the current motion's kind and class those it was selected
with, log 48), of the profile (R199), of the focus map (R196), of a job's
record in GET_JOB and JOB_DONE (R201, a reversed range as in log 21), of CAPTURED (R200) and of the maskable notices (R202), with the code
of every enumerated value (R191). -/
def Obligations.RecordsRead : Prop :=
  ∀ (l : LinkId) (tag : Byte) (lv : Levels) (job : Byte) (s : State),
    (Listens l s →
      exec (.getStatus l tag lv) s =
        .next (replied l 0x81 tag .ok (statusBytes l (takeLevels lv s)) (takeLevels lv s)) ∧
      exec (.getProfile l tag) s = .next (replied l 0x82 tag .ok (profileBytes s.transport.profile) s) ∧
      exec (.getFocusMap l tag) s = .next (replied l 0x86 tag .ok (mapBytes s.focus.map) s) ∧
      (∀ j, job ≠ 0 → findJob job.toNat s = some j →
        exec (.getJob l tag job) s = .next (replied l 0x8F tag .ok (jobBytes j s) s)) ∧
      (job ≠ 0 → findJob job.toNat s = none → exec (.getJob l tag job) s = .next (replied l 0x8F tag .noJob [] s))) ∧
    (∃ (axis : Option Nat) (jobNo : Nat),
      (∀ n, axis = some n → ∃ e, s.index.entries[n]? = some e ∧
        e.low + s.transport.profile.axisOffset ≤ s.transport.position ∧
        s.transport.position ≤ e.high + s.transport.profile.axisOffset) ∧
      (axis = none → ∀ e ∈ s.index.entries, s.transport.position < e.low + s.transport.profile.axisOffset ∨
        e.high + s.transport.profile.axisOffset < s.transport.position) ∧
      (∀ c, s.arbiter.current = some c → ∀ n, c.requester = .job n → jobNo = n) ∧
      ((∀ c, s.arbiter.current = some c → ∀ n, c.requester ≠ .job n) → jobNo = 0) ∧
      statusBytes l s =
        [s.transport.state.code, s.transport.reference.code] ++ wire 3 s.transport.position ++
        wireOpt 3 s.transport.rollEnd ++ wireFlag s.transport.broken ++ wireFlag s.transport.leaderMissing ++
        [s.transport.tension.code] ++
        wire 1 (s.pins.levels.filmPresent.toNat + 2 * s.pins.levels.stop.toNat + 4 * s.pins.levels.protectKey.toNat +
          8 * s.pins.levels.cameraReady.toNat) ++
        [s.tracker.mode.code] ++ wire 2 ((s.tracker.p16 + 8) / 16) ++ wire 2 (max 20 (min 400 (s.tracker.p16 / 128))) ++
        wire 1 s.tracker.budget ++ wire 1 s.tracker.splices.length ++
        [s.index.state.code] ++ wire 2 s.index.entries.length ++ wire 3 s.index.frontier ++
        wire 1 (s.index.segments.countP (·.verified)) ++ wireOpt 2 axis ++
        [s.focus.state.code] ++ wireOpt 2 s.focus.lens ++ wireFlag s.focus.recal ++ wire 1 s.focus.map.length ++
        wireFlag s.focus.search.isSome ++
        [s.capture.handshake.code] ++ wireFlag s.capture.answerLock ++ wire 1 s.capture.armed.length ++
        wire 1 s.capture.ring.length ++ wireFlag s.capture.throttle ++
        wire 1 (if s.capture.throttle then max 10 (s.transport.profile.captureSpeed / 2)
          else s.transport.profile.captureSpeed) ++
        wireOpt 2 (s.capture.lastMiss.map (·.1)) ++ wireCode (fun m => m.2.code) s.capture.lastMiss ++
        wire 1 s.arbiter.queue.length ++ wireCode (fun c => c.requester.code) s.arbiter.current ++ wire 1 jobNo ++
        wireCode (fun c => c.kind.code) s.arbiter.current ++ wireCode (fun c => c.cls.code) s.arbiter.current ++
        wireCode (fun c => c.leg.code) s.arbiter.current ++ [s.arbiter.elevator.code] ++ wire 1 s.arbiter.yieldCount ++
        wire 1 (s.arbiter.captureHold.toNat + 2 * s.arbiter.searchHold.toNat + 4 * s.arbiter.rollClaim.toNat +
          8 * s.arbiter.blocked.toNat) ++
        wire 1 s.jobs.slots.length ++ wire 1 (s.jobs.slots.countP fun j => j.isOpen && j.link == .a) ++
        wire 1 (s.jobs.slots.countP fun j => j.isOpen && j.link == .b) ++
        wire 1 (s.jobs.slots.countP fun j => j.isOpen && j.link == .c) ++
        wireFlag s.fault.halted ++ wireCode Cause.code s.fault.cause ++ wireOpt 3 s.fault.position ++
        wireFlag s.fault.later ++
        wire 1 ((s.link l).mask.fault.toNat + 2 * (s.link l).mask.rollState.toNat +
          4 * (s.link l).mask.indexProgress.toNat + 8 * (s.link l).mask.dispute.toNat) ++
        wire 1 ((s.link l).flags.fault.toNat + 2 * (s.link l).flags.rollState.toNat +
          4 * (s.link l).flags.indexProgress.toNat + 8 * (s.link l).flags.dispute.toNat) ++
        wireFlag (s.link l).hold ++ wire 1 (s.link l).jobDone.length) ∧
    (∀ p : Profile, profileBytes p =
      wire 1 p.filmWidth ++ wire 2 p.pitchNominal ++ wire 2 p.pitchMin ++ wire 2 p.pitchMax ++
      wire 2 p.imageMin ++ wire 2 p.imageMax ++ wire 2 p.markMin ++ wire 2 p.mark12 ++ wire 2 p.mark23 ++
      wire 2 p.markMax ++ wire 2 p.startAddress.batch ++ wire 2 p.startAddress.document ++ wire 2 p.startAddress.page ++
      wire 2 p.axisOffset ++ wire 1 p.slipTol ++ wire 1 p.rescanLimit ++ wire 2 (p.spliceFocusOffset % 65536).toNat ++
      wire 2 p.defaultFocus ++ wire 3 p.focusReach ++ wire 2 p.metricFloor ++ wire 1 p.captureSpeed ++
      wire 2 p.answerLimit ++ wire 2 p.holdTime ++ wireFlag p.readAhead) ∧
    (∀ m : List MapPoint, mapBytes m =
      wire 1 m.length ++ m.flatMap fun q => wire 3 q.position ++ wire 2 q.lens ++ [q.source.code]) ∧
    (∀ j : Job, ∃ part tail : List Byte,
      jobBytes j s = wire 1 j.number ++ [j.body.code, linkCode (some j.link), j.state.code, j.endReason.code] ++ part ++ tail ∧
      jobDoneBody j s = [0xC1, 0x00] ++ wire 1 j.number ++ [j.body.code, j.state.code, j.endReason.code] ++ part ∧
      (j.body = .load → j.body.code = 1 ∧ part = [] ∧ tail = []) ∧
      (j.body = .unload → j.body.code = 2 ∧ part = [] ∧ tail = []) ∧
      (∀ t r o f, j.body = .seek t r o f → j.body.code = 3 ∧ tail = [] ∧
        part = wireOpt 2 r ++ wireCode MoveOutcome.code o ++ wireOpt 3 f) ∧
      (∀ is, j.body = .fetch is → j.body.code = 4 ∧ tail = [] ∧
        part = ([.captured, .notFound, .missed, .failed, .cancelled] : List ItemOutcome).flatMap
            (fun o => wire 1 (is.countP fun i => i.outcome == o)) ++ wire 1 is.length ++
          is.flatMap fun i => [i.outcome.code] ++ wireOpt 2 i.resolved ++ wire 1 i.captures) ∧
      (∀ r, j.body = .sweep r → j.body.code = 5 ∧
        tail = wireOpt 2 r.nextFrame ++ wire 1 ((s.capture.revisitOf j.number).getD []).length ∧
        ∃ size ending, part = wireOpt 2 r.fromFrame ++ wire 2 ending ++ wire 2 size ++ wire 2 r.captured ++
            wire 2 (size - r.captured) ++ wire 1 r.revisits ++ wireFlag r.overflow ∧
          (r.endFrame = none → ending = 0xFFFF) ∧ (r.endFrame = some .rollEnd → ending = 0xFFFE) ∧
          (∀ y, r.endFrame = some (.frame y) → ending = y ∧ ∀ x, r.fromFrame = some x → size = y + 1 - x) ∧
          (r.fromFrame = none ∨ r.endFrame = none ∨ r.endFrame = some .rollEnd → size = 0)) ∧
      (∀ t f n p, j.body = .indexTo t f n p → j.body.code = 6 ∧ tail = [] ∧
        part = wireOpt 2 f ++ wire 2 (n.getD s.index.entries.length) ++ wire 3 (p.getD s.index.frontier))) ∧
    (∀ r : CaptureRecord, capturedBody r =
      [0xC0, 0x00] ++ wire 1 r.job ++ wire 1 (r.item.getD 0) ++ wire 2 r.frame ++ wire 2 r.address.batch ++
        wire 2 r.address.document ++ wire 2 r.address.page ++ wire 3 r.t ++ wire 2 r.lens ++
        [r.kind.code, r.outcome.code, r.reason.code]) ∧
    noticeBody .fault s = [0xC2, 0x00] ++ wireFlag s.fault.halted ++ wireCode Cause.code s.fault.cause ++
      wireOpt 3 s.fault.position ++ wireFlag s.fault.later ∧
    noticeBody .rollState s = [0xC3, 0x00, s.transport.state.code, s.transport.reference.code] ++
      wire 3 s.transport.position ++ wireOpt 3 s.transport.rollEnd ++ wireFlag s.transport.broken ++
      wireFlag s.transport.leaderMissing ∧
    noticeBody .indexProgress s = [0xC4, 0x00, s.index.state.code] ++ wire 2 s.index.entries.length ++
      wire 3 s.index.frontier ++ wire 1 (s.index.segments.countP (·.verified)) ∧
    noticeBody .dispute s = [0xC5, 0x00] ++ wire 2 s.index.disputeCount ++
      wireOpt 2 (s.index.lastDispute.map (·.frame)) ++ wire 1 ((s.index.lastDispute.map (·.recorded)).getD 0) ++
      wire 1 ((s.index.lastDispute.map (·.observed)).getD 0) ∧
    ([.empty, .threading, .referencing, .ready, .moving, .tensioning, .resting, .rewinding, .halted] : List TransportState).map
      (·.code) = [0, 1, 2, 3, 4, 5, 6, 7, 8] ∧
    ([.exact, .drifted, .lost] : List Reference).map (·.code) = [0, 1, 2] ∧
    ([.slack, .taut] : List Tension).map (·.code) = [0, 1] ∧
    ([.idle, .verifying, .indexing] : List TrackerMode).map (·.code) = [0, 1, 2] ∧
    ([.empty, .growing, .complete, .frozenFull, .frozenAddress] : List IndexState).map (·.code) = [0, 1, 2, 3, 4] ∧
    ([.unhomed, .homing, .idle, .slewing, .searching, .faulted] : List LensState).map (·.code) = [0, 1, 2, 3, 4, 5] ∧
    ([.search, .master] : List PointSource).map (·.code) = [1, 2] ∧
    ([.ready, .waitAnswer, .notReady] : List Handshake).map (·.code) = [0, 1, 2] ∧
    ([.cameraBusy, .ringFull, .lensLate] : List MissReason).map (·.code) = [1, 2, 3] ∧
    ([.none, .captured, .missed, .failed] : List CaptureState).map (·.code) = [0, 1, 2, 3] ∧
    ([.run, .stationary, .revisit] : List CaptureKind).map (·.code) = [1, 2, 3] ∧
    ([.done, .fail] : List CaptureOutcome).map (·.code) = [1, 2] ∧
    ([.none, .camera, .noAnswer] : List FailReason).map (·.code) = [0, 1, 2] ∧
    ([.internal, .urgent, .normal, .background] : List QClass).map (·.code) = [1, 2, 3, 4] ∧
    ([.seek, .item, .run, .index, .rescan, .reference, .readAhead] : List QKind).map (·.code) = [1, 2, 3, 4, 5, 6, 7] ∧
    (∀ n, ([.job n, .tracker, .transport, .arbiter] : List Requester).map (·.code) = [1, 2, 3, 4]) ∧
    ([.approach, .runUp, .main, .reverse, .forward, .reference] : List Leg).map (·.code) = [1, 2, 3, 4, 5, 6] ∧
    ([.up, .down] : List Elevator).map (·.code) = [0, 1] ∧
    ([.reached, .clamped, .rollEnd, .stopped] : List MoveOutcome).map (·.code) = [1, 2, 3, 4] ∧
    ([.queued, .resolving, .running, .suspended, .revisiting, .done, .part, .failed, .cancelled] : List JobState).map
      (·.code) = [1, 2, 3, 4, 5, 0x10, 0x11, 0x12, 0x13] ∧
    ([.pending, .captured, .notFound, .missed, .failed, .cancelled] : List ItemOutcome).map (·.code) = [0, 1, 2, 3, 4, 5] ∧
    ([.filmBreak, .capstanStall, .tensionRange, .lensFault, .operatorStop] : List Cause).map (·.code) = [1, 2, 3, 4, 5] ∧
    ([.none, .notFound, .range, .frozen, .limit, .noRoll, .threadFail, .noLeader, .cancelled, .fault .filmBreak,
      .fault .capstanStall, .fault .tensionRange, .fault .lensFault, .fault .operatorStop] : List EndReason).map (·.code) =
      [0, 1, 2, 3, 4, 5, 6, 7, 8, 0x11, 0x12, 0x13, 0x14, 0x15] ∧
    ([none, some .a, some .b, some .c] : List (Option LinkId)).map linkCode = [0, 1, 2, 3]

/-- GET_ENTRIES answers with the index figures, the segment record and up to `count` entries from frame n, or OUT_OF_RANGE with the
figures alone (R63). FIND_ADDRESS answers with the entry of exactly that address; below the first entry, between two entries, or above the
last of a COMPLETE or FROZEN index it is NOT_FOUND with the frame below, if any; past the last entry of an index that still grows it is
BEYOND with the last frame; with no entries BEYOND at or above start_address while the index grows, else NOT_FOUND (R62, R64; below
start_address this is log 16). The data of a FIND_ADDRESS reply carry no frontier: they are laid out as R196 has them, where R57 says that
it is reported there, and that is the model's choice between the two (log 44). The bytes of an entry (R198) and of a segment record
(R196). -/
def Obligations.IndexRead : Prop :=
  ∀ (l : LinkId) (tag : Byte) (s : State),
    (Listens l s →
      (∀ (n : BitVec 16) (count : Byte), n.toNat ≤ 16383 → 1 ≤ count.toNat → count.toNat ≤ 8 →
        (n.toNat < s.index.entries.length →
          exec (.getEntries l tag n count) s = .next (replied l 0x84 tag .ok
            (be16 s.index.entries.length ++ [s.index.state.code] ++ be24 s.index.frontier ++
              segmentRecord (n.toNat / 256) s.index ++ be8 (min count.toNat (s.index.entries.length - n.toNat)) ++
              entriesFrom n.toNat ((s.index.entries.drop n.toNat).take count.toNat)) s)) ∧
        (s.index.entries.length ≤ n.toNat →
          exec (.getEntries l tag n count) s = .next (replied l 0x84 tag .outOfRange
            (be16 s.index.entries.length ++ [s.index.state.code] ++ be24 s.index.frontier) s))) ∧
      (∀ (b d p : BitVec 16) (a : Address), b ≠ 0 → d ≠ 0 → p ≠ 0 → a = ⟨b.toNat, d.toNat, p.toNat⟩ →
        (s.index.entries.Pairwise fun x y => x.address.lt y.address = true) →
        (∀ n e, s.index.entries[n]? = some e → e.address = a →
          exec (.findAddress l tag b d p) s = .next (replied l 0x85 tag .ok
            (be16 s.index.entries.length ++ [s.index.state.code] ++ entryBytes n e) s)) ∧
        (∀ x, s.index.entries.head? = some x → a.lt x.address = true →
          exec (.findAddress l tag b d p) s = .next (replied l 0x85 tag .notFound
            (be16 s.index.entries.length ++ [s.index.state.code] ++ [0x01, 0xFF, 0xFF]) s)) ∧
        (∀ n x y, s.index.entries[n]? = some x → s.index.entries[n + 1]? = some y →
          x.address.lt a = true → a.lt y.address = true →
          exec (.findAddress l tag b d p) s = .next (replied l 0x85 tag .notFound
            (be16 s.index.entries.length ++ [s.index.state.code] ++ [0x01] ++ be16 n) s)) ∧
        (∀ n e, s.index.entries.getLast? = some e → s.index.entries.length = n + 1 → e.address.lt a = true →
          (s.index.state = .growing →
            exec (.findAddress l tag b d p) s = .next (replied l 0x85 tag .notFound
              (be16 s.index.entries.length ++ [s.index.state.code] ++ [0x02] ++ be16 n) s)) ∧
          (s.index.state = .complete ∨ s.index.state = .frozenFull ∨ s.index.state = .frozenAddress →
            exec (.findAddress l tag b d p) s = .next (replied l 0x85 tag .notFound
              (be16 s.index.entries.length ++ [s.index.state.code] ++ [0x01] ++ be16 n) s))) ∧
        (s.index.entries = [] →
          (s.index.state = .empty ∨ s.index.state = .growing → a.lt s.transport.profile.startAddress = false →
            exec (.findAddress l tag b d p) s = .next (replied l 0x85 tag .notFound
              ([0x00, 0x00, s.index.state.code, 0x02, 0xFF, 0xFF]) s)) ∧
          (a.lt s.transport.profile.startAddress = true ∨ s.index.state = .complete ∨ s.index.state = .frozenFull ∨
              s.index.state = .frozenAddress →
            exec (.findAddress l tag b d p) s = .next (replied l 0x85 tag .notFound
              ([0x00, 0x00, s.index.state.code, 0x01, 0xFF, 0xFF]) s))))) ∧
    (∀ n es, entriesFrom n es = (es.zipIdx n).flatMap fun x => entryBytes x.2 x.1) ∧
    (∀ (n : Nat) (e : Entry), entryBytes n e =
      wire 2 n ++ wire 3 e.low ++ wire 3 e.high ++ wire 2 e.address.batch ++ wire 2 e.address.document ++
      wire 2 e.address.page ++ wire 1 e.markLevel ++
      wire 2 (e.flags.noMark.toNat + 2 * e.flags.multiMark.toNat + 4 * e.flags.markLong.toNat +
        8 * e.flags.markDispute.toNat + 16 * e.flags.pitchOdd.toNat + 32 * e.flags.pitchClamp.toNat +
        64 * e.flags.gapBefore.toNat + 128 * e.flags.splice.toNat + 256 * e.flags.spliceUnlisted.toNat +
        512 * e.flags.noise.toNat + 1024 * e.flags.overlong.toNat + 2048 * e.flags.rescanned.toNat +
        4096 * e.flags.focusWeak.toNat) ++
      wire 3 e.gapLength ++ wire 1 e.missing ++ [e.captureState.code] ++ wire 1 e.captureCount ++
      wireOpt 2 e.lastFocusStep) ∧
    (∀ (n : Nat) (sg : Segment), s.index.segments[n]? = some sg →
      segmentRecord n s.index = wire 1 n ++ wireFlag sg.verified ++ [linkCode sg.link] ++ wire 2 sg.verifiedAt) ∧
    (be16 s.index.entries.length = wire 2 s.index.entries.length ∧ be24 s.index.frontier = wire 3 s.index.frontier ∧
      ∀ n, be8 n = wire 1 n)

/-- SET_PROFILE: WRONG_STATE with the index not EMPTY; PROFILE_INVALID where a check fails; otherwise the profile is replaced whole, P16
set and the open candidate discarded, a repetition of the profile in force changing nothing (R2, R3). That the rescan budget is brought down
to the new rescan_limit is the model's reading (log 58). -/
def Obligations.ProfileSet : Prop :=
  ∀ (l : LinkId) (tag : Byte) (r : ProfileRecord) (s : State), Listens l s →
    (s.index.state ≠ .empty → exec (.setProfile l tag r) s = .next (replied l 0x83 tag .wrongState [] s)) ∧
    (s.index.state = .empty → checkProfile r = none →
      exec (.setProfile l tag r) s = .next (replied l 0x83 tag .profileInvalid [] s)) ∧
    (∀ p, s.index.state = .empty → checkProfile r = some p → p ≠ s.transport.profile →
      exec (.setProfile l tag r) s = .next (replied l 0x83 tag .ok []
        { s with transport := { s.transport with profile := p },
                 tracker := { s.tracker with p16 := 16 * p.pitchNominal, candidate := none,
                                             budget := min s.tracker.budget p.rescanLimit } })) ∧
    (s.index.state = .empty → checkProfile r = some s.transport.profile →
      exec (.setProfile l tag r) s = .next (replied l 0x83 tag .ok [] s))

/-- A profile record passes the check just when each field lies in its range of 1.2 and the cross-field checks hold (R2). -/
def Obligations.ProfileRanges : Prop :=
  ∀ r : ProfileRecord, checkProfile r = some (profileOf r) ↔
    (r.filmWidth.toNat = 16 ∨ r.filmWidth.toNat = 35) ∧
    800 ≤ r.pitchMin.toNat ∧ r.pitchMin.toNat ≤ r.pitchNominal.toNat ∧ r.pitchNominal.toNat ≤ r.pitchMax.toNat ∧
    r.pitchMax.toNat ≤ 12000 ∧
    400 ≤ r.imageMin.toNat ∧ r.imageMin.toNat < r.imageMax.toNat ∧ r.imageMax.toNat + 1 ≤ r.pitchMax.toNat ∧
    1 ≤ r.markMin.toNat ∧ r.markMin.toNat < r.mark12.toNat ∧ r.mark12.toNat < r.mark23.toNat ∧
    r.mark23.toNat < r.markMax.toNat ∧ r.markMax.toNat ≤ 2000 ∧
    1 ≤ r.startBatch.toNat ∧ 1 ≤ r.startDocument.toNat ∧ 1 ≤ r.startPage.toNat ∧
    r.pitchMax.toNat + 400 ≤ r.axisOffset.toNat ∧ r.axisOffset.toNat ≤ 20000 ∧
    16 ≤ r.slipTol.toNat ∧ r.slipTol.toNat ≤ 200 ∧ r.rescanLimit.toNat ≤ 3 ∧
    -200 ≤ r.spliceFocusOffset.toInt ∧ r.spliceFocusOffset.toInt ≤ 200 ∧ r.defaultFocus.toNat ≤ 4095 ∧
    5000 ≤ r.focusReach.toNat ∧ r.focusReach.toNat ≤ 200000 ∧ 10 ≤ r.captureSpeed.toNat ∧
    r.captureSpeed.toNat ≤ 100 ∧ 50 ≤ r.answerLimit.toNat ∧ r.answerLimit.toNat ≤ 1000 ∧
    1 ≤ r.holdTime.toNat ∧ r.holdTime.toNat ≤ 600 ∧ (r.readAhead = 0 ∨ r.readAhead = 1)

/-- SET_FOCUS_POINT places a MASTER point unless the transport is EMPTY, CLEAR_FOCUS_MAP empties the map; neither changes anything
else but the link units (R81, R82). -/
def Obligations.FocusMapSet : Prop :=
  ∀ (l : LinkId) (tag : Byte) (position : BitVec 24) (lens : BitVec 16) (s : State), Listens l s →
    position.toNat ≤ 16000000 → lens.toNat ≤ 4095 →
    (s.transport.state ≠ .empty → ∀ m,
      m = placePoint { position := position.toNat, lens := lens.toNat, source := .master } s.focus.map →
      exec (.setFocusPoint l tag position lens) s =
        .next (replied l 0x87 tag .ok (be8 m.length) { s with focus := { s.focus with map := m } })) ∧
    (s.transport.state = .empty →
      exec (.setFocusPoint l tag position lens) s = .next (replied l 0x87 tag .wrongState [] s)) ∧
    exec (.clearFocusMap l tag) s =
      .next (replied l 0x88 tag .ok [] { s with focus := { s.focus with map := [] } })

/-- VERIFY_SEGMENT and UNVERIFY_SEGMENT by their checks in order (R66, R67): the segment record alone changes, beside the input levels
that UNVERIFY_SEGMENT carries (`takeLevels`, log 2). -/
def Obligations.SegmentsVerified : Prop :=
  ∀ (l : LinkId) (tag seg : Byte) (lv : Levels) (sg : Segment) (held : Nat) (s : State), Listens l s →
    seg.toNat < 64 → s.index.segments[seg.toNat]? = some sg →
    held = min 256 (s.index.entries.length - 256 * seg.toNat) →
    (held < 256 → held = 0 ∨ (s.index.state = .empty ∨ s.index.state = .growing) →
      exec (.verifySegment l tag seg) s = .next (replied l 0x89 tag .incomplete [] s)) ∧
    (held = 256 ∨ 0 < held ∧ (s.index.state = .complete ∨ s.index.state = .frozenFull ∨ s.index.state = .frozenAddress) →
      (∀ k, sg.verified = true → sg.link = some k → k ≠ l →
        exec (.verifySegment l tag seg) s = .next (replied l 0x89 tag .notOwner [] s)) ∧
      (sg.verified = false ∨ sg.link = none ∨ sg.link = some l → ∀ sg' : Segment,
        sg' = { verified := true, link := some l, verifiedAt := held } →
        exec (.verifySegment l tag seg) s = .next (replied l 0x89 tag .ok (segmentBytes seg.toNat sg')
          { s with index := { s.index with segments := s.index.segments.set seg.toNat sg' } }))) ∧
    (lv.protectKey = true → exec (.unverifySegment l tag seg lv) s =
      .next (replied l 0x8A tag .guarded [] (takeLevels lv s))) ∧
    (lv.protectKey = false → sg.verified = false → exec (.unverifySegment l tag seg lv) s =
      .next (replied l 0x8A tag .wrongState [] (takeLevels lv s))) ∧
    (∀ k, lv.protectKey = false → sg.verified = true → sg.link = some k → k ≠ l →
      exec (.unverifySegment l tag seg lv) s = .next (replied l 0x8A tag .notOwner [] (takeLevels lv s))) ∧
    (lv.protectKey = false → sg.verified = true → sg.link = none ∨ sg.link = some l → ∃ u,
      exec (.unverifySegment l tag seg lv) s = .next (replied l 0x8A tag .ok (segmentBytes seg.toNat {}) u) ∧
        u = { takeLevels lv s with index := { s.index with segments := s.index.segments.set seg.toNat {} } })

/-- TRUNCATE_INDEX by its checks in order (R70): PROTECT, n at or above the entry count, a verified segment, an open job, the ring or the
outstanding trigger that holds a frame at or above n, a tracker INDEXING or a RESCAN queued or current refuse it. Accepted with the film
not moving it removes entries n and above, with the records of the last dispute and the last miss where they name a removed frame; the
index is GROWING, the frontier is the low edge of the old entry n, and the tracker is realigned on the new last entry; transport, focus,
jobs and fault record stay (R71, R53). The input levels the row carries are taken with it (`takeLevels`, log 2). The order of a step's
effects is the model's (log 8). -/
def Obligations.IndexTruncated : Prop :=
  ∀ (l : LinkId) (tag : Byte) (n : BitVec 16) (lv : Levels) (e : Entry) (s : State) (refused : Result → Prop),
    Listens l s → n.toNat ≤ 16383 →
    (∀ r, refused r ↔ exec (.truncateIndex l tag n lv) s = .next (replied l 0x8B tag r [] (takeLevels lv s))) →
    (lv.protectKey = true → refused .guarded) ∧
    (lv.protectKey = false → s.index.entries.length ≤ n.toNat → refused .outOfRange) ∧
    (lv.protectKey = false → n.toNat < s.index.entries.length →
      (∀ (k : Nat) sg, s.index.segments[k]? = some sg → sg.verified = true → 256 * k < s.index.entries.length →
        n.toNat < 256 * (k + 1) → refused .guarded) ∧
      ((∀ sg ∈ s.index.segments, sg.verified = false) →
        (∀ j ∈ s.jobs.slots, j.isOpen = true →
          ((∃ t o p k, j.body = .seek t (some k) o p ∧ n.toNat ≤ k) ∨
            (∃ is, j.body = .fetch is ∧ ∃ i ∈ is, ∃ k, i.resolved = some k ∧ n.toNat ≤ k) ∨
            (∃ r, j.body = .sweep r ∧
              (r.endFrame = some .rollEnd ∨ ∃ k, n.toNat ≤ k ∧
                (r.fromFrame = some k ∨ r.nextFrame = some k ∨ r.endFrame = some (.frame k) ∨
                  ∃ fs, s.capture.revisitOf j.number = some fs ∧ k ∈ fs)))) → refused .inUse) ∧
        ((∀ j ∈ s.jobs.slots, j.isOpen = false) →
          ((∃ r ∈ s.capture.ring, n.toNat ≤ r.frame) ∨
            (∃ lim shot, s.capture.outstanding = some (.capture lim shot) ∧ n.toNat ≤ shot.trigger.frame) →
            refused .inUse) ∧
          (s.capture.ring = [] → s.capture.outstanding = none →
            (s.tracker.mode = .indexing ∨ (∃ q ∈ s.arbiter.queue, q.requester = .tracker) ∨
              (∃ c, s.arbiter.current = some c ∧ c.requester = .tracker)) → refused .busy)))) ∧
    (lv.protectKey = false → s.index.entries[n.toNat]? = some e → (∀ sg ∈ s.index.segments, sg.verified = false) →
      (∀ j ∈ s.jobs.slots, j.isOpen = false) → s.capture.ring = [] → s.capture.outstanding = none →
      s.tracker.mode ≠ .indexing → s.arbiter.queue = [] → s.arbiter.current = none → s.transport.state ≠ .moving →
      ∃ u, exec (.truncateIndex l tag n lv) s =
          .next (replied l 0x8B tag .ok (be16 n.toNat ++ be24 e.low) (settleBlocks u)) ∧
        u = { takeLevels lv s with index := u.index, tracker := u.tracker, capture := u.capture, links := u.links } ∧
        u.index = { s.index with
          entries := s.index.entries.take n.toNat, state := .growing, frontier := e.low,
          lastDispute := if s.index.lastDispute.any fun d => n.toNat ≤ d.frame then none else s.index.lastDispute } ∧
        u.capture = { s.capture with lastMiss := u.capture.lastMiss } ∧
        (∀ k why, s.capture.lastMiss = some (k, why) →
          u.capture.lastMiss = if k < n.toNat then some (k, why) else none) ∧
        u.tracker.eLast = (u.index.entries.getLast?.map fun x => x.low) ∧
        u.tracker.counters = (u.index.entries.getLast?.map fun x => x.address) ∧ u.tracker.candidate = none ∧
        u.tracker.parked = none ∧ u.tracker.missAccepted = false ∧
        u.tracker.budget = s.transport.profile.rescanLimit ∧ u.tracker.pendingNoise = false ∧
        u.tracker.pendingSplice = false ∧ u.tracker.p16 = s.tracker.p16 ∧ u.tracker.splices = s.tracker.splices)

/-- SET_NOTICE_MASK sets the mask of the requesting link alone and reports it with the pending flags (R179). -/
def Obligations.NoticeMaskSet : Prop :=
  ∀ (l : LinkId) (tag mask : Byte) (s : State), Listens l s → mask.toNat < 16 →
    ∃ u, exec (.setNoticeMask l tag mask) s =
        .next (replied l 0x8C tag .ok (mask :: be8 (s.link l).flags.bits) u) ∧
      OnlyLinks s u ∧ (∀ k, k ≠ l → u.link k = s.link k) ∧
      u.link l = { s.link l with mask := { fault := mask.getLsbD 0, rollState := mask.getLsbD 1,
                                           indexProgress := mask.getLsbD 2, dispute := mask.getLsbD 3 } }

/-- CLEAR_FAULT by its checks in order (R167): not halted, STOP held, a FILM_BREAK with film-present clear, a lens FAULTED off its home
switch, and a FILM_BREAK with a record in the ring or a trigger outstanding refuse it. Accepted, the record is cleared, the reels go slack
in RESTING or EMPTY by film-present, the lens is UNHOMED and arbitration restarts (R168); in RESTING reference is LOST after FILM_BREAK
and CAPSTAN_STALL, and else DRIFTED, or LOST if it was LOST (R169). After FILM_BREAK the index is cut at the position at fault less 2
pitch_max: the first entry whose high edge reaches it goes with all above it, and a segment left with fewer than 256 entries is unverified
(R72). The levels the row carries are taken with it (`takeLevels`, log 2). As arbitration restarts in RESTING with reference LOST,
leader_missing clear, and an entry in the queue or READ_AHEAD due, the REFERENCE is placed, and blocked is clear (R133, R169, R127; log
60). The order of a step's effects is the model's (log 8). -/
def Obligations.FaultCleared : Prop :=
  ∀ (l : LinkId) (tag : Byte) (lv : Levels) (q s : State) (refused : Result → Prop) (taken : State → Prop),
    Listens l s → q = takeLevels lv s →
    (∀ r, refused r ↔ exec (.clearFault l tag lv) s = .next (replied l 0x8D tag r (faultBytes s.fault) q)) →
    (∀ v, taken v ↔ exec (.clearFault l tag lv) s =
        .next (replied l 0x8D tag .ok (faultBytes s.fault) (settleBlocks (restart v))) ∧
      v.fault = { halted := false, cause := none, position := none, later := false }) →
    (s.fault.halted = false → refused .wrongState) ∧
    (s.fault.halted = true → lv.stop = true → refused .conditionPresent) ∧
    (s.fault.halted = true → lv.stop = false → s.fault.cause = some .filmBreak →
      lv.filmPresent = false → refused .conditionPresent) ∧
    (s.fault.halted = true → lv.stop = false →
      (s.fault.cause = some .filmBreak → lv.filmPresent = true) →
      (s.focus.state = .faulted → lv.homeSwitch = false → refused .conditionPresent) ∧
      (s.focus.state ≠ .faulted ∨ lv.homeSwitch = true → s.fault.cause = some .filmBreak →
        s.capture.ring ≠ [] ∨ s.capture.outstanding ≠ none → refused .busy) ∧
      (s.focus.state ≠ .faulted ∨ lv.homeSwitch = true →
        (s.fault.cause = some .filmBreak → s.capture.ring = [] ∧ s.capture.outstanding = none) →
        ∃ v, taken v ∧ v.transport.tension = .slack ∧ v.focus.state = .unhomed ∧ v.focus.lens = none ∧
          (lv.filmPresent = true → v.transport.state = .resting ∧
            v.transport.position = s.transport.position ∧
            (s.fault.cause = some .filmBreak ∨ s.fault.cause = some .capstanStall → v.transport.reference = .lost) ∧
            (s.fault.cause ≠ some .filmBreak → s.fault.cause ≠ some .capstanStall →
              v.transport.reference = (if s.transport.reference = .lost then .lost else .drifted)) ∧
            (∀ (p : Nat) (th : Int), s.fault.cause = some .filmBreak → s.fault.position = some p →
              s.tracker.mode ≠ .indexing → th = (p : Int) - 2 * s.transport.profile.pitchMax →
              (∀ (k : Nat) e, s.index.entries[k]? = some e → th ≤ e.high →
                (∀ (i : Nat) x, i < k → s.index.entries[i]? = some x → (x.high : Int) < th) →
                v.index.entries = s.index.entries.take k ∧ v.index.frontier = e.low) ∧
              ((∀ e ∈ s.index.entries, (e.high : Int) < th) → v.index.entries = s.index.entries ∧
                (v.index.frontier : Int) = max 0 (min (s.index.frontier : Int) th)) ∧
              (∀ (i : Nat) sg, v.index.segments[i]? = some sg → v.index.entries.length < 256 * (i + 1) → sg = {}) ∧
              v.focus.map = s.focus.map.filter fun x => (x.position : Int) < th)) ∧
          (lv.filmPresent = false → v.transport.state = .empty ∧ v.transport.position = 0 ∧
            v.transport.reference = .lost ∧ v.index.entries = []))) ∧
    (∀ v : State, v.transport.state = .resting → v.transport.reference = .lost → v.transport.leaderMissing = false →
      v.arbiter.entryOf .transport = none →
      v.arbiter.queue ≠ [] ∧ (v.arbiter.entryOf .arbiter ≠ none → readAheadWanted v = true) ∨
        v.transport.profile.readAhead = true ∧ v.index.state = .growing →
      ∃ e, (restart v).arbiter.entryOf .transport = some e ∧ e.cls = .internal ∧ e.kind = .reference ∧
        (restart v).arbiter.blocked = false)

/-! ### Jobs -/

/-- CANCEL_JOB: NO_JOB, NOT_OWNER and WRONG_STATE change nothing; otherwise the job ends CANCELLED, its motion is withdrawn, and its
JOB_DONE waits on its link (R155, R154). A LOAD or UNLOAD so ended clears roll_claim; one under way leaves reference LOST, and the
transport EMPTY from THREADING, RESTING with the reels slack from TENSIONING, and from REFERENCING or REWINDING with the drives off until
the film is at rest (R19; the end at once is log 10); one that had not started leaves the transport as it was. The order of a step's
effects is the model's (log 8). -/
def Obligations.JobCancelled : Prop :=
  ∀ (l : LinkId) (tag job : Byte) (s : State), Listens l s → job ≠ 0 → JobsSound s →
    (findJob job.toNat s = none → exec (.cancelJob l tag job) s = .next (replied l 0x8E tag .noJob [] s)) ∧
    (∀ j, findJob job.toNat s = some j →
      (j.link ≠ l → exec (.cancelJob l tag job) s = .next (replied l 0x8E tag .notOwner [] s)) ∧
      (j.link = l → j.isOpen = false → exec (.cancelJob l tag job) s = .next (replied l 0x8E tag .wrongState [] s)) ∧
      (j.link = l → j.isOpen = true → j.body.isRoll = false → ∃ u,
        exec (.cancelJob l tag job) s = .next (replied l 0x8E tag .ok [job, j.state.code] (settleBlocks u)) ∧
          (∃ k, findJob job.toNat u = some k ∧ k.state = .cancelled ∧ k.endReason = .cancelled ∧ k.link = l) ∧
          u.arbiter.entryOf (.job job.toNat) = none ∧ job.toNat ∈ (u.link l).jobDone ∧
          jobNumbers u = jobNumbers s ∧ u.transport.position = s.transport.position ∧ u.fault = s.fault) ∧
      (j.link = l → j.isOpen = true → j.body.isRoll = true → ∃ u,
        exec (.cancelJob l tag job) s = .next (replied l 0x8E tag .ok [job, j.state.code] (settleBlocks u)) ∧
          (∃ k, findJob job.toNat u = some k ∧ k.state = .cancelled ∧ k.endReason = .cancelled ∧ k.link = l) ∧
          u.arbiter.rollClaim = false ∧ job.toNat ∈ (u.link l).jobDone ∧ jobNumbers u = jobNumbers s ∧ u.fault = s.fault ∧
          u.transport.profile = s.transport.profile ∧
          (j.state ≠ .running → (∀ c, s.arbiter.current = some c → c.requester ≠ .job job.toNat) →
            u.transport = s.transport) ∧
          (j.state = .running → s.transport.state = .threading →
            u.transport.state = .empty ∧ u.transport.reference = .lost ∧ u.transport.position = 0 ∧
              u.transport.drive = none ∧ u.transport.threadLimit = false) ∧
          (j.state = .running → s.transport.state = .tensioning →
            u.transport.state = .resting ∧ u.transport.reference = .lost ∧ u.transport.tension = .slack ∧
              u.transport.roll = none ∧ u.transport.move = none ∧ u.transport.tensionLimit = false ∧
              u.transport.position = s.transport.position) ∧
          (j.state = .running → s.transport.state = .referencing ∨ s.transport.state = .rewinding →
            u.transport.state = s.transport.state ∧ u.transport.cancelling = true ∧ u.transport.reference = .lost ∧
              u.transport.drive = none ∧ u.transport.search = none ∧ u.transport.roll = none ∧
              u.transport.position = s.transport.position)))

/-- A job request that passes its checks completes: it is answered OK with its number, a job of that number is in the table after the whole
step, the counter names the number after it, and the position count, the fault record and the profile are as before (R134 to R137, R180).
The six job requests, each with its own checks (R15, R20, R137); the order test of a SWEEP's bounds as they resolve is not made while
HALTED (R137). What the acceptance leaves, before the rest of the step is settled (the order is the model's, log 8), is said of the state
`u`: the job is of the requesting link and of the request's kind, with its urgent flag and focus policy, a SWEEP with its revisit setting
and tallies at 0, and with an empty revisit list while it is open (R93), and with the target fields in their order, read by their type
(R193, R194). Accepted while HALTED it is QUEUED, waits for the clear and submits no motion; else a SEEK, FETCH or INDEX_TO has started,
and so has a SWEEP: QUEUED with a NORMAL RUN entry, its bounds resolved and next_frame at from_frame, RESOLVING with an INDEX entry, or
FAILED (R138, R148, R149). A LOAD or UNLOAD is QUEUED with roll_claim set (R139). That UNLOAD_ROLL is accepted in REWINDING with no job
open is the model's choice (log 50). LOAD_ROLL carries the film-present level it is checked against (log 2). -/
def Obligations.JobsAccepted : Prop :=
  ∀ (l : LinkId) (tag flags : Byte) (lv : Levels) (x y : TargetField) (items : List TargetField) (s : State)
    (reads : TargetField → Target → Prop) (accepted : Instr → Byte → Byte → Bool → Bool → (Job → State → Prop) → Prop),
    Listens l s → openOf l s < 2 → s.jobs.slots.length < 6 →
    (∀ f g, reads f g ↔ (f.code = 1 → g = .frame f.w0.toNat) ∧
      (f.code = 2 → g = .address ⟨f.w0.toNat, f.w1.toNat, f.w2.toNat⟩) ∧ (f.code = 3 → g = .rollEnd)) →
    (∀ c kind code urgent search held, accepted c kind code urgent search held ↔
      ∃ u t, t = settleBlocks u ∧ exec c s = .next (replied l kind tag .ok (be8 (newNumber s)) t) ∧
        jobNumbers t = jobNumbers s ++ [newNumber s] ∧ t.jobs.counter = nextNumber (newNumber s) ∧
        t.transport.position = s.transport.position ∧ t.fault = s.fault ∧ t.transport.profile = s.transport.profile ∧
        ∃ j, findJob (newNumber s) u = some j ∧ j.link = l ∧ j.body.code = code ∧ j.urgent = urgent ∧ j.search = search ∧
          held j u ∧
          (s.fault.halted = true → j.state = .queued ∧ j.endReason = .none ∧ j.waitClear = true ∧
            u.arbiter.queue = s.arbiter.queue) ∧
          (s.fault.halted = false → j.waitClear = false ∧ (code = 3 ∨ code = 4 ∨ code = 6 → j.state ≠ .queued))) →
    (s.index.state = .empty → (s.transport.state = .empty → lv.filmPresent = true) →
      s.transport.state ≠ .threading → s.transport.state ≠ .rewinding → rollJob s = none →
      accepted (.loadRoll l tag lv) 0xB0 1 false false fun j u =>
        j.body = .load ∧ j.state = .queued ∧ u.arbiter.rollClaim = true) ∧
    (s.transport.state ≠ .empty → (∀ j ∈ s.jobs.slots, j.isOpen = false) → s.capture.ring = [] →
      s.capture.outstanding = none → accepted (.unloadRoll l tag) 0xB1 2 false false fun j u =>
        j.body = .unload ∧ j.state = .queued ∧ u.arbiter.rollClaim = true) ∧
    (s.transport.state ≠ .empty → flags.toNat < 2 → namedTarget x ≠ none →
      accepted (.seekFrame l tag flags x) 0xB2 3 (flags.getLsbD 0) false fun j _ =>
        ∃ a r, j.body = .seek a r none none ∧ reads x a) ∧
    (s.transport.state ≠ .empty → flags.toNat < 4 → 1 ≤ items.length → items.length ≤ 32 →
      (∀ t ∈ items, namedTarget t ≠ none) →
      accepted (.fetch l tag flags items) 0xB3 4 (flags.getLsbD 0) (flags.getLsbD 1) fun j _ =>
        ∃ is : List Item, j.body = .fetch is ∧ is.length = items.length ∧
          ∀ (k : Nat) f i, items[k]? = some f → is[k]? = some i → reads f i.target ∧ i.captures = 0) ∧
    (∀ a b, s.transport.state ≠ .empty → flags.toNat < 4 → namedTarget x = some a → targetOf y = some b →
      boundsOrdered a b = true → s.fault.halted = true ∨ boundsReversed a b s = false →
      accepted (.sweep l tag flags x y) 0xB4 5 false (flags.getLsbD 1) fun j u =>
        ∃ r, j.body = .sweep r ∧ reads x r.fromT ∧ reads y r.toT ∧ r.revisit = flags.getLsbD 0 ∧ r.captured = 0 ∧
          r.revisits = 0 ∧ r.overflow = false ∧
          (j.isOpen = true → flags.getLsbD 0 = true → u.capture.revisitOf (newNumber s) = some []) ∧
          (s.fault.halted = false → j.state = .queued ∨ j.state = .resolving ∨ j.state = .failed) ∧
          (s.fault.halted = false → j.state = .queued → r.fromFrame ≠ none ∧ r.endFrame ≠ none ∧ r.nextFrame = r.fromFrame ∧
            ∃ e, u.arbiter.entryOf (.job (newNumber s)) = some e ∧ e.kind = .run ∧ e.cls = .normal) ∧
          (j.state = .resolving → ∃ e, u.arbiter.entryOf (.job (newNumber s)) = some e ∧ e.kind = .index)) ∧
    (∀ a, s.transport.state ≠ .empty → targetOf y = some a → (∀ n, a ≠ .frame n) →
      accepted (.indexTo l tag 0 y) 0xB5 6 false false fun j _ => ∃ b f n p, j.body = .indexTo b f n p ∧ reads y b)

/-- The number given to an accepted job: the first number from the counter on, 1 after 255, that no job in a slot holds; the counter then
names the number after it, and the reply carries the number (R136). -/
def Obligations.JobNumberGiven : Prop :=
  ∀ (l : LinkId) (o : JobOrder) (s : State), JobsSound s → acceptCheck l o s = .ok →
    ∃ k n : Nat, n = Nat.repeat (fun m => if m = 255 then 1 else m + 1) k s.jobs.counter ∧
      (∀ i, i < k → Nat.repeat (fun m => if m = 255 then 1 else m + 1) i s.jobs.counter ∈ jobNumbers s) ∧
      n ∉ jobNumbers s ∧ 1 ≤ n ∧ n ≤ 255 ∧ (perform l (.job o) s).result = .ok ∧
      (perform l (.job o) s).data = be8 n ∧
      (perform l (.job o) s).state.jobs.counter = (if n = 255 then 1 else n + 1) ∧
      jobNumbers (perform l (.job o) s).state = jobNumbers s ++ [n]

/-- With two open jobs of the link, or with no slot free, a job request is answered NO_SLOT and changes nothing (R135, R137). -/
def Obligations.NoSlotRefused : Prop :=
  ∀ (l : LinkId) (o : JobOrder) (s : State), 2 ≤ openOf l s ∨ s.jobs.slots.length = 6 →
    (perform l (.job o) s).result = .noSlot ∧ (perform l (.job o) s).state = s ∧ (perform l (.job o) s).data = []

/-! ### Transport -/

/-- CAPSTAN_COUNT moves the position count by one in its direction, held at 0 and at the upper limit, and reports no fault; in EMPTY it
has no effect (R4). -/
def Obligations.CapstanCounts : Prop :=
  ∀ s : State,
    (s.transport.state = .empty → ∀ d, exec (.capstanCount d) s = .next s) ∧
    (s.transport.state ≠ .empty → s.transport.position ≤ s.transport.rollEnd.getD 16000000 →
      (∃ t, exec (.capstanCount .forward) s = .next t ∧ t.fault = s.fault ∧ t.transport.profile = s.transport.profile ∧
        t.transport.position = min (s.transport.position + 1) (s.transport.rollEnd.getD 16000000)) ∧
      (∃ t, exec (.capstanCount .reverse) s = .next t ∧ t.fault = s.fault ∧ t.transport.profile = s.transport.profile ∧
        t.transport.position = s.transport.position - 1))

/-- Each detector's first fault sets the fault record: halted, its cause, the position count, later_fault clear (R159; R11, R22 to R25,
R76, R77). -/
def Obligations.FirstFaultRecorded : Prop :=
  ∀ (s : State) (records : Instr → Cause → Prop), s.fault.halted = false →
    (∀ c why, records c why ↔ ∃ t, exec c s = .next t ∧ t.fault = FaultRecord.first why s) →
    (s.transport.stallLimit = true → records .capstanStall .capstanStall) ∧
    (s.transport.persistSupply = true → records (.tensionPersistExpiry .supply) .tensionRange) ∧
    (s.transport.persistTakeUp = true → records (.tensionPersistExpiry .takeUp) .tensionRange) ∧
    (s.transport.state = .tensioning → s.transport.tensionLimit = true → s.pins.supply ≠ .inBand →
      records .tensionLimitExpiry .tensionRange) ∧
    records .stopRise .operatorStop ∧
    (s.focus.state = .homing → s.focus.homeCount = 4500 → records .homingLimit .lensFault) ∧
    (s.focus.state = .homing ∨ s.focus.state = .slewing ∨ s.focus.state = .searching → s.focus.recal = true →
      records .lensStall .lensFault) ∧
    (s.transport.state = .referencing ∨ s.transport.state = .ready ∨ s.transport.state = .moving ∨
        s.transport.state = .tensioning ∨ s.transport.state = .rewinding →
      ∀ side, records (.tensionChange side .breakLow) .filmBreak) ∧
    (s.transport.state = .referencing ∨ s.transport.state = .ready ∨ s.transport.state = .moving ∨
        s.transport.state = .tensioning ∨ s.transport.state = .resting →
      records .filmPresentClear .filmBreak)

/-- A later fault sets later_fault; a more severe cause takes the record's place with its position, any other leaves cause and position
(R160). -/
def Obligations.LaterFaultRanked : Prop :=
  ∀ (c old : Cause) (s : State), s.fault.halted = true → s.fault.cause = some old →
    (reportFault c s).fault.halted = true ∧ (reportFault c s).fault.later = true ∧
    (([.filmBreak, .capstanStall, .tensionRange, .lensFault, .operatorStop] : List Cause).idxOf c <
        ([.filmBreak, .capstanStall, .tensionRange, .lensFault, .operatorStop] : List Cause).idxOf old →
      (reportFault c s).fault.cause = some c ∧ (reportFault c s).fault.position = some s.transport.position) ∧
    (([.filmBreak, .capstanStall, .tensionRange, .lensFault, .operatorStop] : List Cause).idxOf old ≤
        ([.filmBreak, .capstanStall, .tensionRange, .lensFault, .operatorStop] : List Cause).idxOf c →
      (reportFault c s).fault.cause = some old ∧ (reportFault c s).fault.position = s.fault.position)

/-- A first fault halts the transport: HALTED, no move, no drive, every limit stopped; tension released for FILM_BREAK and TENSION_RANGE,
held for the other causes where the film was taut or being made so, slack elsewhere (R26). That a halt in TENSIONING leaves the tension
state TAUT is the model's reading (log 32). The fate of the open jobs: FILM_BREAK ends each FAILED with that cause and makes reference
LOST; another cause ends a LOAD or UNLOAD so, clears roll_claim, and for a LOAD, QUEUED too, makes reference LOST; it makes a RUNNING SWEEP
SUSPENDED, and leaves every other job open in its state (R162, R163, R165, R5). The arbiter's part for a RUN that is current and not
withdrawn: its entry is taken anew, class NORMAL with a new arrival, skip_count 0 and resume set, the holds and the occupancy end (R132);
at its search frame the entry is the ITEM of that frame (R163), resume set too, which is the model's reading (log 35); a run that was
stopping for a rescan is the interrupted entry, the model's choice (log 46). -/
def Obligations.HaltStopsTransport : Prop :=
  ∀ (c : Cause) (s : State), s.fault.halted = false →
    (reportFault c s).transport.state = .halted ∧ (reportFault c s).transport.move = none ∧
    (reportFault c s).transport.drive = none ∧ (reportFault c s).transport.holdTimer = none ∧
    (reportFault c s).transport.tensionLimit = false ∧ (reportFault c s).transport.stallLimit = false ∧
    (reportFault c s).transport.persistSupply = false ∧ (reportFault c s).transport.persistTakeUp = false ∧
    (c = .filmBreak ∨ c = .tensionRange → (reportFault c s).transport.tension = .slack) ∧
    (c ≠ .filmBreak → c ≠ .tensionRange →
      (s.transport.state = .referencing ∨ s.transport.state = .ready ∨ s.transport.state = .moving ∨
          s.transport.state = .tensioning ∨ s.transport.state = .rewinding →
        (reportFault c s).transport.tension = .taut) ∧
      (s.transport.state = .empty ∨ s.transport.state = .threading ∨ s.transport.state = .resting →
        (reportFault c s).transport.tension = .slack)) ∧
    (c = .filmBreak → (reportFault c s).transport.reference = .lost ∧ (reportFault c s).transport.broken = true) ∧
    (∀ n j, JobsSound s → s.capture.holding = none → findJob n s = some j → j.isOpen = true →
      ∃ k, findJob n (reportFault c s) = some k ∧ k.link = j.link ∧
        (c = .filmBreak → k.state = .failed ∧ k.endReason = .fault .filmBreak ∧
          (reportFault c s).arbiter.entryOf (.job n) = none ∧ (reportFault c s).capture.revisitOf n = none ∧
          ∀ is is', j.body = .fetch is → k.body = .fetch is' → ∀ (i : Nat) a b, is[i]? = some a → is'[i]? = some b →
            b.outcome = if a.outcome = .pending then .failed else a.outcome) ∧
        (c ≠ .filmBreak → j.body.isRoll = true →
          (j.waitClear = true → k = j) ∧
          (j.waitClear = false → k.state = .failed ∧ k.endReason = .fault c ∧ (reportFault c s).arbiter.rollClaim = false ∧
            (j.body = .load → (reportFault c s).transport.reference = .lost))) ∧
        (c ≠ .filmBreak → j.body.isRoll = false →
          (j.body.code = 5 → j.state = .running → k = { j with state := .suspended }) ∧
          (j.body.code ≠ 5 ∨ j.state ≠ .running → k = j))) ∧
    (∀ r n, s.arbiter.current = some r → r.requester = .job n → r.kind = .run → r.stop ≠ some .withdrawn →
      s.arbiter.arrival < 65535 →
      (haltArbiter s).arbiter.current = none ∧ (haltArbiter s).arbiter.captureHold = false ∧
      (haltArbiter s).arbiter.searchHold = false ∧ (haltArbiter s).arbiter.yieldCount = 0 ∧
      (haltArbiter s).arbiter.runImmune = false ∧
      (r.stop = some .rescan → (haltArbiter s).arbiter.interrupted = some (.job n)) ∧
      ∃ x, (haltArbiter s).arbiter.entryOf (.job n) = some x ∧ x.cls = .normal ∧ x.arrival = s.arbiter.arrival ∧
        x.skip = 0 ∧ x.resume = true ∧ (r.search = none → x.kind = .run) ∧
        ∀ f, r.search = some f → x.kind = .item ∧ x.frame = some f)

/-- MOVE_COMPLETE with the film at rest after a stop or within 2 counts of the target completes the move with the outcome of R10: STOPPED,
else ROLL_END, else CLAMPED, else REACHED; at rest elsewhere it completes nothing; with nothing driven it has no effect, the model's choice
(log 4). The completion leaves READY with no move and the position as it was. A SEEK motion's last leg ends its job DONE with the outcome
and the position (R143); a move that was stopped leaves its entry queued (R122); the last leg of a job's ITEM, done short of a stop, leaves
the queue and begins the capture at the axis under the capture hold, or with ROLL_END gives it up, the item of a FETCH still PENDING and its
job with an entry again (R108, R122); an INDEX motion's last leg, done short of the position limit, is submitted anew by a job that still
waits (R141). The rest after the turn of a search begins its forward creep (R18); that the direction of travel is forward from then on,
before the first count, is the model's choice (log 17). The rest past the leader edge ends a LOAD DONE and completes a REFERENCE record, in
READY (R17, R21, log 9); the rest after a cancelled LOAD or UNLOAD slackens the reels in RESTING (R19, log 10). The order of a step's
effects is the model's (log 8). -/
def Obligations.MoveOutcomes : Prop :=
  ∀ s : State,
    (s.transport.state ≠ .moving → s.transport.state ≠ .referencing → s.transport.state ≠ .rewinding →
      exec .moveComplete s = .next s) ∧
    (∀ j, s.transport.state = .referencing → s.transport.cancelling = false → s.transport.move = none →
      s.transport.roll = some .load → s.transport.search.map (·.phase) = some .arriving → rollJob s = some j →
      JobsSound s → Settles .moveComplete s fun u => u.transport.state = .ready ∧ u.transport.search = none ∧
        u.transport.roll = none ∧ u.transport.position = s.transport.position ∧ u.arbiter.rollClaim = false ∧
        ∃ k, findJob j.number u = some k ∧ k.state = .done ∧ k.endReason = .none ∧ k.link = j.link) ∧
    (∀ r, s.transport.state = .referencing → s.transport.cancelling = false → s.transport.search = some r →
      (∀ m, s.transport.move = some m → m.stopping = false ∧ m.retargeted = false) →
      (r.phase = .turning → Settles .moveComplete s fun u => u.transport.state = .referencing ∧
        u.transport.search = some { phase := .forward, travel := 0 } ∧ u.transport.travel = .forward ∧
        u.transport.drive.map (fun d => (d.dir, d.speed)) = some (.forward, .creep) ∧
        u.transport.move = s.transport.move ∧ u.transport.position = s.transport.position ∧ u.jobs = s.jobs) ∧
      (∀ m c, r.phase = .arriving → s.transport.roll = none → s.transport.move = some m → s.arbiter.current = some c →
        c.requester = .transport → c.kind = .reference → c.leg = .reference →
        Settles .moveComplete s fun u => u.transport.state = .ready ∧ u.transport.move = none ∧
          u.transport.search = none ∧ u.arbiter.current = none ∧ u.arbiter.entryOf .transport = none ∧
          u.transport.position = s.transport.position ∧ u.transport.reference = s.transport.reference ∧ u.jobs = s.jobs)) ∧
    (s.transport.state = .referencing ∨ s.transport.state = .rewinding → s.transport.cancelling = true →
      Settles .moveComplete s fun u => u.transport.state = .resting ∧ u.transport.tension = .slack ∧
        u.transport.cancelling = false ∧ u.transport.position = s.transport.position ∧
        u.transport.reference = s.transport.reference ∧ OnlyTransport s u) ∧
    (s.transport.state = .rewinding → s.transport.cancelling = false → exec .moveComplete s = .next (settle s)) ∧
    (∀ m, s.transport.state = .moving → s.transport.move = some m →
      (m.stopping = false → s.transport.position > m.target + 2 ∨ m.target > s.transport.position + 2 →
        exec .moveComplete s = .next (settle s)) ∧
      (∀ o, (completeMove o s).transport.position = s.transport.position) ∧
      (∀ o, (m.stopping = true ∧ o = .stopped) ∨
          (m.stopping = false ∧ s.transport.position ≤ m.target + 2 ∧ m.target ≤ s.transport.position + 2 ∧
            o = (if m.retargeted then .rollEnd else if m.clamped then .clamped else .reached)) →
        exec .moveComplete s = .next (settle (completeMove o s)) ∧
        (∀ c n j t r x y, s.arbiter.current = some c → c.requester = .job n → c.kind = .seek → c.leg = .main →
          o ≠ .stopped → JobsSound s → findJob n s = some j → j.isOpen = true → j.body = .seek t r x y →
          (completeMove o s).transport.state = .ready ∧ (completeMove o s).transport.move = none ∧
          (completeMove o s).transport.drive = none ∧ (completeMove o s).arbiter.current = none ∧
          (completeMove o s).arbiter.entryOf (.job n) = none ∧
          ∃ k, findJob n (completeMove o s) = some k ∧ k.state = .done ∧ k.endReason = .none ∧
            k.body = .seek t r (some o) (some s.transport.position)) ∧
        (∀ c, s.arbiter.current = some c → o = .stopped → c.requester ≠ .tracker → c.kind ≠ .run →
          c.stop = none ∨ c.stop = some .lossOfRef ∨ c.stop = some .rollClaim → s.capture.holding = none →
          (completeMove o s).transport.state = .ready ∧ (completeMove o s).transport.move = none ∧
          (completeMove o s).transport.drive = none ∧ (completeMove o s).arbiter.current = none ∧
          (completeMove o s).arbiter.queue = s.arbiter.queue) ∧
        (∀ c n h q, s.arbiter.current = some c → c.requester = .job n → c.kind = .item → c.leg = .main → c.stop = none →
          s.capture.holding = some h → h.phase = .movingToAxis → s.arbiter.entryOf (.job n) = some q → q.kind = .item →
          q.frame = c.frame → o = .reached ∨ o = .clamped →
          (completeMove o s).transport.state = .ready ∧ (completeMove o s).transport.move = none ∧
          (completeMove o s).arbiter.current = none ∧ (completeMove o s).arbiter.entryOf (.job n) = none ∧
          (completeMove o s).arbiter.captureHold = true ∧
          (completeMove o s).capture.holding = some { h with phase := .atAxis }) ∧
        (∀ c n h q j is k i, s.arbiter.current = some c → c.requester = .job n → c.kind = .item → c.leg = .main →
          s.capture.holding = some h → h.trigger.job = n → s.arbiter.entryOf (.job n) = some q → q.kind = .item →
          q.frame = c.frame → o = .rollEnd → JobsSound s → findJob n s = some j → j.isOpen = true → j.body = .fetch is →
          h.trigger.item = some k → is[k - 1]? = some i → i.outcome = .pending → i.resolved ≠ none →
          (completeMove o s).transport.state = .ready ∧ (completeMove o s).transport.move = none ∧
          (completeMove o s).arbiter.current = none ∧ (completeMove o s).arbiter.captureHold = false ∧
          (completeMove o s).capture.holding = none ∧
          (∃ x, (completeMove o s).arbiter.entryOf (.job n) = some x ∧ x.kind = .item) ∧
          ∃ j' is' i', findJob n (completeMove o s) = some j' ∧ j'.state = .running ∧ j'.body = .fetch is' ∧
            is'[k - 1]? = some i' ∧ i'.outcome = .pending ∧ i'.resolved = i.resolved) ∧
        (∀ c n q j, s.arbiter.current = some c → c.requester = .job n → c.kind = .index → c.leg = .main → o ≠ .stopped →
          s.arbiter.entryOf (.job n) = some q → q.kind = .index → q.frame = c.frame → JobsSound s →
          findJob n s = some j → j.state = .resolving ∧ j.body.code ≠ 6 ∨ j.state = .running ∧ j.body.code = 6 →
          s.transport.rollEnd ≠ none ∨ o = .rollEnd ∨ s.transport.position + 2 < 16000000 →
          (completeMove o s).transport.state = .ready ∧ (completeMove o s).arbiter.current = none ∧
          (completeMove o s).jobs = s.jobs ∧
          ∃ x, (completeMove o s).arbiter.entryOf (.job n) = some x ∧ x.kind = .index ∧ x.skip = 0 ∧
            x.cls = (if j.urgent then .urgent else .normal))))

/-- The report that brings both sides to IN_BAND ends TENSIONING: tension is TAUT, the limit stopped, and a LOAD begins its search, an
UNLOAD its rewind, a REFERENCE record its search, and any other record its move, driven toward its target at its speed, forward where the
target is the position count itself (log 56); the take-up side's IN_BAND ends THREADING for the forward search; the expiry of the
threading limit leaves the transport EMPTY at position 0 with reference LOST (R11, R16, R20). The order of a step's effects is the model's
(log 8). -/
def Obligations.TensionReached : Prop :=
  ∀ s : State,
    (s.transport.state = .tensioning → s.pins.takeUp = .inBand → s.transport.roll = some .load →
      Settles (.tensionChange .supply .inBand) s fun u => u.transport.state = .referencing ∧
        u.transport.tension = .taut ∧ u.transport.tensionLimit = false ∧ u.transport.position = s.transport.position ∧
        u.transport.search = some { phase := .reverse, travel := 0 } ∧ u.fault = s.fault) ∧
    (s.transport.state = .tensioning → s.pins.supply = .inBand → s.transport.roll = some .unload →
      Settles (.tensionChange .takeUp .inBand) s fun u => u.transport.state = .rewinding ∧
        u.transport.tension = .taut ∧ u.transport.tensionLimit = false ∧ u.transport.position = s.transport.position ∧
        u.fault = s.fault) ∧
    (∀ m, s.transport.state = .tensioning → s.pins.takeUp = .inBand → s.transport.roll = none →
      s.transport.move = some m → m.stopping = false →
      (m.purpose = .reference → Settles (.tensionChange .supply .inBand) s fun u =>
        u.transport.state = .referencing ∧ u.transport.tension = .taut ∧ u.transport.tensionLimit = false ∧
          u.transport.search = some { phase := .reverse, travel := 0 } ∧ u.transport.move = some m ∧
          u.transport.position = s.transport.position ∧ u.fault = s.fault) ∧
      (m.purpose ≠ .reference →
        (∀ c, s.arbiter.current = some c → c.leg = .runUp ∨ c.leg = .approach →
          m.target > s.transport.position + 2 ∨ s.transport.position > m.target + 2) →
        Settles (.tensionChange .supply .inBand) s fun u =>
          u.transport.state = .moving ∧ u.transport.tension = .taut ∧ u.transport.tensionLimit = false ∧
          u.transport.position = s.transport.position ∧ u.fault = s.fault ∧
          ((∀ c, s.arbiter.current = some c → c.kind ≠ .run) → s.tracker.parked = none →
            (s.transport.reference = .exact → u.transport.move.map (·.target) = some m.target ∧
              ∀ d, u.transport.drive = some d → d.speed = m.speed ∧
                d.dir = (if s.transport.position ≤ m.target then .forward else .reverse)) ∧
            (s.transport.reference ≠ .lost → s.tracker.mode ≠ .indexing →
              s.transport.position ≤ s.index.frontier ∨ m.target < s.transport.position →
              u.transport.reference = s.transport.reference ∧ u.transport.move = some m ∧
              ∃ d, u.transport.drive = some d ∧ d.speed = m.speed ∧
                d.dir = (if s.transport.position ≤ m.target then .forward else .reverse))))) ∧
    (s.transport.state = .threading →
      Settles (.tensionChange .takeUp .inBand) s fun u => u.transport.state = .referencing ∧
        u.transport.tension = .taut ∧ u.transport.threadLimit = false ∧ u.transport.position = s.transport.position ∧
        u.transport.search = some { phase := .forward, travel := 0 } ∧ u.fault = s.fault) ∧
    (s.transport.threadLimit = true →
      Settles .threadLimitExpiry s fun u => u.transport.state = .empty ∧ u.transport.position = 0 ∧
        u.transport.reference = .lost ∧ u.transport.threadLimit = false ∧ u.transport.drive = none ∧
        u.fault = s.fault ∧ jobNumbers u = jobNumbers s ∧ u.transport.profile = s.transport.profile)

/-- The expiry of the hold timer rests the transport: SLACK, RESTING, EXACT made DRIFTED, any other quality kept (R13). The order of a
step's effects is the model's (log 8). -/
def Obligations.HoldTimerRests : Prop :=
  ∀ s : State, s.transport.holdTimer ≠ none → s.transport.state = .ready → s.tracker.mode ≠ .indexing →
    Settles .holdTimerExpiry s fun u => u.transport.state = .resting ∧ u.transport.tension = .slack ∧
      u.transport.holdTimer = none ∧ u.transport.position = s.transport.position ∧ u.fault = s.fault ∧
      u.transport.reference = (if s.transport.reference = .exact then .drifted else s.transport.reference)

/-- LEADER_EDGE in a reference search, of a LOAD or of a REFERENCE record not being stopped or retargeted: with reverse travel the drives
stop and the search turns; with forward travel the position count is 0, reference EXACT and the drives stop; that the search then stays
until the film is at rest is the model's reading (log 9). 200,000 counts of forward travel without it leave the transport RESTING, LOST and
with leader_missing set, and a REFERENCE entry leaves the queue (R17, R18, R21). The order of a step's effects is the model's (log 8). -/
def Obligations.LeaderSearched : Prop :=
  ∀ (r : LeaderSearch) (s : State), s.transport.search = some r →
    (∀ m, s.transport.move = some m → m.stopping = false ∧ m.retargeted = false) →
    (r.phase = .reverse → s.transport.travel = .reverse →
      exec .leaderEdge s = .next (settle { s with transport := { s.transport with
        search := some { r with phase := .turning }, drive := none, stallLimit := false } })) ∧
    (r.phase = .forward → s.transport.travel = .forward → Settles .leaderEdge s fun u =>
      u.transport.position = 0 ∧ u.transport.reference = .exact ∧ u.transport.drive = none ∧
        u.transport.search = some { r with phase := .arriving } ∧ u.fault = s.fault ∧
        ((∀ c, s.arbiter.current = some c → c.requester = .transport ∧ c.kind = .reference) →
          u.transport.move = s.transport.move)) ∧
    (r.phase = .forward → 200000 ≤ r.travel → Settles .leaderSearchLimit s fun u =>
      u.transport.state = .resting ∧ u.transport.reference = .lost ∧ u.transport.leaderMissing = true ∧
        u.transport.tension = .slack ∧ u.transport.drive = none ∧ u.transport.search = none ∧
        u.transport.move = none ∧ u.fault = s.fault ∧
        (s.transport.roll ≠ some .load → u.arbiter.current = none ∧ u.arbiter.entryOf .transport = none))

/-- TAIL_SEEN with the reference EXACT or DRIFTED and no end value at or below the new one: tail_limit is the position less 1,000, and a
move whose target lies above is retargeted to it; one present at or below it discards the report; with the count at or below the new end
value, which is so at position 0 alone, where the value is held at 0 (log 23), roll_end takes it at once. With reference LOST a forward move
is retargeted to the position (R14), also the forward creep of a REFERENCE record (log 52). roll_end takes tail_limit when a count brings
the position to it. In EMPTY, THREADING and REWINDING the report has no effect. The order of a step's effects is the model's (log 8). -/
def Obligations.TailSeenLimits : Prop :=
  ∀ (e : Nat) (s : State),
    (∀ m, s.transport.move = some m →
      (s.transport.state = .moving → m.purpose ≠ .reference →
        s.transport.reference ≠ .lost → s.transport.position = e + 1000 → s.transport.rollEnd = none →
        s.transport.tailLimit = none → Settles .tailSeen s fun u =>
          u.transport.tailLimit = some e ∧ u.transport.rollEnd = none ∧
          (e < m.target → u.transport.move = some { m with target := e, retargeted := true }) ∧
          (m.target ≤ e → u.transport.move = some m) ∧ OnlyTransport s u ∧
          u.transport.position = s.transport.position) ∧
      (s.transport.state = .moving ∨ s.transport.state = .referencing → s.transport.reference = .lost →
        s.transport.travel = .forward → Settles .tailSeen s fun u =>
        u.transport.move = some { m with target := s.transport.position, retargeted := true } ∧
          u.transport.tailLimit = s.transport.tailLimit ∧ u.transport.rollEnd = s.transport.rollEnd ∧
          OnlyTransport s u)) ∧
    (s.transport.state = .empty ∨ s.transport.state = .threading ∨ s.transport.state = .rewinding →
      exec .tailSeen s = .next s) ∧
    (s.transport.state ≠ .empty → s.transport.state ≠ .threading → s.transport.state ≠ .rewinding →
      s.transport.reference ≠ .lost →
      ((∃ r, (s.transport.rollEnd = some r ∨ s.transport.tailLimit = some r) ∧ r ≤ s.transport.position - 1000) →
        exec .tailSeen s = .next (settle s)) ∧
      (s.transport.position = 0 → s.transport.rollEnd ≠ some 0 → s.transport.tailLimit ≠ some 0 →
        Settles .tailSeen s fun u => u.transport.rollEnd = some 0 ∧ u.transport.tailLimit = none ∧
          u.transport.position = 0 ∧ u.fault = s.fault)) ∧
    (s.transport.state ≠ .empty → s.transport.tailLimit = some e → s.transport.position = e + 1 →
      Settles (.capstanCount .reverse) s fun u => u.transport.rollEnd = some e ∧ u.transport.tailLimit = none ∧
        u.transport.position = e ∧ u.fault = s.fault)

/-- Film-present clearing ends the rewind of an UNLOAD: the transport enters EMPTY with position 0 and reference LOST; index, splice
table, focus map, roll end and marks of the roll are cleared, the internal and background entries leave the queue, and the profile is kept
(R20, R27, R60, R73, R116). The order of a step's effects is the model's (log 8). -/
def Obligations.RewindEmpties : Prop :=
  ∀ s : State, s.transport.state = .rewinding → s.transport.roll = some .unload →
    Settles .filmPresentClear s fun u => u.transport.state = .empty ∧ u.transport.position = 0 ∧
      u.transport.reference = .lost ∧ u.transport.tension = .slack ∧ u.transport.rollEnd = none ∧
      u.transport.tailLimit = none ∧ u.transport.broken = false ∧ u.transport.leaderMissing = false ∧
      u.transport.drive = none ∧ u.transport.profile = s.transport.profile ∧ u.index.entries = [] ∧
      u.index.frontier = 0 ∧ u.index.state = .empty ∧ u.tracker.splices = [] ∧ u.focus.map = [] ∧
      (∀ e ∈ u.arbiter.queue, e.requester ≠ .transport ∧ e.requester ≠ .tracker ∧ e.requester ≠ .arbiter) ∧
      u.pins.levels.filmPresent = false ∧ u.fault = s.fault

/-! ### Tracker -/

/-- MARK_ON and MARK_OFF (R37, R38), SPLICE_ON and SPLICE_OFF (R45, R46): what each sets and that nothing else changes; a mark with no
candidate, or with its mid-point below the candidate's low edge, is counted for none. While VERIFYING forward a mark is gathered for the
matched entry whose low edge lies at or below its mid-point and whose next entry's low edge lies above, if it has a next entry (R52, log
62). Outside the conditions of each they have no effect. The level of gathered marks is the highest, 0 with none (R38). The comparison for
a gathered entry is made as the pass matches the next entry, or as the count passes low + pitch_max: a level that differs sets
MARK_DISPUTE, and in a verified segment counts the dispute, records it and raises DISPUTE on the links not in break; an equal one changes
nothing (R52, R69). A span of the splice table is placed as in log 12, and the bound of low + pitch_max is passed as in log 6. The order
of a step's effects is the model's (log 8). -/
def Obligations.MarksAndSplices : Prop :=
  ∀ (s : State) (classed : Nat → Mark → Prop) (told : Gather → State → Prop),
    (∀ len m, classed len m ↔
      (len < s.transport.profile.mark12 → m = { level := 1, long := false }) ∧
      (s.transport.profile.mark12 ≤ len → len < s.transport.profile.mark23 → m = { level := 2, long := false }) ∧
      (s.transport.profile.mark12 ≤ len → s.transport.profile.mark23 ≤ len → len ≤ s.transport.profile.markMax →
        m = { level := 3, long := false }) ∧
      (s.transport.profile.mark12 ≤ len → s.transport.profile.mark23 ≤ len → s.transport.profile.markMax < len →
        m = { level := 1, long := true })) →
    (∀ g u, told g u ↔ ∀ e, s.index.entries[g.frame]? = some e →
      (frameLevel g.marks = e.markLevel → u.index = s.index ∧ ∀ l, u.link l = s.link l) ∧
      (frameLevel g.marks ≠ e.markLevel →
        u.index.entries = s.index.entries.set g.frame { e with flags := { e.flags with markDispute := true } } ∧
        u.index.segments = s.index.segments ∧ u.index.frontier = s.index.frontier ∧ u.index.state = s.index.state ∧
        ∀ sg, s.index.segments[g.frame / 256]? = some sg →
          (sg.verified = true → u.index.disputeCount = min 65535 (s.index.disputeCount + 1) ∧
            u.index.lastDispute =
              some { frame := g.frame, recorded := e.markLevel, observed := frameLevel g.marks } ∧
            ∀ l, (s.link l).receiver ≠ .brk → (u.link l).flags.dispute = true) ∧
          (sg.verified = false → u.index.disputeCount = s.index.disputeCount ∧
            u.index.lastDispute = s.index.lastDispute ∧ ∀ l, u.link l = s.link l))) →
    (s.tracker.mode = .indexing ∨ s.tracker.mode = .verifying ∧ s.transport.travel = .forward →
      exec .markOn s = .next { s with tracker := { s.tracker with openMark := some s.transport.position } } ∧
      (s.tracker.openMark = none → exec .markOff s = .next s)) ∧
    (s.tracker.mode = .idle ∨ s.tracker.mode = .verifying ∧ s.transport.travel = .reverse →
      exec .markOn s = .next s ∧ exec .markOff s = .next s) ∧
    (∀ on, s.tracker.mode = .indexing → s.tracker.openMark = some on →
      (∀ c, s.tracker.candidate = some c → (on + s.transport.position) / 2 < c.low) →
      exec .markOff s = .next { s with tracker := { s.tracker with openMark := none } }) ∧
    (∀ on c len, s.tracker.mode = .indexing → s.tracker.openMark = some on → s.tracker.candidate = some c →
      c.low ≤ (on + s.transport.position) / 2 → len = max on s.transport.position - min on s.transport.position →
      (len < s.transport.profile.markMin →
        exec .markOff s = .next { s with tracker := { s.tracker with openMark := none } }) ∧
      (s.transport.profile.markMin ≤ len → ∃ m, classed len m ∧
        exec .markOff s = .next { s with tracker :=
          { s.tracker with openMark := none, candidate := some { c with marks := c.marks ++ [m] } } })) ∧
    (∀ on mid len, s.tracker.mode = .verifying → s.transport.travel = .forward → s.tracker.openMark = some on →
      mid = (on + s.transport.position) / 2 → len = max on s.transport.position - min on s.transport.position →
      (len < s.transport.profile.markMin →
        exec .markOff s = .next { s with tracker := { s.tracker with openMark := none } }) ∧
      (s.transport.profile.markMin ≤ len → ∃ m gs, classed len m ∧
        exec .markOff s = .next { s with tracker := { s.tracker with openMark := none, gathering := gs } } ∧
        gs.length = s.tracker.gathering.length ∧
        ∀ (k : Nat) g h, s.tracker.gathering[k]? = some g → gs[k]? = some h → h.frame = g.frame ∧
          (∀ e, s.index.entries[g.frame]? = some e →
            (e.low ≤ mid → (∀ x, s.index.entries[g.frame + 1]? = some x → mid < x.low) → h.marks = g.marks ++ [m]) ∧
            (mid < e.low ∨ (∃ x, s.index.entries[g.frame + 1]? = some x ∧ x.low ≤ mid) → h.marks = g.marks)))) ∧
    (∀ ms : List Mark, (∀ m ∈ ms, m.level ≤ frameLevel ms) ∧ (frameLevel ms = 0 ∨ ∃ m ∈ ms, m.level = frameLevel ms)) ∧
    (∀ g y, s.tracker.mode = .verifying → s.tracker.parked = none → s.transport.travel = .forward →
      s.transport.reference = .exact → s.tracker.gathering = [g] → s.index.entries[g.frame + 1]? = some y →
      max s.transport.position y.low - min s.transport.position y.low ≤ 8 →
      (∀ (i : Nat) x, s.index.entries[i]? = some x → i ≠ g.frame + 1 →
        8 < max s.transport.position x.low - min s.transport.position x.low) →
      Settles .lowEdge s fun u => told g u ∧
        u.tracker.gathering = (if g.frame + 1 ∈ s.tracker.matched then [] else [{ frame := g.frame + 1, marks := [] }])) ∧
    (∀ g e, Passing .forward s → s.tracker.edgeUnmatched = false → s.tracker.gathering = [g] →
      s.index.entries[g.frame]? = some e →
      (s.transport.position = e.low + s.transport.profile.pitchMax →
        Settles (.capstanCount .forward) s fun u => told g u ∧ u.tracker.gathering = []) ∧
      (s.transport.position < e.low + s.transport.profile.pitchMax →
        Settles (.capstanCount .forward) s fun u => u.index = s.index ∧ u.tracker.gathering = [g])) ∧
    (s.transport.state = .moving ∨ s.transport.state = .referencing ∨ s.transport.state = .rewinding →
      s.transport.reference ≠ .lost →
      exec .spliceOn s = .next { s with tracker := { s.tracker with openSplice := some s.transport.position } } ∧
      (s.tracker.openSplice = none → exec .spliceOff s = .next s) ∧
      (∀ p sp, s.tracker.openSplice = some p →
        sp = { start := min p s.transport.position, finish := max p s.transport.position } →
        (∀ tb, placeSpan sp s.tracker.splices = some tb →
          exec .spliceOff s = .next { s with tracker := { s.tracker with openSplice := none, splices := tb } }) ∧
        (placeSpan sp s.tracker.splices = none →
          exec .spliceOff s = .next { s with tracker := { s.tracker with openSplice := none, pendingSplice := true } }))) ∧
    (s.transport.reference = .lost ∨
        s.transport.state ≠ .moving ∧ s.transport.state ≠ .referencing ∧ s.transport.state ≠ .rewinding →
      exec .spliceOn s = .next s ∧ exec .spliceOff s = .next s)

/-- Placing a span keeps the splice table ascending with no two spans touching or overlapping and within 64; the new span and every old
one are covered; only a full table that it does not touch drops it (R46). -/
def Obligations.SpliceTablePlaced : Prop :=
  ∀ (sp : Span) (tb : List Span) (sound : List Span → Prop),
    (∀ xs, sound xs ↔ xs.length ≤ 64 ∧ (∀ x ∈ xs, x.start ≤ x.finish) ∧ xs.Pairwise fun x y => x.finish < y.start) →
    sp.start ≤ sp.finish → sound tb →
    (∀ out, placeSpan sp tb = some out → sound out ∧
      (∀ x ∈ sp :: tb, ∃ y ∈ out, y.start ≤ x.start ∧ x.finish ≤ y.finish) ∧
      (∀ y ∈ out, y ∈ tb ∨ ∃ a ∈ sp :: tb, ∃ b ∈ sp :: tb, y.start = a.start ∧ y.finish = b.finish)) ∧
    (placeSpan sp tb = none ↔ tb.length = 64 ∧ ∀ x ∈ tb, sp.finish < x.start ∨ x.finish < sp.start)

/-- A LOW_EDGE while INDEXING with no rescan and no parked opening. With no candidate open it opens one at its position: FIRST with no last
edge, SHORT before the window, IN_WINDOW inside it, GAP above it, with the gap figures of R35 (R33, R35); at the upper limit of the position
count with forward travel the candidate is discarded at once (R36, log 42). An edge in the window over an open candidate commits that one
first, closed a count below with OVERLONG where it has no high edge, and then opens the next (R33, R36). A LOW_EDGE while VERIFYING forward
within W of a parked low edge past the last entry is the handover edge: it reopens the parked candidate and begins INDEXING (R29). In a
rescan an edge at or below its origin is discarded, and one above it inside W2 of the prediction is found: its candidate is RESCANNED and
the record closed (R33, R43). The order of a step's effects is the model's (log 8). -/
def Obligations.LowEdgeOpens : Prop :=
  ∀ (s : State) (atLimit : Prop) (w : Nat),
    (atLimit ↔ s.transport.travel = .forward ∧ s.transport.position = s.transport.rollEnd.getD 16000000) →
    w = max 20 (min 400 (s.tracker.p16 / 128)) →
    (∀ opens : Opening → Nat → Nat → Prop, s.tracker.rescan = none → s.tracker.mode = .indexing →
      s.tracker.parked = none → s.tracker.candidate = none → s.tracker.lastByPitchMax = false →
      (∀ k gap missing, opens k gap missing ↔ exec .lowEdge s = .next (settle { s with tracker := { s.tracker with
        candidate := some { low := s.transport.position, high := none, opening := k, gapLength := gap,
                            missing := missing, flags := { pitchOdd := k == .short, gapBefore := k == .gap },
                            marks := [], estimateDone := false },
        eLast := some s.transport.position, missAccepted := false } })) →
      (atLimit → exec .lowEdge s = .next (settle { s with tracker := { s.tracker with
        candidate := none, eLast := some s.transport.position, missAccepted := false } })) ∧
      (¬ atLimit → s.tracker.eLast = none → opens .first 0 0) ∧
      (∀ e pitch, ¬ atLimit → s.tracker.eLast = some e → pitch = (s.tracker.p16 + 8) / 16 →
        (s.transport.position + w < e + pitch → opens .short 0 0) ∧
        (e + pitch ≤ s.transport.position + w → s.transport.position ≤ e + pitch + w → opens .inWindow 0 0) ∧
        (e + pitch + w < s.transport.position → opens .gap (s.transport.position - e - pitch)
          (max 1 (min 255 ((16 * (s.transport.position - e) + s.tracker.p16 / 2) / s.tracker.p16 - 1)))))) ∧
    (∀ c a e pitch, s.tracker.rescan = none → s.tracker.mode = .indexing → s.tracker.parked = none →
      s.tracker.candidate = some c → ¬ atLimit → s.tracker.eLast = some e → pitch = (s.tracker.p16 + 8) / 16 →
      e + pitch ≤ s.transport.position + w → s.transport.position ≤ e + pitch + w → s.index.entries.length < 16384 →
      nextAddress s.transport.profile.startAddress s.tracker.counters (frameLevel c.marks) = some a →
      Settles .lowEdge s fun u =>
        (∃ x, u.index.entries = s.index.entries ++ [x] ∧ x.low = c.low ∧ x.address = a ∧
          x.high = c.high.getD (s.transport.position - 1) ∧ x.flags.overlong = (c.flags.overlong || c.high.isNone)) ∧
        u.tracker.candidate = some { low := s.transport.position, high := none, opening := .inWindow, gapLength := 0,
                                     missing := 0, flags := {}, marks := [], estimateDone := false } ∧
        u.tracker.eLast = some s.transport.position ∧ u.tracker.counters = some a) ∧
    (∀ p, s.tracker.mode = .verifying → s.tracker.parked = some p → s.transport.travel = .forward → ¬ atLimit →
      s.transport.reference = .exact → s.index.state ≠ .frozenFull → s.index.state ≠ .frozenAddress →
      s.transport.position ≤ p.low + w → p.low ≤ s.transport.position + w →
      (∀ x, s.index.entries.getLast? = some x → x.high < s.transport.position) →
      Settles .lowEdge s fun u => u.tracker.mode = .indexing ∧ u.tracker.parked = none ∧
        u.tracker.eLast = some p.low ∧ u.tracker.counters = (s.index.entries.getLast?.map fun x => x.address) ∧
        u.tracker.candidate = some { low := p.low, high := none, opening := p.opening, gapLength := p.gapLength,
                                     missing := p.missing, flags := p.flags, marks := [],
                                     estimateDone := p.estimateDone } ∧
        u.index.entries = s.index.entries ∧ u.index.frontier = max s.index.frontier s.transport.position ∧
        u.transport.position = s.transport.position) ∧
    (∀ r e pitch, s.tracker.rescan = some r → s.tracker.mode = .indexing → s.tracker.parked = none →
      s.tracker.eLast = some e → pitch = (s.tracker.p16 + 8) / 16 →
      (s.transport.position ≤ r.origin → exec .lowEdge s = .next (settle s)) ∧
      (r.origin < s.transport.position → ¬ atLimit → s.tracker.candidate = none → s.tracker.lastByPitchMax = false →
        e + pitch ≤ s.transport.position + min 800 (2 * w) → s.transport.position ≤ e + pitch + min 800 (2 * w) →
        exec .lowEdge s = .next (settle { s with tracker := { s.tracker with
          candidate := some { low := s.transport.position, high := none, opening := .inWindow, gapLength := 0, missing := 0,
                              flags := { rescanned := true }, marks := [], estimateDone := false },
          eLast := some s.transport.position, missAccepted := false, rescan := none } })))

/-- A LOW_EDGE while VERIFYING over the one recorded frame that it matches (R48): an EXACT count off by 9 to slip_tol is trimmed to the
recorded low edge, one off by 8 or less is left, and one off by more loses the reference; a DRIFTED count within five times slip_tol is
trimmed and EXACT again, and one off by more loses the reference (R48, R49). A loss withdraws a rescan undecided, with its entry, and keeps
budget and miss_state (R44). An edge with no entry within W is only noted as unmatched; an entry passed by W without a match adds 1 to
unmatched_run, and the third loses the reference where an edge was unmatched, or else only sets the count to 0 (R50; W is passed as in
log 6). The order of a step's effects is the model's (log 8). -/
def Obligations.LowEdgeTrims : Prop :=
  ∀ (s : State) (rescanGone : State → Prop) (w : Nat), w = max 20 (min 400 (s.tracker.p16 / 128)) →
    (∀ u, rescanGone u ↔ u.tracker.rescan = none ∧ u.arbiter.entryOf .tracker = none ∧
      u.tracker.budget = s.tracker.budget ∧ u.tracker.missAccepted = s.tracker.missAccepted) →
    (∀ (e : Entry) (off : Nat),
      s.tracker.mode = .verifying → s.tracker.parked = none →
      s.index.entries = [e] → off = max s.transport.position e.low - min s.transport.position e.low →
      off ≤ w → s.transport.search = none →
      s.transport.position ≤ s.transport.rollEnd.getD 16000000 → e.low ≤ s.transport.rollEnd.getD 16000000 →
      (s.transport.reference = .exact → off ≤ 8 →
        (∃ t, exec .lowEdge s = .next t ∧ t.transport.position = s.transport.position ∧ t.fault = s.fault) ∧
        Settles .lowEdge s fun u => u.transport = s.transport ∧ u.tracker.unmatchedRun = 0 ∧ u.tracker.edgeUnmatched = false ∧
          u.tracker.rescan = s.tracker.rescan ∧ u.arbiter = s.arbiter) ∧
      (s.transport.reference = .exact → 8 < off → off ≤ s.transport.profile.slipTol →
        ∃ t, exec .lowEdge s = .next t ∧ t.transport.position = e.low ∧ t.fault = s.fault) ∧
      (s.transport.reference = .exact → 8 < off → s.transport.profile.slipTol < off →
        Settles .lowEdge s fun u => u.transport.reference = .lost ∧ u.transport.position = s.transport.position ∧
          u.tracker.mode = .idle ∧ rescanGone u) ∧
      (s.transport.reference = .drifted → off ≤ 5 * s.transport.profile.slipTol →
        (∃ t, exec .lowEdge s = .next t ∧ t.transport.position = e.low ∧ t.fault = s.fault) ∧
        Settles .lowEdge s fun u => u.transport.reference = .exact ∧ u.transport.position = e.low ∧ u.fault = s.fault) ∧
      (s.transport.reference = .drifted → 5 * s.transport.profile.slipTol < off →
        Settles .lowEdge s fun u => u.transport.reference = .lost ∧ u.transport.position = s.transport.position ∧
          u.tracker.mode = .idle ∧ rescanGone u)) ∧
    (s.tracker.mode = .verifying → s.tracker.parked = none →
      (∀ x ∈ s.index.entries, w < max s.transport.position x.low - min s.transport.position x.low) →
      exec .lowEdge s = .next (settle { s with tracker := { s.tracker with edgeUnmatched := true } })) ∧
    (∀ d (k : Nat) e, Passing d s → s.tracker.gathering = [] → s.index.entries[k]? = some e →
      (∀ (i : Nat) x, s.index.entries[i]? = some x → i ≠ k → x.low ≠ e.low) →
      (d = .forward → s.transport.position = e.low + w ∧ s.tracker.passStart ≤ e.low) →
      (d = .reverse → s.transport.position + w = e.low ∧ e.low ≤ s.tracker.passStart) →
      Settles (.capstanCount d) s fun u => u.index = s.index ∧ u.fault = s.fault ∧
        u.transport.position = (if d = .forward then s.transport.position + 1 else s.transport.position - 1) ∧
        (k ∈ s.tracker.matched → u.tracker.unmatchedRun = s.tracker.unmatchedRun ∧ u.transport.reference = .exact) ∧
        (k ∉ s.tracker.matched →
          (s.tracker.unmatchedRun < 2 →
            u.tracker.unmatchedRun = s.tracker.unmatchedRun + 1 ∧ u.transport.reference = .exact) ∧
          (2 ≤ s.tracker.unmatchedRun → u.tracker.unmatchedRun = 0 ∧
            (s.tracker.edgeUnmatched = false → u.transport.reference = .exact ∧ u.tracker.mode = .verifying) ∧
            (s.tracker.edgeUnmatched = true → u.transport.reference = .lost ∧ u.tracker.mode = .idle ∧ rescanGone u))))

/-- HIGH_EDGE (R34): outside INDEXING, or with no candidate, it has no effect; a second one flags NOISE; a short image drops the candidate
as a speck; otherwise the high edge is recorded, with OVERLONG above image_max. A candidate whose pitch step is done changes nothing else.
A first one takes its step (R32): for an IN_WINDOW candidate with an entry before it and no splice between, P16 goes by floor((D + 4) / 8)
and is clamped with PITCH_CLAMP to the profile's range where |D| is at most an eighth of it, else PITCH_ODD is flagged; where one of these
fails there is no step, and no flag whatever |D| is (log 63). A splice span that overlaps is one that shares more than an end point (log
12). -/
def Obligations.HighEdgeRecorded : Prop :=
  ∀ (c : Candidate) (s : State),
    (s.tracker.mode ≠ .indexing ∨ s.tracker.candidate = none → exec .highEdge s = .next s) ∧
    (s.tracker.mode = .indexing → s.tracker.candidate = some c → c.high ≠ none →
      exec .highEdge s = .next { s with tracker := { s.tracker with
        candidate := some { c with flags := { c.flags with noise := true } } } }) ∧
    (s.tracker.mode = .indexing → s.tracker.candidate = some c → c.high = none →
      s.transport.position - c.low < s.transport.profile.imageMin →
      exec .highEdge s = .next { s with tracker := { s.tracker with
        candidate := none, pendingNoise := true, eLast := s.index.entries.getLast?.map fun e => e.low, missAccepted := false } }) ∧
    (s.tracker.mode = .indexing → s.tracker.candidate = some c → c.high = none → c.estimateDone = true →
      s.transport.profile.imageMin ≤ s.transport.position - c.low →
      ∃ long, exec .highEdge s = .next { s with tracker := { s.tracker with
        candidate := some { c with high := some s.transport.position, flags := { c.flags with overlong := long } } } } ∧
        (c.flags.overlong = false → (long = true ↔ s.transport.profile.imageMax < s.transport.position - c.low))) ∧
    (∀ (long : Bool) (d : Candidate), s.tracker.mode = .indexing → s.tracker.candidate = some c → c.high = none →
      c.estimateDone = false → s.transport.profile.imageMin ≤ s.transport.position - c.low →
      (long = true ↔ c.flags.overlong = true ∨ s.transport.profile.imageMax < s.transport.position - c.low) →
      d = { c with high := some s.transport.position, estimateDone := true,
                   flags := { c.flags with overlong := long } } →
      (s.index.entries.getLast? = none ∨ c.opening ≠ .inWindow ∨
          (∃ prev, s.index.entries.getLast? = some prev ∧
            ∃ sp ∈ s.tracker.splices, prev.low < sp.finish ∧ sp.start < s.transport.position) →
        exec .highEdge s = .next { s with tracker := { s.tracker with candidate := some d } }) ∧
      (∀ prev (dev z : Int), s.index.entries.getLast? = some prev → c.opening = .inWindow →
        s.tracker.openSplice = none →
        (∀ sp ∈ s.tracker.splices, sp.finish ≤ prev.low ∨ s.transport.position ≤ sp.start) →
        dev = 16 * ((c.low : Int) - prev.low) - s.tracker.p16 → z = s.tracker.p16 + (dev + 4) / 8 →
        (dev.natAbs ≤ s.tracker.p16 / 8 →
          (16 * (s.transport.profile.pitchMin : Int) ≤ z → z ≤ 16 * (s.transport.profile.pitchMax : Int) →
            exec .highEdge s = .next { s with tracker := { s.tracker with candidate := some d, p16 := z.toNat } }) ∧
          (z < 16 * (s.transport.profile.pitchMin : Int) →
            exec .highEdge s = .next { s with tracker := { s.tracker with
              candidate := some { d with flags := { d.flags with pitchClamp := true } },
              p16 := 16 * s.transport.profile.pitchMin } }) ∧
          (16 * (s.transport.profile.pitchMin : Int) ≤ z → 16 * (s.transport.profile.pitchMax : Int) < z →
            exec .highEdge s = .next { s with tracker := { s.tracker with
              candidate := some { d with flags := { d.flags with pitchClamp := true } },
              p16 := 16 * s.transport.profile.pitchMax } })) ∧
        (s.tracker.p16 / 8 < dev.natAbs →
          exec .highEdge s = .next { s with tracker := { s.tracker with
            candidate := some { d with flags := { d.flags with pitchOdd := true } } } })))

/-- A commit appends one entry with the next frame number, its edges, address and mark level, and sets the counters and the budget; every
earlier entry is as it was (R36, R38, R39, R56). A window miss (its bound as in log 6): with budget the tracker makes the rescan record,
is IDLE, parks an open candidate and comes down with the frontier, stops the move, whose earlier cause of a stop stands (log 11), and queues
the RESCAN; without budget the miss is
accepted (R41, R42, R31). The reverse leg done, the forward leg creeps to the record's target; the forward leg done, the rescan is decided
not found where it is still open, and an interrupted motion goes on; a leg STOPPED withdraws the rescan, and budget and miss_state stay
(R43, R44, R130). The order of a step's effects is the model's (log 8). -/
def Obligations.CommitAppends : Prop :=
  ∀ s : State,
    (∀ (c : Candidate) (a : Address) (high : Nat) (byMax : Bool), s.tracker.candidate = some c →
      s.index.entries.length < 16384 → (s.tracker.mode = .indexing) →
      nextAddress s.transport.profile.startAddress s.tracker.counters (frameLevel c.marks) = some a →
      (commit high byMax s).1 = true ∧
      ∃ e, (commit high byMax s).2.index.entries = s.index.entries ++ [e] ∧ e.low = c.low ∧
        e.high = c.high.getD high ∧ e.address = a ∧ e.markLevel = frameLevel c.marks ∧ e.captureState = .none ∧
        e.captureCount = 0 ∧ e.gapLength = c.gapLength ∧ e.missing = c.missing ∧
        (e.flags.overlong = (c.flags.overlong || c.high.isNone)) ∧
        (commit high byMax s).2.tracker.counters = some a ∧
        (commit high byMax s).2.tracker.budget = s.transport.profile.rescanLimit) ∧
    (∀ e pitch w w2, s.tracker.mode = .indexing → s.transport.state = .moving → s.transport.travel = .forward →
      s.transport.reference = .exact → s.index.state = .growing → s.transport.rollEnd = none →
      s.transport.tailLimit = none → s.tracker.rescan = none → s.tracker.parked = none → s.tracker.heldIdle = false →
      s.tracker.missAccepted = false → s.capture.armed = [] → s.tracker.eLast = some e →
      pitch = (s.tracker.p16 + 8) / 16 → w = max 20 (min 400 (s.tracker.p16 / 128)) → w2 = min 800 (2 * w) →
      s.transport.position = e + pitch + w → e + pitch + w + 1 < 16000000 →
      (∀ c, s.tracker.candidate = some c → e + pitch + w + 1 ≤ c.low + s.transport.profile.pitchMax) →
      (0 < s.tracker.budget → s.arbiter.entryOf .tracker = none →
        Settles (.capstanCount .forward) s fun u =>
          u.tracker.budget = s.tracker.budget - 1 ∧ u.tracker.missAccepted = false ∧ u.tracker.mode = .idle ∧
          u.tracker.rescan = some { origin := e, predicted := e + pitch, window := w2, reverseTarget := e - w,
                                    forwardTarget := e + pitch + w2 } ∧
          (∃ q, u.arbiter.entryOf .tracker = some q ∧ q.cls = .internal ∧ q.kind = .rescan ∧ q.skip = 0) ∧
          (∀ c, s.tracker.candidate = some c → u.tracker.candidate = none ∧ u.index.frontier = c.low ∧
            u.tracker.parked = some { low := c.low, opening := c.opening, gapLength := c.gapLength, missing := c.missing,
                                      flags := c.flags, estimateDone := c.estimateDone }) ∧
          (∀ x, s.tracker.candidate = none → s.index.entries.getLast? = some x →
            u.index.frontier = x.high ∧ u.tracker.parked = none) ∧
          (∀ m c, s.transport.move = some m → s.arbiter.current = some c →
            u.transport.move = some { m with stopping := true } ∧ u.transport.drive = none ∧
            u.arbiter.current = some { c with stop := c.stop.or (some .rescan) }) ∧
          u.index.entries = s.index.entries ∧ u.fault = s.fault) ∧
      (s.tracker.budget = 0 →
        Settles (.capstanCount .forward) s fun u =>
          u.tracker.missAccepted = true ∧ u.tracker.mode = .indexing ∧ u.tracker.rescan = none ∧ u.tracker.budget = 0 ∧
          u.tracker.candidate = s.tracker.candidate ∧ u.transport.move = s.transport.move ∧
          u.arbiter = s.arbiter ∧ u.index.entries = s.index.entries ∧ u.fault = s.fault)) ∧
    (∀ c, s.arbiter.current = some c → c.requester = .tracker → c.kind = .rescan →
      (∀ r o, c.leg = .reverse → o ≠ .stopped → s.tracker.rescan = some r → s.fault.halted = false →
        s.transport.reference = .exact →
        (completeMove o s).transport.state = .moving ∧
        (completeMove o s).arbiter.current.map (fun x => (x.requester, x.kind, x.leg)) = some (.tracker, .rescan, .forward) ∧
        (completeMove o s).transport.move.map (fun m => (m.target, m.speed)) =
          some (min r.forwardTarget (s.transport.tailLimit.getD (s.transport.rollEnd.getD 16000000)), .creep) ∧
        (completeMove o s).tracker.rescan = some r) ∧
      (∀ o, c.leg = .forward → o ≠ .stopped → s.arbiter.interrupted = none →
        (completeMove o s).tracker.rescan = none ∧ (completeMove o s).arbiter.entryOf .tracker = none ∧
        (completeMove o s).arbiter.current = none ∧ (completeMove o s).transport.state = .ready ∧
        (completeMove o s).tracker.budget = s.tracker.budget ∧
        (s.tracker.rescan ≠ none → (completeMove o s).tracker.missAccepted = true) ∧
        (s.tracker.rescan = none → (completeMove o s).tracker.missAccepted = s.tracker.missAccepted)) ∧
      (∀ o i q, c.leg = .forward → o ≠ .stopped → s.arbiter.interrupted = some i → i ≠ .tracker → i ≠ .arbiter →
        s.arbiter.entryOf i = some q → eligible s q = true → s.fault.halted = false → s.arbiter.captureHold = false →
        s.arbiter.searchHold = false → s.arbiter.rollClaim = false → s.arbiter.blocked = false →
        s.transport.reference = .exact → q.kind ≠ .reference →
        (completeMove o s).arbiter.interrupted = none ∧ (completeMove o s).arbiter.entryOf .tracker = none ∧
        (completeMove o s).arbiter.current.map (fun x => (x.requester, x.kind)) = some (i, q.kind)) ∧
      (c.stop = none ∨ c.stop = some .lossOfRef → s.capture.holding = none →
        (completeMove .stopped s).tracker.rescan = none ∧ (completeMove .stopped s).arbiter.entryOf .tracker = none ∧
        (completeMove .stopped s).arbiter.current = none ∧ (completeMove .stopped s).tracker.budget = s.tracker.budget ∧
        (completeMove .stopped s).tracker.missAccepted = s.tracker.missAccepted))

/-- The address of a committed entry: start_address with no counters, else by the mark level, each above the last (R39). -/
def Obligations.AddressCounted : Prop :=
  ∀ (start : Address) (level : Nat) (a b : Address), level ≤ 3 →
    nextAddress start none level = some start ∧
    (level = 3 → a.batch ≤ 65534 → nextAddress start (some a) level = some ⟨a.batch + 1, 1, 1⟩) ∧
    (level = 2 → a.document ≤ 65534 → nextAddress start (some a) level = some ⟨a.batch, a.document + 1, 1⟩) ∧
    (level ≤ 1 → a.page ≤ 65534 → nextAddress start (some a) level = some ⟨a.batch, a.document, a.page + 1⟩) ∧
    (nextAddress start (some a) level = some b → a.lt b = true)

/-! ### Focus -/

/-- HOME_SWITCH_SET ends a homing at step 0 with recal_required clear; a LENS_STEP counts in HOMING, takes the lens one step toward the
head entry's target in SLEWING and toward the trial step in SEARCHING; one with which the lens leaves the home switch clears the level too
(R74, R75, R86, R89; log 2), and one with the lens at its target changes nothing (log 4). Nothing but the focus controller and the switch
level changes. Lens work that finds the lens UNHOMED homes it, at once where the switch is set (R74, R75). A frame needs a search under
policy SEARCH with no result for it and no map point within focus_reach (R84); held at the axis it is given up and a search begins at its
target, with the nine coarse steps (R88, R111). With the lens at the trial step the TRIAL is fired, or waits while the handshake is not
READY (R89). The order of a step's effects is the model's (log 8). -/
def Obligations.LensSteps : Prop :=
  ∀ s : State,
    (s.focus.state = .homing → Settles .homeSwitchSet s fun u =>
      u.focus = { s.focus with lens := some 0, recal := false,
                               state := if s.focus.search = none then .idle else .searching } ∧
      u = { s with focus := u.focus, pins := u.pins } ∧ u.pins.levels.homeSwitch = true) ∧
    (s.focus.state ≠ .homing → ∃ t, exec .homeSwitchSet s = .next t ∧ t = { s with pins := t.pins } ∧
      t.pins.levels.homeSwitch = true) ∧
    exec (.lensStep true) s =
      exec (.lensStep false) { s with pins := { s.pins with levels := { s.pins.levels with homeSwitch := false } } } ∧
    (s.focus.state = .homing → s.focus.homeCount < 4500 →
      exec (.lensStep false) s =
        .next (settle { s with focus := { s.focus with homeCount := s.focus.homeCount + 1 } })) ∧
    (∀ tgt n, s.focus.lens = some n →
      (∃ e rest, s.focus.state = .slewing ∧ s.focus.slew = e :: rest ∧ e.target = some tgt) ∨
        (∃ sr rest, s.focus.state = .searching ∧ s.focus.search = some sr ∧ sr.steps = tgt :: rest) →
      (n < tgt → exec (.lensStep false) s = .next (settle { s with focus := { s.focus with lens := some (n + 1) } })) ∧
      (tgt < n → exec (.lensStep false) s = .next (settle { s with focus := { s.focus with lens := some (n - 1) } })) ∧
      (n = tgt → exec (.lensStep false) s = .next s)) ∧
    (s.fault.halted = false → s.focus.state = .unhomed → s.focus.slew ≠ [] ∨ s.focus.search ≠ none →
      (s.pins.levels.homeSwitch = false →
        serviceLens s = { s with focus := { s.focus with state := .homing, homeCount := 0, lens := none } }) ∧
      (s.pins.levels.homeSwitch = true → (serviceLens s).focus.lens = some 0 ∧ (serviceLens s).focus.recal = false ∧
        (serviceLens s).focus.state ≠ .unhomed ∧ (serviceLens s).focus.state ≠ .homing)) ∧
    (∀ frame mid policy, needsSearch frame mid policy s = true ↔ policy = true ∧
      (∀ r, s.focus.result = some r → r.frame ≠ frame) ∧
      ∀ q ∈ s.focus.map, s.transport.profile.focusReach < max q.position mid - min q.position mid) ∧
    (∀ h j mid, s.capture.holding = some h → h.phase = .atAxis → s.transport.state = .ready → s.transport.reference = .exact →
      s.focus.search = none → findJob h.trigger.job s = some j → j.isOpen = true →
      mid = h.trigger.t - s.transport.profile.axisOffset → needsSearch h.trigger.frame mid j.search s = true →
      ∃ u, u = serviceStationary s ∧ u.transport = s.transport ∧ u.index = s.index ∧ u.jobs = s.jobs ∧
        u.capture.holding = some { h with phase := .searching } ∧ u.capture.armed = [] ∧ u.focus.slew = [] ∧
        u.arbiter = { s.arbiter with searchHold := true } ∧ u.focus.result = none ∧ u.focus.lens = s.focus.lens ∧
        u.focus.map = s.focus.map ∧
        (s.focus.state = .idle ∨ s.focus.state = .slewing → u.focus.state = .searching) ∧
        (s.focus.state = .unhomed ∨ s.focus.state = .homing → u.focus.state = s.focus.state) ∧
        u.focus.search = some { frame := h.trigger.frame, mid := mid, start := focusTarget mid s, job := h.trigger.job,
                                phase := .coarse, trials := [], steps := trialSteps (focusTarget mid s) 24 [],
                                extensionDone := false, stage := .stepping }) ∧
    (∀ sr st rest (at_ : TrialStage → Focus), s.fault.halted = false → s.focus.state = .searching → s.focus.search = some sr →
      sr.steps = st :: rest → (∀ g, at_ g = { s.focus with search := some { sr with stage := g } }) →
      (s.focus.lens ≠ some st → serviceLens s = s) ∧
      (s.focus.lens = some st → sr.stage = .fired → serviceLens s = s) ∧
      (s.focus.lens = some st → sr.stage ≠ .fired → s.transport.state = .ready → s.transport.tension = .taut →
        (s.capture.handshake = .ready → serviceLens s = { s with
          focus := at_ .fired,
          capture := { s.capture with handshake := .waitAnswer,
                                      outstanding := some (.trial s.transport.profile.answerLimit) } }) ∧
        (s.capture.handshake ≠ .ready →
          (sr.stage = .stepping → serviceLens s = { s with focus := at_ (.waiting s.transport.profile.answerLimit) }) ∧
          (∀ lim, sr.stage = .waiting lim → serviceLens s = s))))

/-- A first stall in HOMING, SLEWING or SEARCHING: the lens is UNHOMED with recal_required set and the slew list kept, and a search in
progress ends WEAK at its starting target; a second one abandons it, with the lens FAULTED; in UNHOMED, IDLE and FAULTED a stall is
discarded (R77, R92). A TRIAL answered FAIL or DONE, or not answered in time, is recorded with metric 0 (R89). A recorded trial takes the
search to its next step, and with the phase's steps tried to the extension about an end trial, made once, or to the fine steps about the
best (R90, R91). The steps of a phase lie ascending about their centre, clamped to 0..4095, without those tried; the best trial has the
highest metric, then lies nearest the starting target, then lowest. With no step left, or when a trial waited too long, the outcome is
decided: STRONG places a SEARCH point and makes the best step the result, WEAK flags the entry FOCUS_WEAK and makes the starting target
the result (R89, R91). The order of a step's effects is the model's (log 8). -/
def Obligations.LensStalls : Prop :=
  ∀ (s : State) (weak decided : FocusSearch → State → Prop),
    (∀ sr u, weak sr u ↔ u.focus.search = none ∧ u.focus.result = some { frame := sr.frame, lens := sr.start } ∧
      u.focus.map = s.focus.map ∧ u.arbiter.searchHold = false ∧ u.transport = s.transport ∧ u.fault = s.fault ∧
      ∀ e, s.index.entries[sr.frame]? = some e → ∃ x, u.index.entries[sr.frame]? = some x ∧
        x.flags.focusWeak = true ∧ x.low = e.low ∧ x.high = e.high ∧ x.address = e.address) →
    (∀ sr u, decided sr u ↔ u.focus.state = .idle ∧ u.focus.lens = s.focus.lens ∧
      (∀ b, bestTrial sr.start sr.trials = some b → (∃ x ∈ sr.trials, x.answered = true) →
        s.transport.profile.metricFloor ≤ b.metric →
        u.focus.map = placePoint { position := sr.mid, lens := b.lens, source := .search } s.focus.map ∧
        u.focus.result = some { frame := sr.frame, lens := b.lens } ∧ u.focus.search = none ∧
        u.arbiter.searchHold = false ∧ u.transport = s.transport ∧ u.index = s.index ∧ u.fault = s.fault) ∧
      (sr.trials = [] ∨ (∀ x ∈ sr.trials, x.answered = false) ∨
          (∀ x ∈ sr.trials, x.metric < s.transport.profile.metricFloor) → weak sr u)) →
    (s.focus.state = .homing ∨ s.focus.state = .slewing ∨ s.focus.state = .searching → s.focus.recal = false →
      (s.focus.search = none →
        exec .lensStall s =
          .next (settle { s with focus := { s.focus with state := .unhomed, lens := none, recal := true } })) ∧
      (∀ sr, s.focus.search = some sr → Settles .lensStall s fun u => weak sr u ∧ u.focus.state = .unhomed ∧
        u.focus.lens = none ∧ u.focus.recal = true ∧ u.focus.slew = s.focus.slew)) ∧
    (s.focus.state = .homing ∨ s.focus.state = .slewing ∨ s.focus.state = .searching → s.focus.recal = true →
      ∃ t, exec .lensStall s = .next t ∧ t.focus.state = .faulted ∧ t.focus.lens = none ∧
        t.focus.map = s.focus.map ∧ t.fault.halted = true ∧
        (s.fault.halted = false → t.focus.search = none ∧ (s.focus.search ≠ none → t.focus.result = none))) ∧
    (s.focus.state = .unhomed ∨ s.focus.state = .idle ∨ s.focus.state = .faulted → exec .lensStall s = .next s) ∧
    (∀ sr limit, s.focus.search = some sr → sr.stage = .waiting limit → Settles .trialWaitExpiry s fun u => decided sr u) ∧
    (∀ sr, s.fault.halted = false → s.focus.state = .searching → s.focus.search = some sr → sr.steps = [] →
      decided sr (serviceLens s)) ∧
    (∀ sr lim, s.capture.outstanding = some (.trial lim) → s.focus.search = some sr → sr.stage = .fired →
      (∀ a, a = .fail ∨ a = .done → Settles (.cameraAnswer a) s fun u => u.focus.search = some (sr.record 0 false) ∧
        u.capture.outstanding = none ∧ u.transport = s.transport ∧ u.index = s.index) ∧
      Settles .answerLimitExpiry s fun u => u.focus.search = some (sr.record 0 false) ∧ u.capture.outstanding = none ∧
        u.capture.handshake = .notReady ∧ u.capture.answerLock = true ∧ u.transport = s.transport ∧ u.index = s.index) ∧
    (∀ (sr next : FocusSearch) st rest v answered b (fine more : List Nat), sr.steps = st :: rest →
      next = { sr with trials := sr.trials ++ [{ lens := st, metric := v, answered := answered }],
                       steps := rest, stage := .stepping } →
      bestTrial sr.start next.trials = some b → fine = trialSteps b.lens 5 (next.trials.map (·.lens)) →
      more = trialSteps b.lens 24 (next.trials.map (·.lens)) →
      (rest ≠ [] ∨ sr.phase = .fine → sr.record v answered = next) ∧
      (rest = [] → sr.phase = .extension → sr.record v answered = { next with phase := .fine, steps := fine }) ∧
      (rest = [] → sr.phase = .coarse →
        (sr.extensionDone = true ∨ b.lens = 0 ∨ b.lens = 4095 ∨
            (∃ x ∈ next.trials, x.lens < b.lens) ∧ (∃ x ∈ next.trials, b.lens < x.lens) →
          sr.record v answered = { next with phase := .fine, steps := fine }) ∧
        (sr.extensionDone = false → b.lens ≠ 0 → b.lens ≠ 4095 →
          (∀ x ∈ next.trials, b.lens ≤ x.lens) ∨ (∀ x ∈ next.trials, x.lens ≤ b.lens) →
          (more ≠ [] → sr.record v answered =
            { next with phase := .extension, extensionDone := true, steps := more }) ∧
          (more = [] → sr.record v answered = { next with phase := .fine, extensionDone := true, steps := fine })))) ∧
    (∀ (centre pitch : Nat) (tried : List Nat), (trialSteps centre pitch tried).Pairwise (· < ·) ∧
      ∀ x, x ∈ trialSteps centre pitch tried ↔ x ∉ tried ∧
        ∃ k : Int, -4 ≤ k ∧ k ≤ 4 ∧ (x : Int) = max 0 (min 4095 ((centre : Int) + k * pitch))) ∧
    (∀ (start : Nat) (ts : List Trial), (ts ≠ [] → ∃ b, bestTrial start ts = some b) ∧
      ∀ b, bestTrial start ts = some b → b ∈ ts ∧ ∀ x ∈ ts, x.metric < b.metric ∨ x.metric = b.metric ∧
        (max b.lens start - min b.lens start < max x.lens start - min x.lens start ∨
          max b.lens start - min b.lens start = max x.lens start - min x.lens start ∧ b.lens ≤ x.lens))

/-- The focus target of a frame's mid-point: default_focus on an empty map, the end points' steps outside the map, the truncated
interpolation between neighbours, the splice offset within a span of the splice table, held in 0..4095 (R83). -/
def Obligations.FocusTargetComputed : Prop :=
  ∀ (e : Entry) (p : Nat) (s : State) (base off : Int), p = (e.low + e.high) / 2 →
    off = (if ∃ sp ∈ s.tracker.splices, sp.start ≤ p ∧ p ≤ sp.finish then s.transport.profile.spliceFocusOffset else 0) →
    (s.focus.map.Pairwise fun a b => a.position < b.position) →
    (s.focus.map = [] ∧ base = s.transport.profile.defaultFocus ∨
      (∃ a, s.focus.map.head? = some a ∧ p ≤ a.position ∧ base = a.lens) ∨
      (∃ b, s.focus.map.getLast? = some b ∧ b.position ≤ p ∧ base = b.lens) ∨
      (∃ pre a b post, s.focus.map = pre ++ a :: b :: post ∧ a.position < p ∧ p < b.position ∧
        base = a.lens + (((b.lens : Int) - a.lens) * ((p : Int) - a.position)).tdiv ((b.position : Int) - a.position)) ∨
      (∃ a ∈ s.focus.map, a.position = p ∧ base = a.lens)) →
    (focusTarget e.mid s : Int) = max 0 (min 4095 (base + off))

/-- A point placed in the map (R80): points within 500 of it are removed; on a full map with none within 500 the farthest one is removed,
of two at the same distance the lower; the new point stands in its place and every other point stays. -/
def Obligations.FocusPointPlaced : Prop :=
  ∀ (p : MapPoint) (m : List MapPoint), MapSound m →
    MapSound (placePoint p m) ∧ p ∈ placePoint p m ∧
    (∀ q ∈ placePoint p m, q = p ∨ q ∈ m) ∧
    (∀ q ∈ m, q.position < p.position + 500 → p.position < q.position + 500 → q ∈ placePoint p m → q = p) ∧
    ((∃ q ∈ m, q.position < p.position + 500 ∧ p.position < q.position + 500) ∨ m.length < 32 →
      ∀ q ∈ m, p.position + 500 ≤ q.position ∨ q.position + 500 ≤ p.position → q ∈ placePoint p m) ∧
    ((∀ q ∈ m, p.position + 500 ≤ q.position ∨ q.position + 500 ≤ p.position) → m.length = 32 →
      ∃ f ∈ m, f ∉ placePoint p m ∧ (∀ q ∈ m, q ≠ f → q ∈ placePoint p m) ∧
        (∀ q ∈ m, Machine.dist p.position q.position < Machine.dist p.position f.position ∨
          Machine.dist p.position q.position = Machine.dist p.position f.position ∧ f.position ≤ q.position))

/-! ### Capture -/

/-- The camera's answer to a CAPTURE settles it: the record is filed at the ring's tail with DONE, or FAIL by CAMERA for FAIL and METRIC;
the expiry of its limit files FAIL by NO_ANSWER and sets answer_lock; the outstanding record becomes absent and the handshake follows R94;
the frame's entry is CAPTURED with capture_count one more, up to 15, or FAILED (R96, R97, R103, R55). With none outstanding both are
ignored (the expiry as in log 4). A DONE adds 1 to the captures of its item or to the sweep's captured (R145, R150); the FAIL of a run's
trigger offers its frame to the revisit list (R112). The answer to a held frame: DONE ends the capture and releases the transport, a first
FAIL arms the second attempt, the second ends it FAILED (R110); a fetch item takes the outcome, a sweep's frame is passed, and a revisit
leaves the list, adds 1 to revisits and is followed by the nearest frame left or by the end of the sweep (R113, R152, R153). The order of
a step's effects is the model's (log 8). -/
def Obligations.CameraAnswers : Prop :=
  ∀ (limit : Nat) (shot : CaptureShot) (s : State) (filed : CaptureOutcome → FailReason → State → Prop),
    (∀ o why u, filed o why u ↔ u.capture.ring = s.capture.ring ++ [shot.record o why] ∧
      u.capture.ringHead = s.capture.ringHead ∧ u.capture.outstanding = none ∧
      u.transport.position = s.transport.position ∧ u.fault = s.fault ∧
      ∀ e, s.index.entries[shot.trigger.frame]? = some e →
        ∃ x, u.index.entries[shot.trigger.frame]? = some x ∧ x.low = e.low ∧ x.high = e.high ∧ x.address = e.address ∧
          (o = .done → x.captureState = .captured ∧ x.captureCount = min 15 (e.captureCount + 1)) ∧
          (o = .fail → x.captureState = .failed ∧ x.captureCount = e.captureCount)) →
    (s.capture.outstanding = none → (∀ a, exec (.cameraAnswer a) s = .next s) ∧ exec .answerLimitExpiry s = .next s) ∧
    (s.capture.outstanding = some (.capture limit shot) → s.capture.holding = none →
      (Settles (.cameraAnswer .done) s fun u => filed .done .none u ∧
        u.capture.handshake = (if s.pins.levels.cameraReady && !s.capture.answerLock then .ready else .notReady) ∧
        (∀ j r, JobsSound s → findJob shot.trigger.job s = some j → j.isOpen = true → j.body = .sweep r →
          shot.trigger.item = none → ∃ k r', findJob shot.trigger.job u = some k ∧ k.body = .sweep r' ∧
            r'.captured = min 16384 (r.captured + 1)) ∧
        (∀ j is n i, JobsSound s → findJob shot.trigger.job s = some j → j.isOpen = true → j.body = .fetch is →
          shot.trigger.item = some n → is[n - 1]? = some i → ∃ k is' i', findJob shot.trigger.job u = some k ∧
            k.body = .fetch is' ∧ is'[n - 1]? = some i' ∧ i'.captures = min 15 (i.captures + 1))) ∧
      (Settles (.cameraAnswer .fail) s fun u => filed .fail .camera u ∧
        ∀ j r ns, JobsSound s → findJob shot.trigger.job s = some j → j.isOpen = true → j.body = .sweep r →
          r.runEnded = none → shot.trigger.kind = .run → s.capture.revisitOf shot.trigger.job = some ns →
          ∃ k r' ns', findJob shot.trigger.job u = some k ∧ k.body = .sweep r' ∧
            u.capture.revisitOf shot.trigger.job = some ns' ∧ Offered shot.trigger.frame ns ns' ∧
            r'.captured = r.captured ∧
            (shot.trigger.frame ∉ ns → 64 ≤ ns.length → r'.overflow = true)) ∧
      (∀ v, Settles (.cameraAnswer (.metric v)) s fun u => filed .fail .camera u) ∧
      (Settles .answerLimitExpiry s fun u => filed .fail .noAnswer u ∧ u.capture.answerLock = true ∧
        u.capture.handshake = .notReady)) ∧
    (∀ h j, s.capture.outstanding = some (.capture limit shot) → s.capture.holding = some h → h.phase = .waitAnswer →
      shot.trigger = h.trigger → s.arbiter.current = none → JobsSound s → findJob h.trigger.job s = some j →
      j.isOpen = true →
      (h.attempt = 1 → Settles (.cameraAnswer .fail) s fun u => filed .fail .camera u ∧
        u.capture.holding = some { trigger := h.trigger, attempt := 2, phase := .atAxis } ∧
        h.trigger ∈ u.capture.armed ∧ u.arbiter = s.arbiter ∧ u.transport.state = s.transport.state) ∧
      (∀ is n i (ended : ItemOutcome → State → Prop), j.body = .fetch is → h.trigger.item = some n → is[n - 1]? = some i →
        (∀ o u, ended o u ↔ u.capture.holding = none ∧ u.arbiter.captureHold = false ∧ ∃ k is' i',
          findJob h.trigger.job u = some k ∧ k.body = .fetch is' ∧ is'[n - 1]? = some i' ∧ i'.outcome = o ∧
            i'.resolved = i.resolved) →
        (Settles (.cameraAnswer .done) s fun u => filed .done .none u ∧ ended .captured u) ∧
        (h.attempt ≠ 1 → Settles (.cameraAnswer .fail) s fun u => filed .fail .camera u ∧ ended .failed u)) ∧
      (∀ r, j.body = .sweep r → h.trigger.kind ≠ .revisit → h.trigger.item = none → r.nextFrame = some h.trigger.frame →
        Settles (.cameraAnswer .done) s fun u => filed .done .none u ∧ u.capture.holding = none ∧
          u.arbiter.captureHold = false ∧ ∃ k r', findJob h.trigger.job u = some k ∧ k.body = .sweep r' ∧
            r'.captured = min 16384 (r.captured + 1) ∧
            (s.index.entries.length ≤ h.trigger.frame + 1 ∨ (∃ y, r.endFrame = some (.frame y) ∧ y ≤ h.trigger.frame) →
              r'.nextFrame = none) ∧
            (h.trigger.frame + 1 < s.index.entries.length → (∀ y, r.endFrame = some (.frame y) → h.trigger.frame < y) →
              r'.nextFrame = some (h.trigger.frame + 1))) ∧
      (∀ r ns, j.body = .sweep r → h.trigger.kind = .revisit → h.trigger.item = none →
        s.capture.revisitOf h.trigger.job = some ns →
        Settles (.cameraAnswer .done) s fun u => filed .done .none u ∧ u.capture.holding = none ∧
          u.arbiter.captureHold = false ∧ ∃ k r', findJob h.trigger.job u = some k ∧ k.body = .sweep r' ∧
            r'.captured = min 16384 (r.captured + 1) ∧ r'.revisits = min 64 (r.revisits + 1) ∧
            ((∃ x ∈ ns, x ≠ h.trigger.frame) → k.isOpen = true ∧
              u.capture.revisitOf h.trigger.job = some (ns.filter (· ≠ h.trigger.frame)) ∧
              ∃ q f, u.arbiter.entryOf (.job h.trigger.job) = some q ∧ q.kind = .item ∧ q.frame = some f ∧ f ∈ ns ∧
                f ≠ h.trigger.frame ∧
                ∀ x ∈ ns, x ≠ h.trigger.frame → (∀ t t', triggerPosition s f = some t → triggerPosition s x = some t' →
                  max t s.transport.position - min t s.transport.position ≤
                    max t' s.transport.position - min t' s.transport.position)) ∧
            (∀ a b, (∀ x ∈ ns, x = h.trigger.frame) → r.fromFrame = some a → r.endFrame = some (.frame b) → a ≤ b →
              k.endReason = .none ∧
              (r'.captured = b + 1 - a → k.state = .done) ∧ (r'.captured < b + 1 - a → k.state = .part)))) ∧
    (∀ sr lim, s.capture.outstanding = some (.trial lim) → s.focus.search = some sr → sr.stage = .fired →
      ∀ v : BitVec 16, Settles (.cameraAnswer (.metric v)) s fun u =>
        u.focus.search = some (sr.record v.toNat true) ∧ u.capture.outstanding = none ∧ u.transport = s.transport ∧
          u.index = s.index)

/-- CAMERA_READY_RISE clears answer_lock, CAMERA_READY_FALL leaves it; both set the READY level and no other; with no trigger outstanding
the handshake follows, and with one it stays WAIT_ANSWER; the wait of a stationary capture that runs out makes its frame MISSED by
CAMERA_BUSY (R94, R109): the transport is released (R110), and the item of a FETCH takes outcome MISSED, the job choosing again or ending
(R145, R146). The order of a step's effects is the model's (log 8). -/
def Obligations.CameraReady : Prop :=
  ∀ s : State,
    (s.capture.outstanding = none →
      (Settles .cameraReadyRise s fun u => u = { s with pins := u.pins, capture := u.capture } ∧
        u.pins = { s.pins with levels := { s.pins.levels with cameraReady := true } } ∧
        u.capture = { s.capture with answerLock := false, handshake := .ready }) ∧
      (∃ t, exec .cameraReadyFall s = .next t ∧ t = { s with pins := t.pins, capture := t.capture } ∧
        t.pins = { s.pins with levels := { s.pins.levels with cameraReady := false } } ∧
        t.capture = { s.capture with handshake := .notReady })) ∧
    (s.capture.outstanding ≠ none →
      (Settles .cameraReadyRise s fun u => u = { s with pins := u.pins, capture := u.capture } ∧
        u.pins = { s.pins with levels := { s.pins.levels with cameraReady := true } } ∧
        u.capture = { s.capture with answerLock := false }) ∧
      (∃ t, exec .cameraReadyFall s = .next t ∧ t = { s with pins := t.pins } ∧
        t.pins = { s.pins with levels := { s.pins.levels with cameraReady := false } })) ∧
    (∀ h limit e, s.capture.holding = some h → h.phase = .waitCamera limit →
      s.index.entries[h.trigger.frame]? = some e →
      Settles .cameraWaitExpiry s fun u => u.capture.holding = none ∧
        u.capture.lastMiss = some (h.trigger.frame, .cameraBusy) ∧
        (∃ x, u.index.entries[h.trigger.frame]? = some x ∧ x.captureState = .missed ∧ x.low = e.low ∧
          x.high = e.high ∧ x.address = e.address ∧ x.captureCount = e.captureCount) ∧
        u.arbiter.captureHold = false ∧ u.fault = s.fault ∧
        (s.arbiter.current = none → u.transport = s.transport) ∧
        (∀ j is k i, JobsSound s → s.arbiter.current = none → findJob h.trigger.job s = some j → j.isOpen = true →
          j.body = .fetch is → h.trigger.item = some k → is[k - 1]? = some i →
          ∃ j' is' i', findJob h.trigger.job u = some j' ∧ j'.body = .fetch is' ∧ is'[k - 1]? = some i' ∧
            i'.outcome = .missed ∧ i'.resolved = i.resolved ∧ i'.captures = i.captures ∧
            ((∀ x ∈ is', x.outcome ≠ .pending) → j'.isOpen = false) ∧
            ((∃ x ∈ is', x.outcome = .pending) → j'.isOpen = true ∧
              ∃ q ∈ u.arbiter.queue, q.requester = .job h.trigger.job)))

/-- A RUN trigger whose T is passed (R101, R102; log 6): with reference not EXACT, or for a frame that needs a search, the run is asked to
stop, its triggers disarmed, and nothing is fired or missed; else a handshake not READY, a full ring and a lens not at target miss it in
that order, the entry then MISSED and nothing fired; else it is fired with its focus step recorded. A fire or a miss moves next_frame to
the frame after it (R150) and counts toward the yield, which stops the run at 64 with an eligible NORMAL entry waiting (R124); a miss is
offered to the revisit list (R112). The stopped run's entry is taken anew, after a suspension with resume and its sweep SUSPENDED (R125;
it stays so until its entry is current, log 22), or stays as it is after a stop by the sequencer (R126). At the boundary the triggers
still armed are disarmed (log 19) and the sweep goes on by R151: a new RUN after REACHED with frames left, else a tail frame's ITEM, else
the nearest revisit (R152), else the end by R153. -/
def Obligations.RunTriggerTaken : Prop :=
  ∀ (a : Armed) (s : State) (needs : Bool) (missed : MissReason → Prop),
    needs = needsSearch a.frame (a.t - s.transport.profile.axisOffset) (policySearch a.job s) s →
    (∀ why, missed why ↔ (takeTrigger a s).capture.lastMiss = some (a.frame, why) ∧
      (takeTrigger a s).capture.outstanding = s.capture.outstanding ∧
      (takeTrigger a s).capture.ring = s.capture.ring ∧
      (takeTrigger a s).arbiter.yieldCount = min 64 (s.arbiter.yieldCount + 1) ∧
      ∀ e, s.index.entries[a.frame]? = some e →
        ∃ x, (takeTrigger a s).index.entries[a.frame]? = some x ∧ x.captureState = .missed ∧ x.low = e.low ∧
          x.high = e.high ∧ x.address = e.address ∧ x.captureCount = e.captureCount) →
    (s.transport.reference ≠ .exact → takeTrigger a s = askStop .sequencer s) ∧
    (s.transport.reference = .exact → needs = true → takeTrigger a s = askStop (.searchFrame a.frame) s) ∧
    (s.transport.reference ≠ .exact ∨ needs = true →
      (takeTrigger a s).capture.outstanding = s.capture.outstanding ∧
      (takeTrigger a s).capture.lastMiss = s.capture.lastMiss ∧ (takeTrigger a s).capture.ring = s.capture.ring ∧
      (takeTrigger a s).index = s.index ∧ (takeTrigger a s).jobs = s.jobs ∧
      (takeTrigger a s).arbiter.yieldCount = s.arbiter.yieldCount ∧
      (∀ c m why, s.arbiter.current = some c → c.kind = .run → c.stop = none → s.transport.move = some m →
        s.transport.state = .moving →
        why = (if s.transport.reference = .exact then .searchFrame a.frame else .sequencer) →
        (takeTrigger a s).arbiter.current = some { c with stop := some why } ∧
        (takeTrigger a s).transport.move = some { m with stopping := true } ∧
        (takeTrigger a s).transport.drive = none ∧ (takeTrigger a s).capture.armed = [])) ∧
    (s.transport.reference = .exact → needs = false →
      (s.capture.handshake ≠ .ready → missed .cameraBusy) ∧
      (s.capture.handshake = .ready → 31 ≤ s.capture.ring.length → missed .ringFull) ∧
      (s.capture.handshake = .ready → s.capture.ring.length < 31 → atTarget a.frame s = false → missed .lensLate) ∧
      (s.capture.handshake = .ready → s.capture.ring.length < 31 → atTarget a.frame s = true →
        (takeTrigger a s).capture.handshake = .waitAnswer ∧
        (takeTrigger a s).capture.lastMiss = s.capture.lastMiss ∧
        (takeTrigger a s).arbiter.yieldCount = min 64 (s.arbiter.yieldCount + 1) ∧
        ∃ shot, (takeTrigger a s).capture.outstanding = some (.capture s.transport.profile.answerLimit shot) ∧
          shot.trigger = a ∧ shot.drop = false ∧ some shot.lens = s.focus.lens ∧
          ∀ e, s.index.entries[a.frame]? = some e →
            ∃ x, (takeTrigger a s).index.entries[a.frame]? = some x ∧ x.lastFocusStep = some shot.lens ∧
              x.low = e.low ∧ x.high = e.high ∧ x.address = e.address ∧ x.captureState = e.captureState) ∧
      (∀ j r, JobsSound s → findJob a.job s = some j → j.isOpen = true → j.body = .sweep r →
        ∃ k r', findJob a.job (takeTrigger a s) = some k ∧ k.body = .sweep r' ∧ k.state = j.state ∧
          r'.captured = r.captured ∧
          (s.index.entries.length ≤ a.frame + 1 ∨ (∃ y, r.endFrame = some (.frame y) ∧ y ≤ a.frame) →
            r'.nextFrame = none) ∧
          (a.frame + 1 < s.index.entries.length → (∀ y, r.endFrame = some (.frame y) → a.frame < y) →
            r'.nextFrame = some (a.frame + 1)) ∧
          (∀ ns, s.capture.revisitOf a.job = some ns → ∃ ns', (takeTrigger a s).capture.revisitOf a.job = some ns' ∧
            (s.capture.handshake = .ready → s.capture.ring.length < 31 → atTarget a.frame s = true → ns' = ns) ∧
            (s.capture.handshake ≠ .ready ∨ 31 ≤ s.capture.ring.length ∨ atTarget a.frame s = false →
              Offered a.frame ns ns' ∧ (a.frame ∉ ns → 64 ≤ ns.length → r'.overflow = true)))) ∧
      (∀ c m, 63 ≤ s.arbiter.yieldCount → s.arbiter.current = some c → c.kind = .run → c.stop = none → c.search = none →
        s.transport.move = some m → s.transport.state = .moving →
        (∃ q ∈ s.arbiter.queue, q.cls = .normal ∧ eligible s q = true ∧ q.requester ≠ c.requester) →
        (takeTrigger a s).arbiter.current = some { c with stop := some .yielded } ∧
        (takeTrigger a s).transport.move = some { m with stopping := true } ∧
        (takeTrigger a s).transport.drive = none ∧ (takeTrigger a s).capture.armed = [])) ∧
    (∀ c n j r q, s.arbiter.current = some c → c.requester = .job n → c.kind = .run → c.search = none → JobsSound s →
      findJob n s = some j → j.isOpen = true → j.body = .sweep r → s.arbiter.entryOf (.job n) = some q → q.kind = .run →
      q.frame = c.frame → s.capture.holding = none →
      (c.stop = some .suspended ∨ c.stop = some .yielded → s.arbiter.arrival < 65535 →
        (completeMove .stopped s).arbiter.current = none ∧
        (∃ k, findJob n (completeMove .stopped s) = some k ∧ k.body = .sweep r ∧
          k.state = (if c.stop = some .suspended then .suspended else j.state)) ∧
        ∃ x, (completeMove .stopped s).arbiter.entryOf (.job n) = some x ∧ x.cls = .normal ∧ x.kind = .run ∧
          x.skip = 0 ∧ x.arrival = s.arbiter.arrival ∧ (x.resume = true ↔ c.stop = some .suspended) ∧
          ∀ f e, r.nextFrame = some f → s.index.entries[f]? = some e → x.start = e.low - s.transport.profile.pitchMax) ∧
      (c.stop = some .sequencer → (completeMove .stopped s).arbiter.current = none ∧
        (completeMove .stopped s).arbiter.queue = s.arbiter.queue ∧ (completeMove .stopped s).jobs = s.jobs) ∧
      (∀ o x y, o ≠ .stopped → c.leg = .main → c.stop = none → r.fromFrame = some x → r.endFrame = some y → j.urgent = false →
        s.capture.outstanding = none → ∀ u, u = completeMove o s →
        u.arbiter.current = none ∧ u.capture.armed = [] ∧
        (∀ f, r.nextFrame = some f → ∃ k r', findJob n u = some k ∧ k.state = j.state ∧ k.body = .sweep r' ∧
          r'.nextFrame = some f ∧ ∃ z, u.arbiter.entryOf (.job n) = some z ∧ z.cls = .normal ∧
            (o = .reached → z.kind = .run) ∧ (o ≠ .reached → z.kind = .item ∧ z.frame = some f)) ∧
        (∀ ns, r.nextFrame = none → r.revisit = true → s.capture.revisitOf n = some ns → ns ≠ [] → j.state ≠ .suspended →
          (∃ k, findJob n u = some k ∧ k.state = .revisiting) ∧
          ∃ z f, u.arbiter.entryOf (.job n) = some z ∧ z.cls = .normal ∧ z.kind = .item ∧ z.frame = some f ∧ f ∈ ns ∧
            ∀ g ∈ ns, ∀ t t', triggerPosition s f = some t → triggerPosition s g = some t' →
              max t s.transport.position - min t s.transport.position ≤
                max t' s.transport.position - min t' s.transport.position) ∧
        (∀ last, r.nextFrame = none → (r.revisit = false ∨ s.capture.revisitOf n = some []) →
          (y = .rollEnd → last = s.index.entries.length - 1) → (∀ b, y = .frame b → last = b) → x ≤ last →
          u.arbiter.entryOf (.job n) = none ∧ ∃ k, findJob n u = some k ∧ k.endReason = .none ∧
            (r.captured = 0 → k.state = .failed) ∧
            (0 < r.captured → r.captured < last + 1 - x → k.state = .part) ∧
            (r.captured = last + 1 - x → k.state = .done))))

/-- The throttle after a filing or a removal: ON at 24 records or more, OFF at 15 or fewer, kept between; the CAPTURE speed is
capture_speed, or while ON half of it but not below 10, and a CAPTURE motion in flight takes it at once (R107). -/
def Obligations.ThrottleTested : Prop :=
  ∀ (s t : State) (r : CaptureRecord), t = fileRecord r s ∨ t = removeHead s →
    (24 ≤ t.capture.ring.length → t.capture.throttle = true) ∧
    (t.capture.ring.length ≤ 15 → t.capture.throttle = false) ∧
    (15 < t.capture.ring.length → t.capture.ring.length < 24 → t.capture.throttle = s.capture.throttle) ∧
    captureSpeed t = (if t.capture.throttle then max 10 (s.transport.profile.captureSpeed / 2)
      else s.transport.profile.captureSpeed) ∧
    (∀ d, t.transport.drive = some d → d.speed = .capture → t.capture.throttle ≠ s.capture.throttle →
      d.capture = captureSpeed t)

/-! ### Arbitration -/

/-- The arbiter. A selection is made with no entry current, the holds, the claim and blocked clear, not HALTED, in READY or RESTING
(R120); an INTERNAL entry is chosen first, else within the eligible URGENT entries, else within the eligible NORMAL ones, else the
BACKGROUND entry (R121). A sweep's RUN and ITEM entries are held back while another sweep is RUNNING or REVISITING (R149). The choice
within a class, made whenever the class has an entry: an entry with skip_count 8 or more of lowest arrival, with the direction kept; else
the nearest in the elevator direction, ties to the lowest arrival; else the same in the other direction. It adds 1 to the skip_count, up
to 15, of every other eligible entry of the class alone, starts a RUN's occupancy, and clears the resume of the entry chosen. Start
positions are computed afresh (R119). A submission places an entry with skip_count 0, resume clear and the next arrival, renumbered past
65535, or re-targets the one held, arrival and skip_count kept (R117); that a re-target leaves resume as it was is the model's choice (log
64). An eligible URGENT entry placed suspends a run that is not immune (R125; the test is made at the
placing, log 24). -/
def Obligations.SelectionOrder : Prop :=
  (∀ (dir : Elevator) (pos : Nat) (es : List QEntry),
      (es ≠ [] → ∃ e d, chooseIn dir pos es = some (e, d)) ∧
      ∀ (e : QEntry) (d : Elevator), chooseIn dir pos es = some (e, d) →
        e ∈ es ∧
        ((∃ x ∈ es, 8 ≤ x.skip) → 8 ≤ e.skip ∧ d = dir ∧ ∀ x ∈ es, 8 ≤ x.skip → e.arrival ≤ x.arrival) ∧
        ((∀ x ∈ es, x.skip < 8) →
          ((∃ x ∈ es, (dir = .up → pos ≤ x.start) ∧ (dir = .down → x.start ≤ pos)) → d = dir) ∧
          ((∀ x ∈ es, (dir = .up → x.start < pos) ∧ (dir = .down → pos < x.start)) → d = dir.flip) ∧
          (d = .up → pos ≤ e.start ∧ ∀ x ∈ es, pos ≤ x.start →
            e.start < x.start ∨ e.start = x.start ∧ e.arrival ≤ x.arrival) ∧
          (d = .down → e.start ≤ pos ∧ ∀ x ∈ es, x.start ≤ pos →
            x.start < e.start ∨ x.start = e.start ∧ e.arrival ≤ x.arrival))) ∧
  (∀ (s : State) (q : QEntry), eligible s q = false ↔ ∃ n, q.requester = .job n ∧ (q.kind = .run ∨ q.kind = .item) ∧
    (∃ j ∈ s.jobs.slots, j.number = n ∧ j.body.code = 5) ∧
    ∃ k ∈ s.jobs.slots, k.number ≠ n ∧ k.body.code = 5 ∧ (k.state = .running ∨ k.state = .revisiting)) ∧
  (∀ s : State, s.arbiter.current ≠ none ∨ s.arbiter.captureHold = true ∨ s.arbiter.searchHold = true ∨
      s.arbiter.rollClaim = true ∨ s.arbiter.blocked = true ∨ s.fault.halted = true ∨
      s.transport.state ≠ .ready ∧ s.transport.state ≠ .resting → select s = s) ∧
  (∀ (s : State) (f n : Nat) (e : Entry) (q : QEntry), q ∈ (refreshStarts s).arbiter.queue →
    (q.kind = .seek ∨ q.kind = .item → q.frame = some f → s.index.entries[f]? = some e →
      q.start = (e.low + e.high) / 2 + s.transport.profile.axisOffset) ∧
    (q.kind = .index ∨ q.kind = .readAhead → q.start = s.index.frontier - s.transport.profile.pitchMax) ∧
    (∀ j r, q.kind = .run → q.requester = .job n → JobsSound s → findJob n s = some j → j.isOpen = true →
      j.body = .sweep r → r.nextFrame = some f →
      (s.index.entries[f]? = some e → q.start = e.low - s.transport.profile.pitchMax) ∧
      (s.index.entries[f]? = none → q.start = s.index.frontier - s.transport.profile.pitchMax)) ∧
    (∀ r, q.kind = .rescan → s.tracker.rescan = some r → q.start = r.reverseTarget) ∧
    (q.kind = .reference → q.start = 0)) ∧
  (∀ (s : State) (q : List QEntry) (selected : QEntry → Prop), s.arbiter.current = none → s.arbiter.captureHold = false →
    s.arbiter.searchHold = false → s.arbiter.rollClaim = false → s.arbiter.blocked = false → s.fault.halted = false →
    s.transport.state = .resting → s.transport.move = none → s.transport.reference ≠ .lost →
    q = (refreshStarts s).arbiter.queue →
    (∀ e, selected e ↔ (select s).transport.state = .tensioning ∧ (select s).arbiter.current.map
      (fun c => (c.requester, c.cls, c.kind, c.frame, c.stop, c.search)) = some (e.requester, e.cls, e.kind, e.frame, none, none)) →
    (∀ e, q.find? (fun x => x.cls == .internal) = some e → selected e ∧ (select s).arbiter.queue = q ∧
      (select s).arbiter.elevator = s.arbiter.elevator) ∧
    ((∀ x ∈ q, x.cls ≠ .internal) →
      (∀ (cls : QClass) (es : List QEntry) (e : QEntry) (d : Elevator), es = q.filter (fun x => x.cls == cls && eligible s x) →
        es ≠ [] → cls = .urgent ∨ cls = .normal ∧ (∀ x ∈ q, x.cls = .urgent → eligible s x = false) →
        chooseIn s.arbiter.elevator s.transport.position es = some (e, d) →
        selected e ∧ (select s).arbiter.elevator = d ∧
        (select s).arbiter.queue = q.map (fun x =>
          { x with
            skip := if x.cls = cls ∧ x.requester ≠ e.requester ∧ eligible s x = true then min 15 (x.skip + 1) else x.skip,
            resume := if x.requester = e.requester then false else x.resume }) ∧
        (e.kind = .run → (select s).arbiter.yieldCount = 0 ∧ (select s).arbiter.runImmune = e.resume)) ∧
      ((∀ x ∈ q, x.cls = .urgent ∨ x.cls = .normal → eligible s x = false) →
        (∀ e, q.find? (fun x => x.cls == .background) = some e → selected e ∧ (select s).arbiter.queue = q ∧
          (select s).arbiter.elevator = s.arbiter.elevator) ∧
        ((∀ x ∈ q, x.cls ≠ .background) → (select s).arbiter.current = none)))) ∧
  (∀ (r : Requester) (cls : QClass) (k : QKind) (frame : Option Nat) (s : State),
    (s.arbiter.current = none → s.arbiter.entryOf r = none → ∃ (e : QEntry) (q : List QEntry), q = s.arbiter.queue ++ [e] ∧
      e.requester = r ∧ e.cls = cls ∧ e.kind = k ∧ e.frame = frame ∧ e.skip = 0 ∧ e.resume = false ∧
      e.arrival = s.arbiter.arrival ∧
      (s.arbiter.arrival < 65535 → (submit r cls k frame s).arbiter.queue = q ∧
        (submit r cls k frame s).arbiter.arrival = s.arbiter.arrival + 1) ∧
      (65535 ≤ s.arbiter.arrival → (submit r cls k frame s).arbiter.arrival = q.length ∧
        (submit r cls k frame s).arbiter.queue =
          q.map fun x => { x with arrival := q.countP fun y => y.arrival < x.arrival })) ∧
    (∀ old, s.arbiter.current = none → s.arbiter.entryOf r = some old →
      (∃ e, (submit r cls k frame s).arbiter.entryOf r = some e ∧ e.cls = cls ∧ e.kind = k ∧ e.frame = frame ∧
        e.arrival = old.arrival ∧ e.skip = old.skip ∧ e.resume = old.resume) ∧
      (submit r cls k frame s).arbiter.arrival = s.arbiter.arrival ∧
      (submit r cls k frame s).arbiter.queue.filter (fun x => x.requester != r) =
        s.arbiter.queue.filter (fun x => x.requester != r)) ∧
    (∀ c m, s.arbiter.entryOf r = none → s.arbiter.current = some c → c.kind = .run → c.stop = none → c.search = none →
      r ≠ c.requester → s.transport.move = some m → s.transport.state = .moving → cls = .urgent →
      (∀ q : QEntry, q.requester = r → q.kind = k → eligible s q = true) →
      (s.arbiter.runImmune = false →
        (submit r cls k frame s).arbiter.current = some { c with stop := some .suspended } ∧
        (submit r cls k frame s).transport.move = some { m with stopping := true } ∧
        (submit r cls k frame s).transport.drive = none ∧ (submit r cls k frame s).capture.armed = []) ∧
      (s.arbiter.runImmune = true → s.arbiter.yieldCount < 64 →
        (submit r cls k frame s).arbiter.current = some c ∧ (submit r cls k frame s).transport = s.transport)))
end

