-- ==== Sys2Proof/Laws/State.lean ====
section
/-! SUPPORT. One lemma per field of State and update of one block, so that no proof unfolds a record update. -/

namespace Sys2Proof.Machine

@[simp] theorem State.onTransport_transport (f : Transport → Transport) (s : State) : (s.onTransport f).transport = f s.transport := rfl
@[simp] theorem State.onTransport_tracker (f : Transport → Transport) (s : State) : (s.onTransport f).tracker = s.tracker := rfl
@[simp] theorem State.onTransport_index (f : Transport → Transport) (s : State) : (s.onTransport f).index = s.index := rfl
@[simp] theorem State.onTransport_focus (f : Transport → Transport) (s : State) : (s.onTransport f).focus = s.focus := rfl
@[simp] theorem State.onTransport_capture (f : Transport → Transport) (s : State) : (s.onTransport f).capture = s.capture := rfl
@[simp] theorem State.onTransport_arbiter (f : Transport → Transport) (s : State) : (s.onTransport f).arbiter = s.arbiter := rfl
@[simp] theorem State.onTransport_jobs (f : Transport → Transport) (s : State) : (s.onTransport f).jobs = s.jobs := rfl
@[simp] theorem State.onTransport_fault (f : Transport → Transport) (s : State) : (s.onTransport f).fault = s.fault := rfl
@[simp] theorem State.onTransport_links (f : Transport → Transport) (s : State) : (s.onTransport f).links = s.links := rfl
@[simp] theorem State.onTransport_pins (f : Transport → Transport) (s : State) : (s.onTransport f).pins = s.pins := rfl
@[simp] theorem State.onTransport_pending (f : Transport → Transport) (s : State) : (s.onTransport f).pending = s.pending := rfl

@[simp] theorem State.onTracker_transport (f : Tracker → Tracker) (s : State) : (s.onTracker f).transport = s.transport := rfl
@[simp] theorem State.onTracker_tracker (f : Tracker → Tracker) (s : State) : (s.onTracker f).tracker = f s.tracker := rfl
@[simp] theorem State.onTracker_index (f : Tracker → Tracker) (s : State) : (s.onTracker f).index = s.index := rfl
@[simp] theorem State.onTracker_focus (f : Tracker → Tracker) (s : State) : (s.onTracker f).focus = s.focus := rfl
@[simp] theorem State.onTracker_capture (f : Tracker → Tracker) (s : State) : (s.onTracker f).capture = s.capture := rfl
@[simp] theorem State.onTracker_arbiter (f : Tracker → Tracker) (s : State) : (s.onTracker f).arbiter = s.arbiter := rfl
@[simp] theorem State.onTracker_jobs (f : Tracker → Tracker) (s : State) : (s.onTracker f).jobs = s.jobs := rfl
@[simp] theorem State.onTracker_fault (f : Tracker → Tracker) (s : State) : (s.onTracker f).fault = s.fault := rfl
@[simp] theorem State.onTracker_links (f : Tracker → Tracker) (s : State) : (s.onTracker f).links = s.links := rfl
@[simp] theorem State.onTracker_pins (f : Tracker → Tracker) (s : State) : (s.onTracker f).pins = s.pins := rfl
@[simp] theorem State.onTracker_pending (f : Tracker → Tracker) (s : State) : (s.onTracker f).pending = s.pending := rfl

@[simp] theorem State.onIndex_transport (f : Index → Index) (s : State) : (s.onIndex f).transport = s.transport := rfl
@[simp] theorem State.onIndex_tracker (f : Index → Index) (s : State) : (s.onIndex f).tracker = s.tracker := rfl
@[simp] theorem State.onIndex_index (f : Index → Index) (s : State) : (s.onIndex f).index = f s.index := rfl
@[simp] theorem State.onIndex_focus (f : Index → Index) (s : State) : (s.onIndex f).focus = s.focus := rfl
@[simp] theorem State.onIndex_capture (f : Index → Index) (s : State) : (s.onIndex f).capture = s.capture := rfl
@[simp] theorem State.onIndex_arbiter (f : Index → Index) (s : State) : (s.onIndex f).arbiter = s.arbiter := rfl
@[simp] theorem State.onIndex_jobs (f : Index → Index) (s : State) : (s.onIndex f).jobs = s.jobs := rfl
@[simp] theorem State.onIndex_fault (f : Index → Index) (s : State) : (s.onIndex f).fault = s.fault := rfl
@[simp] theorem State.onIndex_links (f : Index → Index) (s : State) : (s.onIndex f).links = s.links := rfl
@[simp] theorem State.onIndex_pins (f : Index → Index) (s : State) : (s.onIndex f).pins = s.pins := rfl
@[simp] theorem State.onIndex_pending (f : Index → Index) (s : State) : (s.onIndex f).pending = s.pending := rfl

@[simp] theorem State.onFocus_transport (f : Focus → Focus) (s : State) : (s.onFocus f).transport = s.transport := rfl
@[simp] theorem State.onFocus_tracker (f : Focus → Focus) (s : State) : (s.onFocus f).tracker = s.tracker := rfl
@[simp] theorem State.onFocus_index (f : Focus → Focus) (s : State) : (s.onFocus f).index = s.index := rfl
@[simp] theorem State.onFocus_focus (f : Focus → Focus) (s : State) : (s.onFocus f).focus = f s.focus := rfl
@[simp] theorem State.onFocus_capture (f : Focus → Focus) (s : State) : (s.onFocus f).capture = s.capture := rfl
@[simp] theorem State.onFocus_arbiter (f : Focus → Focus) (s : State) : (s.onFocus f).arbiter = s.arbiter := rfl
@[simp] theorem State.onFocus_jobs (f : Focus → Focus) (s : State) : (s.onFocus f).jobs = s.jobs := rfl
@[simp] theorem State.onFocus_fault (f : Focus → Focus) (s : State) : (s.onFocus f).fault = s.fault := rfl
@[simp] theorem State.onFocus_links (f : Focus → Focus) (s : State) : (s.onFocus f).links = s.links := rfl
@[simp] theorem State.onFocus_pins (f : Focus → Focus) (s : State) : (s.onFocus f).pins = s.pins := rfl
@[simp] theorem State.onFocus_pending (f : Focus → Focus) (s : State) : (s.onFocus f).pending = s.pending := rfl

@[simp] theorem State.onCapture_transport (f : Capture → Capture) (s : State) : (s.onCapture f).transport = s.transport := rfl
@[simp] theorem State.onCapture_tracker (f : Capture → Capture) (s : State) : (s.onCapture f).tracker = s.tracker := rfl
@[simp] theorem State.onCapture_index (f : Capture → Capture) (s : State) : (s.onCapture f).index = s.index := rfl
@[simp] theorem State.onCapture_focus (f : Capture → Capture) (s : State) : (s.onCapture f).focus = s.focus := rfl
@[simp] theorem State.onCapture_capture (f : Capture → Capture) (s : State) : (s.onCapture f).capture = f s.capture := rfl
@[simp] theorem State.onCapture_arbiter (f : Capture → Capture) (s : State) : (s.onCapture f).arbiter = s.arbiter := rfl
@[simp] theorem State.onCapture_jobs (f : Capture → Capture) (s : State) : (s.onCapture f).jobs = s.jobs := rfl
@[simp] theorem State.onCapture_fault (f : Capture → Capture) (s : State) : (s.onCapture f).fault = s.fault := rfl
@[simp] theorem State.onCapture_links (f : Capture → Capture) (s : State) : (s.onCapture f).links = s.links := rfl
@[simp] theorem State.onCapture_pins (f : Capture → Capture) (s : State) : (s.onCapture f).pins = s.pins := rfl
@[simp] theorem State.onCapture_pending (f : Capture → Capture) (s : State) : (s.onCapture f).pending = s.pending := rfl

@[simp] theorem State.onArbiter_transport (f : Arbiter → Arbiter) (s : State) : (s.onArbiter f).transport = s.transport := rfl
@[simp] theorem State.onArbiter_tracker (f : Arbiter → Arbiter) (s : State) : (s.onArbiter f).tracker = s.tracker := rfl
@[simp] theorem State.onArbiter_index (f : Arbiter → Arbiter) (s : State) : (s.onArbiter f).index = s.index := rfl
@[simp] theorem State.onArbiter_focus (f : Arbiter → Arbiter) (s : State) : (s.onArbiter f).focus = s.focus := rfl
@[simp] theorem State.onArbiter_capture (f : Arbiter → Arbiter) (s : State) : (s.onArbiter f).capture = s.capture := rfl
@[simp] theorem State.onArbiter_arbiter (f : Arbiter → Arbiter) (s : State) : (s.onArbiter f).arbiter = f s.arbiter := rfl
@[simp] theorem State.onArbiter_jobs (f : Arbiter → Arbiter) (s : State) : (s.onArbiter f).jobs = s.jobs := rfl
@[simp] theorem State.onArbiter_fault (f : Arbiter → Arbiter) (s : State) : (s.onArbiter f).fault = s.fault := rfl
@[simp] theorem State.onArbiter_links (f : Arbiter → Arbiter) (s : State) : (s.onArbiter f).links = s.links := rfl
@[simp] theorem State.onArbiter_pins (f : Arbiter → Arbiter) (s : State) : (s.onArbiter f).pins = s.pins := rfl
@[simp] theorem State.onArbiter_pending (f : Arbiter → Arbiter) (s : State) : (s.onArbiter f).pending = s.pending := rfl

@[simp] theorem State.onJobs_transport (f : Jobs → Jobs) (s : State) : (s.onJobs f).transport = s.transport := rfl
@[simp] theorem State.onJobs_tracker (f : Jobs → Jobs) (s : State) : (s.onJobs f).tracker = s.tracker := rfl
@[simp] theorem State.onJobs_index (f : Jobs → Jobs) (s : State) : (s.onJobs f).index = s.index := rfl
@[simp] theorem State.onJobs_focus (f : Jobs → Jobs) (s : State) : (s.onJobs f).focus = s.focus := rfl
@[simp] theorem State.onJobs_capture (f : Jobs → Jobs) (s : State) : (s.onJobs f).capture = s.capture := rfl
@[simp] theorem State.onJobs_arbiter (f : Jobs → Jobs) (s : State) : (s.onJobs f).arbiter = s.arbiter := rfl
@[simp] theorem State.onJobs_jobs (f : Jobs → Jobs) (s : State) : (s.onJobs f).jobs = f s.jobs := rfl
@[simp] theorem State.onJobs_fault (f : Jobs → Jobs) (s : State) : (s.onJobs f).fault = s.fault := rfl
@[simp] theorem State.onJobs_links (f : Jobs → Jobs) (s : State) : (s.onJobs f).links = s.links := rfl
@[simp] theorem State.onJobs_pins (f : Jobs → Jobs) (s : State) : (s.onJobs f).pins = s.pins := rfl
@[simp] theorem State.onJobs_pending (f : Jobs → Jobs) (s : State) : (s.onJobs f).pending = s.pending := rfl

@[simp] theorem State.onFault_transport (f : FaultRecord → FaultRecord) (s : State) : (s.onFault f).transport = s.transport := rfl
@[simp] theorem State.onFault_tracker (f : FaultRecord → FaultRecord) (s : State) : (s.onFault f).tracker = s.tracker := rfl
@[simp] theorem State.onFault_index (f : FaultRecord → FaultRecord) (s : State) : (s.onFault f).index = s.index := rfl
@[simp] theorem State.onFault_focus (f : FaultRecord → FaultRecord) (s : State) : (s.onFault f).focus = s.focus := rfl
@[simp] theorem State.onFault_capture (f : FaultRecord → FaultRecord) (s : State) : (s.onFault f).capture = s.capture := rfl
@[simp] theorem State.onFault_arbiter (f : FaultRecord → FaultRecord) (s : State) : (s.onFault f).arbiter = s.arbiter := rfl
@[simp] theorem State.onFault_jobs (f : FaultRecord → FaultRecord) (s : State) : (s.onFault f).jobs = s.jobs := rfl
@[simp] theorem State.onFault_fault (f : FaultRecord → FaultRecord) (s : State) : (s.onFault f).fault = f s.fault := rfl
@[simp] theorem State.onFault_links (f : FaultRecord → FaultRecord) (s : State) : (s.onFault f).links = s.links := rfl
@[simp] theorem State.onFault_pins (f : FaultRecord → FaultRecord) (s : State) : (s.onFault f).pins = s.pins := rfl
@[simp] theorem State.onFault_pending (f : FaultRecord → FaultRecord) (s : State) : (s.onFault f).pending = s.pending := rfl

@[simp] theorem State.onPins_transport (f : Pins → Pins) (s : State) : (s.onPins f).transport = s.transport := rfl
@[simp] theorem State.onPins_tracker (f : Pins → Pins) (s : State) : (s.onPins f).tracker = s.tracker := rfl
@[simp] theorem State.onPins_index (f : Pins → Pins) (s : State) : (s.onPins f).index = s.index := rfl
@[simp] theorem State.onPins_focus (f : Pins → Pins) (s : State) : (s.onPins f).focus = s.focus := rfl
@[simp] theorem State.onPins_capture (f : Pins → Pins) (s : State) : (s.onPins f).capture = s.capture := rfl
@[simp] theorem State.onPins_arbiter (f : Pins → Pins) (s : State) : (s.onPins f).arbiter = s.arbiter := rfl
@[simp] theorem State.onPins_jobs (f : Pins → Pins) (s : State) : (s.onPins f).jobs = s.jobs := rfl
@[simp] theorem State.onPins_fault (f : Pins → Pins) (s : State) : (s.onPins f).fault = s.fault := rfl
@[simp] theorem State.onPins_links (f : Pins → Pins) (s : State) : (s.onPins f).links = s.links := rfl
@[simp] theorem State.onPins_pins (f : Pins → Pins) (s : State) : (s.onPins f).pins = f s.pins := rfl
@[simp] theorem State.onPins_pending (f : Pins → Pins) (s : State) : (s.onPins f).pending = s.pending := rfl

@[simp] theorem State.onLinks_transport (f : Links → Links) (s : State) : (s.onLinks f).transport = s.transport := rfl
@[simp] theorem State.onLinks_tracker (f : Links → Links) (s : State) : (s.onLinks f).tracker = s.tracker := rfl
@[simp] theorem State.onLinks_index (f : Links → Links) (s : State) : (s.onLinks f).index = s.index := rfl
@[simp] theorem State.onLinks_focus (f : Links → Links) (s : State) : (s.onLinks f).focus = s.focus := rfl
@[simp] theorem State.onLinks_capture (f : Links → Links) (s : State) : (s.onLinks f).capture = s.capture := rfl
@[simp] theorem State.onLinks_arbiter (f : Links → Links) (s : State) : (s.onLinks f).arbiter = s.arbiter := rfl
@[simp] theorem State.onLinks_jobs (f : Links → Links) (s : State) : (s.onLinks f).jobs = s.jobs := rfl
@[simp] theorem State.onLinks_fault (f : Links → Links) (s : State) : (s.onLinks f).fault = s.fault := rfl
@[simp] theorem State.onLinks_links (f : Links → Links) (s : State) : (s.onLinks f).links = f s.links := rfl
@[simp] theorem State.onLinks_pins (f : Links → Links) (s : State) : (s.onLinks f).pins = s.pins := rfl
@[simp] theorem State.onLinks_pending (f : Links → Links) (s : State) : (s.onLinks f).pending = s.pending := rfl

@[simp] theorem State.onLink_transport (l : LinkId) (f : LinkUnit → LinkUnit) (s : State) : (s.onLink l f).transport = s.transport := rfl
@[simp] theorem State.onLink_tracker (l : LinkId) (f : LinkUnit → LinkUnit) (s : State) : (s.onLink l f).tracker = s.tracker := rfl
@[simp] theorem State.onLink_index (l : LinkId) (f : LinkUnit → LinkUnit) (s : State) : (s.onLink l f).index = s.index := rfl
@[simp] theorem State.onLink_focus (l : LinkId) (f : LinkUnit → LinkUnit) (s : State) : (s.onLink l f).focus = s.focus := rfl
@[simp] theorem State.onLink_capture (l : LinkId) (f : LinkUnit → LinkUnit) (s : State) : (s.onLink l f).capture = s.capture := rfl
@[simp] theorem State.onLink_arbiter (l : LinkId) (f : LinkUnit → LinkUnit) (s : State) : (s.onLink l f).arbiter = s.arbiter := rfl
@[simp] theorem State.onLink_jobs (l : LinkId) (f : LinkUnit → LinkUnit) (s : State) : (s.onLink l f).jobs = s.jobs := rfl
@[simp] theorem State.onLink_fault (l : LinkId) (f : LinkUnit → LinkUnit) (s : State) : (s.onLink l f).fault = s.fault := rfl
@[simp] theorem State.onLink_links (l : LinkId) (f : LinkUnit → LinkUnit) (s : State) : (s.onLink l f).links = s.links.modify l f := rfl
@[simp] theorem State.onLink_pins (l : LinkId) (f : LinkUnit → LinkUnit) (s : State) : (s.onLink l f).pins = s.pins := rfl
@[simp] theorem State.onLink_pending (l : LinkId) (f : LinkUnit → LinkUnit) (s : State) : (s.onLink l f).pending = s.pending := rfl

@[simp] theorem Links.get_modify_same (ls : Links) (l : LinkId) (f : LinkUnit → LinkUnit) : (ls.modify l f).get l = f (ls.get l) := by
  cases l <;> rfl
theorem Links.get_modify_other (ls : Links) (l m : LinkId) (f : LinkUnit → LinkUnit) (h : m ≠ l) : (ls.modify l f).get m = ls.get m := by
  cases l <;> cases m <;> first | rfl | exact absurd rfl h
@[simp] theorem State.link_onLink_same (l : LinkId) (f : LinkUnit → LinkUnit) (s : State) : (s.onLink l f).link l = f (s.link l) := by
  simp [State.link]
theorem State.link_onLink_other (l m : LinkId) (f : LinkUnit → LinkUnit) (s : State) (h : m ≠ l) : (s.onLink l f).link m = s.link m := by
  simp [State.link, Links.get_modify_other _ _ _ _ h]

end Sys2Proof.Machine
end

