-- ==== Sys2Proof/Laws/Arbiter.lean ====
section
/-! SUPPORT. What the operations on a requester's queue entry leave it as, and what they leave alone (R117, R121, R125, R132). -/

namespace Sys2Proof.Machine

/-- A change that keeps requesters changes the entry a requester holds, and only that one. -/
theorem Arbiter.entryOf_modifyEntry (a : Arbiter) (r : Requester) (f : QEntry → QEntry)
    (hf : ∀ e, e.requester = r → (f e).requester = r) : (a.modifyEntry r f).entryOf r = (a.entryOf r).map f := by
  obtain ⟨q, _⟩ := a
  unfold Arbiter.entryOf Arbiter.modifyEntry
  dsimp only
  induction q with
  | nil => rfl
  | cons e es ih =>
    by_cases h : e.requester = r
    · simp [h, hf e h]
    · simpa [h] using ih

/-- An entry taken anew is the one its requester holds, with the next arrival and skip_count 0. -/
theorem Arbiter.entryOf_replaced (a : Arbiter) (e : QEntry) (h : a.arrival < 65535) :
    ((a.remove e.requester).place e).entryOf e.requester = some { e with arrival := a.arrival, skip := 0 } := by
  have none_left : (a.queue.filter fun x => x.requester != e.requester).find? (fun x => x.requester == e.requester) = none := by
    simp [List.find?_eq_none]
  simp [Arbiter.place, Arbiter.remove, Arbiter.entryOf, Config.maxCounter, h, List.find?_append, none_left]

/-- A run taken anew (R124, R125). -/
theorem requeueRun_entry (n : Nat) (resume : Bool) (s : State) (h : s.arbiter.arrival < 65535) :
    (requeueRun n resume s).arbiter.entryOf (.job n) =
      some { requester := .job n, cls := .normal, kind := .run, frame := none, start := runRunUp n s,
             arrival := s.arbiter.arrival, skip := 0, resume := resume } :=
  Arbiter.entryOf_replaced s.arbiter
    { requester := .job n, cls := .normal, kind := .run, frame := none, start := runRunUp n s, arrival := 0, skip := 0,
      resume := resume } h

/-- The entry of a run halted at its search frame: the ITEM of that frame, all else kept (R132, R163). -/
theorem holdItem_entry (n f : Nat) (s : State) :
    (holdItem n f s).arbiter.entryOf (.job n) = (s.arbiter.entryOf (.job n)).map fun e =>
      { e with kind := .item, frame := some f, start := startPosition (.job n) .item (some f) s } :=
  Arbiter.entryOf_modifyEntry s.arbiter _ _ fun _ h => h

/-- The entry of a run that a halt found current (R132, R163, logs 35 and 46). -/
theorem haltRun_entry (n : Nat) (c : Current) (s : State) (h : s.arbiter.arrival < 65535) :
    ∃ x, (haltRun n c s).arbiter.entryOf (.job n) = some x ∧ x.cls = .normal ∧ x.arrival = s.arbiter.arrival ∧
      x.skip = 0 ∧ x.resume = true ∧ (c.search = none → x.kind = .run) ∧
      ∀ f, c.search = some f → x.kind = .item ∧ x.frame = some f := by
  have anew := requeueRun_entry n true s h
  have same : ∀ (p : Prop) [Decidable p] (t : State),
      (if p then t.onArbiter fun a => { a with interrupted := some (.job n) } else t).arbiter.entryOf (.job n) =
        t.arbiter.entryOf (.job n) := fun p _ t => by split <;> rfl
  unfold haltRun
  dsimp only
  rw [same]
  cases hf : c.search with
  | none => exact ⟨_, anew, rfl, rfl, rfl, rfl, fun _ => rfl, nofun⟩
  | some f =>
    rw [holdItem_entry, anew]
    exact ⟨_, rfl, rfl, rfl, rfl, rfl, nofun, fun g hg => by cases hg; exact ⟨rfl, rfl⟩⟩

/-- A chosen entry's resume is cleared; a RUN's occupancy starts, any other choice leaves the counts (R121). -/
theorem startOccupancy_arbiter (e : QEntry) (s : State) :
    (startOccupancy e s).arbiter.entryOf e.requester =
        (s.arbiter.entryOf e.requester).map (fun x => { x with resume := false }) ∧
      (startOccupancy e s).arbiter.yieldCount = (if e.kind = .run then 0 else s.arbiter.yieldCount) ∧
      (startOccupancy e s).arbiter.runImmune = (if e.kind = .run then e.resume else s.arbiter.runImmune) := by
  rw [← Arbiter.entryOf_modifyEntry s.arbiter e.requester (fun x => { x with resume := false }) fun _ h => h]
  by_cases h : e.kind = .run <;> simp [startOccupancy, State.onArbiter, Arbiter.entryOf, Arbiter.modifyEntry, h]

/-! ### What is asked of the transport leaves the queue and the job table alone -/

@[simp] theorem stopMove_arbiter (s : State) : (stopMove s).arbiter = s.arbiter := by unfold stopMove; (repeat' split) <;> rfl
@[simp] theorem stopMove_jobs (s : State) : (stopMove s).jobs = s.jobs := by unfold stopMove; (repeat' split) <;> rfl
@[simp] theorem disarmRun_arbiter (c : Current) (s : State) : (disarmRun c s).arbiter = s.arbiter := by
  unfold disarmRun; split <;> rfl
@[simp] theorem disarmRun_jobs (c : Current) (s : State) : (disarmRun c s).jobs = s.jobs := by unfold disarmRun; split <;> rfl
@[simp] theorem clearCurrent_queue (s : State) : (clearCurrent s).arbiter.queue = s.arbiter.queue := by
  simp only [clearCurrent, State.onArbiter, Arbiter.clearCurrent]; split <;> rfl
@[simp] theorem clearCurrent_jobs (s : State) : (clearCurrent s).jobs = s.jobs := rfl
@[simp] theorem askStop_queue (why : StopCause) (s : State) : (askStop why s).arbiter.queue = s.arbiter.queue := by
  unfold askStop; (repeat' split) <;> simp
@[simp] theorem askStop_jobs (why : StopCause) (s : State) : (askStop why s).jobs = s.jobs := by
  unfold askStop; (repeat' split) <;> simp
@[simp] theorem suspendTest_queue (s : State) : (suspendTest s).arbiter.queue = s.arbiter.queue := by
  unfold suspendTest; (repeat' split) <;> simp
@[simp] theorem suspendTest_jobs (s : State) : (suspendTest s).jobs = s.jobs := by unfold suspendTest; (repeat' split) <;> simp
@[simp] theorem yieldTest_queue (s : State) : (yieldTest s).arbiter.queue = s.arbiter.queue := by
  unfold yieldTest; (repeat' split) <;> simp
@[simp] theorem yieldTest_jobs (s : State) : (yieldTest s).jobs = s.jobs := by unfold yieldTest; (repeat' split) <;> simp

/-- A submission changes no job. -/
@[simp] theorem submit_jobs (r : Requester) (cls : QClass) (k : QKind) (frame : Option Nat) (s : State) :
    (submit r cls k frame s).jobs = s.jobs := by
  unfold submit; dsimp only; (repeat' split) <;> simp

@[simp] theorem submitJob_jobs (n : Nat) (k : QKind) (frame : Option Nat) (s : State) : (submitJob n k frame s).jobs = s.jobs := by
  unfold submitJob; split <;> simp
@[simp] theorem ensureIndex_jobs (n : Nat) (s : State) : (ensureIndex n s).jobs = s.jobs := by
  unfold ensureIndex; split <;> simp

/-- After a submission the requester holds an entry of that class, kind and frame (R117). -/
theorem submit_entry (r : Requester) (cls : QClass) (k : QKind) (frame : Option Nat) (s : State) :
    ∃ e, (submit r cls k frame s).arbiter.entryOf r = some e ∧ e.kind = k ∧ e.cls = cls ∧ e.frame = frame := by
  unfold submit Arbiter.entryOf
  dsimp only
  split
  · rename_i none_held
    have placed (e : QEntry) (he : e.requester = r) : ∃ x, ((s.arbiter.place e).queue.find? fun x => x.requester == r) = some x ∧
        x.kind = e.kind ∧ x.cls = e.cls ∧ x.frame = e.frame := by
      unfold Arbiter.place
      split <;> simp [renumber, List.find?_map, List.find?_append, none_held, he]
    rw [yieldTest_queue]
    split <;> (try rw [suspendTest_queue]) <;> exact placed _ rfl
  · rename_i old held
    have moved := Arbiter.entryOf_modifyEntry s.arbiter r
      (fun e => { e with cls := cls, kind := k, frame := frame, start := startPosition r k frame s }) fun _ h => h
    rw [show s.arbiter.entryOf r = some old from held] at moved
    refine ⟨{ old with cls := cls, kind := k, frame := frame, start := startPosition r k frame s }, ?_, rfl, rfl, rfl⟩
    rw [yieldTest_queue]
    (repeat' split) <;> (try simp only [clearCurrent_queue, askStop_queue]) <;> exact moved

end Sys2Proof.Machine
end

