-- ==== Sys2Proof/Laws/Codec.lean ====
section
/-! SUPPORT. What each field of a request body reads back to. -/

namespace Sys2Proof.Machine

theorem bytes16 (w : BitVec 16) : w.extractLsb' 8 8 ++ w.extractLsb' 0 8 = w := by
  refine BitVec.eq_of_getLsbD_eq fun i hi => ?_
  rw [BitVec.getLsbD_append]
  by_cases h : i < 8
  · simp [h]
  · simp [h, show i - 8 < 8 by omega, show 8 + (i - 8) = i by omega]

theorem bytes24 (w : BitVec 24) : w.extractLsb' 16 8 ++ (w.extractLsb' 8 8 ++ w.extractLsb' 0 8) = w := by
  refine BitVec.eq_of_getLsbD_eq fun i hi => ?_
  rw [BitVec.getLsbD_append, BitVec.getLsbD_append]
  by_cases h : i < 8
  · simp [h]; omega
  by_cases h2 : i < 16
  · simp [h, h2, show i - 8 < 8 by omega, show 8 + (i - 8) = i by omega]
  · simp [h2, show i - 16 < 8 by omega, show 16 + (i - 16) = i by omega]

@[simp] theorem get8_cons (b : Byte) (bs : List Byte) : get8 (b :: bs) = some (b, bs) := rfl

@[simp] theorem get16_put (w : BitVec 16) (bs : List Byte) : get16 (put16 w ++ bs) = some (w, bs) := by
  simp only [put16, List.cons_append, List.nil_append, get16, bytes16]

@[simp] theorem get24_put (w : BitVec 24) (bs : List Byte) : get24 (put24 w ++ bs) = some (w, bs) := by
  simp only [put24, List.cons_append, List.nil_append, get24, bytes24]

@[simp] theorem getTarget_put (t : TargetField) (bs : List Byte) : getTarget (putTarget t ++ bs) = some (t, bs) := by
  simp [getTarget, putTarget, List.append_assoc]

@[simp] theorem putTarget_length (t : TargetField) : (putTarget t).length = 7 := rfl

@[simp] theorem getProfileRecord_put (r : ProfileRecord) (bs : List Byte) :
    getProfileRecord (putProfile r ++ bs) = some (r, bs) := by
  have h : getProfileRecord (putProfile r ++ bs) = some (
      { r with
        pitchNominal := r.pitchNominal.extractLsb' 8 8 ++ r.pitchNominal.extractLsb' 0 8,
        pitchMin := r.pitchMin.extractLsb' 8 8 ++ r.pitchMin.extractLsb' 0 8,
        pitchMax := r.pitchMax.extractLsb' 8 8 ++ r.pitchMax.extractLsb' 0 8,
        imageMin := r.imageMin.extractLsb' 8 8 ++ r.imageMin.extractLsb' 0 8,
        imageMax := r.imageMax.extractLsb' 8 8 ++ r.imageMax.extractLsb' 0 8,
        markMin := r.markMin.extractLsb' 8 8 ++ r.markMin.extractLsb' 0 8,
        mark12 := r.mark12.extractLsb' 8 8 ++ r.mark12.extractLsb' 0 8,
        mark23 := r.mark23.extractLsb' 8 8 ++ r.mark23.extractLsb' 0 8,
        markMax := r.markMax.extractLsb' 8 8 ++ r.markMax.extractLsb' 0 8,
        startBatch := r.startBatch.extractLsb' 8 8 ++ r.startBatch.extractLsb' 0 8,
        startDocument := r.startDocument.extractLsb' 8 8 ++ r.startDocument.extractLsb' 0 8,
        startPage := r.startPage.extractLsb' 8 8 ++ r.startPage.extractLsb' 0 8,
        axisOffset := r.axisOffset.extractLsb' 8 8 ++ r.axisOffset.extractLsb' 0 8,
        spliceFocusOffset := r.spliceFocusOffset.extractLsb' 8 8 ++ r.spliceFocusOffset.extractLsb' 0 8,
        defaultFocus := r.defaultFocus.extractLsb' 8 8 ++ r.defaultFocus.extractLsb' 0 8,
        focusReach := r.focusReach.extractLsb' 16 8 ++ (r.focusReach.extractLsb' 8 8 ++ r.focusReach.extractLsb' 0 8),
        metricFloor := r.metricFloor.extractLsb' 8 8 ++ r.metricFloor.extractLsb' 0 8,
        answerLimit := r.answerLimit.extractLsb' 8 8 ++ r.answerLimit.extractLsb' 0 8,
        holdTime := r.holdTime.extractLsb' 8 8 ++ r.holdTime.extractLsb' 0 8 }, bs) := rfl
  rw [h]
  simp only [bytes16, bytes24]

@[simp] theorem putProfile_length (r : ProfileRecord) : (putProfile r).length = 44 := rfl

@[simp] theorem getItems_put (ts : List TargetField) (bs : List Byte) :
    getItems ts.length (putItems ts ++ bs) = some (ts, bs) := by
  induction ts with
  | nil => rfl
  | cons t ts ih => simp [getItems, putItems, List.append_assoc, ih]

theorem putItems_length (ts : List TargetField) : (putItems ts).length = 7 * ts.length := by
  induction ts with
  | nil => rfl
  | cons t ts ih => simp only [putItems, List.length_append, putTarget_length, List.length_cons, ih]; omega

end Sys2Proof.Machine
end

