-- ==== Sys2Proof/Laws/Links.lean ====
section
/-! SUPPORT. What the transmitters' choice and a reply leave as it was: everything but the link units. -/

namespace Sys2Proof.Machine

theorem OnlyLinks.refl (s : State) : OnlyLinks s s := rfl

theorem OnlyLinks.trans {s t u : State} (h : OnlyLinks s t) (k : OnlyLinks t u) : OnlyLinks s u := by
  rw [OnlyLinks] at *
  rw [k, h]

theorem onLink_only (l : LinkId) (f : LinkUnit → LinkUnit) (s : State) : OnlyLinks s (s.onLink l f) := rfl

theorem onLinks_only (f : Links → Links) (s : State) : OnlyLinks s (s.onLinks f) := rfl

theorem raise_only (k : NoticeKind) (s : State) : OnlyLinks s (raise k s) := rfl

theorem serviceLink_only (l : LinkId) (s : State) : OnlyLinks s (serviceLink l s) := by
  unfold serviceLink
  dsimp only
  (repeat' split) <;> rfl

theorem serviceLinks_only (s : State) : OnlyLinks s (serviceLinks s) :=
  ((serviceLink_only .a s).trans (serviceLink_only .b _)).trans (serviceLink_only .c _)

theorem buildReply_only (l : LinkId) (kind tag : Byte) (r : Result) (data : List Byte) (s : State) :
    OnlyLinks s (buildReply l kind tag r data s) := rfl

/-- A transmitter's choice leaves the unit of every other link as it was. -/
theorem serviceLink_link_other {l m : LinkId} (s : State) (h : m ≠ l) : (serviceLink l s).link m = s.link m := by
  unfold serviceLink
  dsimp only
  (repeat' split) <;> first | rfl | exact State.link_onLink_other _ _ _ _ h

/-- A transmitter's choice changes its state and the pending flags alone. -/
theorem serviceLink_link_same (l : LinkId) (s : State) :
    (serviceLink l s).link l =
      { s.link l with transmitter := ((serviceLink l s).link l).transmitter, flags := ((serviceLink l s).link l).flags } := by
  unfold serviceLink
  dsimp only
  (repeat' split) <;> simp [beginTransmission]

/-- The choice of all transmitters, at one link: what the link's own transmitter chooses. -/
theorem serviceLinks_link (l : LinkId) (s : State) : ∃ t, OnlyLinks s t ∧ t.link l = s.link l ∧
    (serviceLinks s).link l = (serviceLink l t).link l := by
  cases l
  · refine ⟨s, .refl s, rfl, ?_⟩
    rw [serviceLinks, serviceLink_link_other _ (by decide), serviceLink_link_other _ (by decide)]
  · refine ⟨serviceLink .a s, serviceLink_only .a s, serviceLink_link_other _ (by decide), ?_⟩
    rw [serviceLinks, serviceLink_link_other _ (by decide)]
  · refine ⟨serviceLink .b (serviceLink .a s), (serviceLink_only .a s).trans (serviceLink_only .b _), ?_, rfl⟩
    rw [serviceLink_link_other _ (by decide), serviceLink_link_other _ (by decide)]

end Sys2Proof.Machine
end

