-- ==== Sys2Proof/Laws/PerInstr.lean ====
section
/-! SUPPORT. A statement about every command as syntax, row by row: the frame body that a command of a link stands for. -/

namespace Sys2Proof.Laws

open Sys2Proof.Machine

/-- The frame body that a row of a receive line carries, none for the other rows (R192, R193). -/
def sentBody : Instr → Option (List Byte)
  | .powerOnReset _ => none
  | .getStatus _ tag _ => some (Request.body tag .getStatus)
  | .getProfile _ tag => some (Request.body tag .getProfile)
  | .setProfile _ tag r => some (Request.body tag (.setProfile r))
  | .getEntries _ tag n count => some (Request.body tag (.getEntries n count))
  | .findAddress _ tag b d p => some (Request.body tag (.findAddress b d p))
  | .getFocusMap _ tag => some (Request.body tag .getFocusMap)
  | .setFocusPoint _ tag position lensStep => some (Request.body tag (.setFocusPoint position lensStep))
  | .clearFocusMap _ tag => some (Request.body tag .clearFocusMap)
  | .verifySegment _ tag seg => some (Request.body tag (.verifySegment seg))
  | .unverifySegment _ tag seg _ => some (Request.body tag (.unverifySegment seg))
  | .truncateIndex _ tag n _ => some (Request.body tag (.truncateIndex n))
  | .setNoticeMask _ tag mask => some (Request.body tag (.setNoticeMask mask))
  | .clearFault _ tag _ => some (Request.body tag .clearFault)
  | .cancelJob _ tag job => some (Request.body tag (.cancelJob job))
  | .getJob _ tag job => some (Request.body tag (.getJob job))
  | .loadRoll _ tag _ => some (Request.body tag .loadRoll)
  | .unloadRoll _ tag => some (Request.body tag .unloadRoll)
  | .seekFrame _ tag flags target => some (Request.body tag (.seekFrame flags target))
  | .fetch _ tag flags items => some (Request.body tag (.fetch flags items))
  | .sweep _ tag flags fromT toT => some (Request.body tag (.sweep flags fromT toT))
  | .indexTo _ tag flags target => some (Request.body tag (.indexTo flags target))
  | .unknownRequest _ tag kind rest => some (kind :: tag :: rest)
  | .hold _ => none
  | .resume _ => none
  | .frameReceived _ body _ => some body
  | .strayByte _ _ => none
  | .linkBreak _ => none
  | .linkBreakEnd _ => none
  | .transmissionEnd _ => none
  | .capstanCount _ => none
  | .capstanStall => none
  | .moveComplete => none
  | .tensionChange _ _ => none
  | .tensionLimitExpiry => none
  | .tensionPersistExpiry _ => none
  | .threadLimitExpiry => none
  | .holdTimerExpiry => none
  | .leaderSearchLimit => none
  | .leaderEdge => none
  | .tailSeen => none
  | .filmPresentClear => none
  | .stopRise => none
  | .lowEdge => none
  | .highEdge => none
  | .markOn => none
  | .markOff => none
  | .spliceOn => none
  | .spliceOff => none
  | .homeSwitchSet => none
  | .lensStep _ => none
  | .homingLimit => none
  | .lensStall => none
  | .cameraAnswer _ => none
  | .cameraReadyRise => none
  | .cameraReadyFall => none
  | .answerLimitExpiry => none
  | .cameraWaitExpiry => none
  | .trialWaitExpiry => none

/-- The body that a well-formed command sends holds 2 to 250 bytes (9.2). -/
def BodyFits.Statement (i : Instr) : Prop :=
  i.wellFormed = true → ∀ b, sentBody i = some b → 2 ≤ b.length ∧ b.length ≤ 250

/-- A row that sends no body. -/
theorem fits_of_none {i : Instr} (h : sentBody i = none) : BodyFits.Statement i := by
  intro _ b hb
  rw [h] at hb
  cases hb

/-- A row that sends a body of a known length. -/
theorem fits_of_length {i : Instr} {b : List Byte} {n : Nat} (h : sentBody i = some b) (hl : b.length = n) (h2 : 2 ≤ n)
    (h3 : n ≤ 250) : BodyFits.Statement i := by
  intro _ c hc
  rw [h] at hc
  cases hc
  omega

theorem BodyFits.powerOnReset (lv : Levels) : BodyFits.Statement (.powerOnReset lv) := fits_of_none rfl

theorem BodyFits.getStatus (l : LinkId) (tag : Byte) (lv : Levels) : BodyFits.Statement (.getStatus l tag lv) :=
  fits_of_length (n := 2) rfl rfl (by decide) (by decide)

theorem BodyFits.getProfile (l : LinkId) (tag : Byte) : BodyFits.Statement (.getProfile l tag) :=
  fits_of_length (n := 2) rfl rfl (by decide) (by decide)

theorem BodyFits.setProfile (l : LinkId) (tag : Byte) (r : ProfileRecord) : BodyFits.Statement (.setProfile l tag r) :=
  fits_of_length (n := 46) rfl rfl (by decide) (by decide)

theorem BodyFits.getEntries (l : LinkId) (tag : Byte) (n : BitVec 16) (count : Byte) :
    BodyFits.Statement (.getEntries l tag n count) :=
  fits_of_length (n := 5) rfl rfl (by decide) (by decide)

theorem BodyFits.findAddress (l : LinkId) (tag : Byte) (b d p : BitVec 16) : BodyFits.Statement (.findAddress l tag b d p) :=
  fits_of_length (n := 8) rfl rfl (by decide) (by decide)

theorem BodyFits.getFocusMap (l : LinkId) (tag : Byte) : BodyFits.Statement (.getFocusMap l tag) :=
  fits_of_length (n := 2) rfl rfl (by decide) (by decide)

theorem BodyFits.setFocusPoint (l : LinkId) (tag : Byte) (position : BitVec 24) (lensStep : BitVec 16) :
    BodyFits.Statement (.setFocusPoint l tag position lensStep) :=
  fits_of_length (n := 7) rfl rfl (by decide) (by decide)

theorem BodyFits.clearFocusMap (l : LinkId) (tag : Byte) : BodyFits.Statement (.clearFocusMap l tag) :=
  fits_of_length (n := 2) rfl rfl (by decide) (by decide)

theorem BodyFits.verifySegment (l : LinkId) (tag : Byte) (seg : Byte) : BodyFits.Statement (.verifySegment l tag seg) :=
  fits_of_length (n := 3) rfl rfl (by decide) (by decide)

theorem BodyFits.unverifySegment (l : LinkId) (tag : Byte) (seg : Byte) (lv : Levels) :
    BodyFits.Statement (.unverifySegment l tag seg lv) :=
  fits_of_length (n := 3) rfl rfl (by decide) (by decide)

theorem BodyFits.truncateIndex (l : LinkId) (tag : Byte) (n : BitVec 16) (lv : Levels) :
    BodyFits.Statement (.truncateIndex l tag n lv) :=
  fits_of_length (n := 4) rfl rfl (by decide) (by decide)

theorem BodyFits.setNoticeMask (l : LinkId) (tag : Byte) (mask : Byte) : BodyFits.Statement (.setNoticeMask l tag mask) :=
  fits_of_length (n := 3) rfl rfl (by decide) (by decide)

theorem BodyFits.clearFault (l : LinkId) (tag : Byte) (lv : Levels) : BodyFits.Statement (.clearFault l tag lv) :=
  fits_of_length (n := 2) rfl rfl (by decide) (by decide)

theorem BodyFits.cancelJob (l : LinkId) (tag : Byte) (job : Byte) : BodyFits.Statement (.cancelJob l tag job) :=
  fits_of_length (n := 3) rfl rfl (by decide) (by decide)

theorem BodyFits.getJob (l : LinkId) (tag : Byte) (job : Byte) : BodyFits.Statement (.getJob l tag job) :=
  fits_of_length (n := 3) rfl rfl (by decide) (by decide)

theorem BodyFits.loadRoll (l : LinkId) (tag : Byte) (lv : Levels) : BodyFits.Statement (.loadRoll l tag lv) :=
  fits_of_length (n := 2) rfl rfl (by decide) (by decide)

theorem BodyFits.unloadRoll (l : LinkId) (tag : Byte) : BodyFits.Statement (.unloadRoll l tag) :=
  fits_of_length (n := 2) rfl rfl (by decide) (by decide)

theorem BodyFits.seekFrame (l : LinkId) (tag : Byte) (flags : Byte) (target : TargetField) :
    BodyFits.Statement (.seekFrame l tag flags target) :=
  fits_of_length (n := 10) rfl rfl (by decide) (by decide)

theorem BodyFits.fetch (l : LinkId) (tag : Byte) (flags : Byte) (items : List TargetField) :
    BodyFits.Statement (.fetch l tag flags items) := by
  intro hw b hb
  cases hb
  have h : items.length ≤ 35 := by simpa [Instr.wellFormed] using hw
  simp only [Request.body, Request.params, List.length_cons, putItems_length]
  omega

theorem BodyFits.sweep (l : LinkId) (tag : Byte) (flags : Byte) (fromT toT : TargetField) :
    BodyFits.Statement (.sweep l tag flags fromT toT) :=
  fits_of_length (n := 17) rfl rfl (by decide) (by decide)

theorem BodyFits.indexTo (l : LinkId) (tag : Byte) (flags : Byte) (target : TargetField) :
    BodyFits.Statement (.indexTo l tag flags target) :=
  fits_of_length (n := 10) rfl rfl (by decide) (by decide)

theorem BodyFits.unknownRequest (l : LinkId) (tag : Byte) (kind : Byte) (rest : List Byte) :
    BodyFits.Statement (.unknownRequest l tag kind rest) := by
  intro hw b hb
  cases hb
  have h : rest.length ≤ 248 := by
    simp only [Instr.wellFormed, Bool.and_eq_true, decide_eq_true_eq] at hw
    exact hw.2
  simp only [List.length_cons]
  omega

theorem BodyFits.hold (l : LinkId) : BodyFits.Statement (.hold l) := fits_of_none rfl

theorem BodyFits.resume (l : LinkId) : BodyFits.Statement (.resume l) := fits_of_none rfl

theorem BodyFits.frameReceived (l : LinkId) (body : List Byte) (check : BitVec 16) :
    BodyFits.Statement (.frameReceived l body check) := by
  intro hw b hb
  cases hb
  simpa [Instr.wellFormed] using hw

theorem BodyFits.strayByte (l : LinkId) (b : RxByte) : BodyFits.Statement (.strayByte l b) := fits_of_none rfl

theorem BodyFits.linkBreak (l : LinkId) : BodyFits.Statement (.linkBreak l) := fits_of_none rfl

theorem BodyFits.linkBreakEnd (l : LinkId) : BodyFits.Statement (.linkBreakEnd l) := fits_of_none rfl

theorem BodyFits.transmissionEnd (l : LinkId) : BodyFits.Statement (.transmissionEnd l) := fits_of_none rfl

theorem BodyFits.capstanCount (d : Direction) : BodyFits.Statement (.capstanCount d) := fits_of_none rfl

theorem BodyFits.capstanStall : BodyFits.Statement (.capstanStall) := fits_of_none rfl

theorem BodyFits.moveComplete : BodyFits.Statement (.moveComplete) := fits_of_none rfl

theorem BodyFits.tensionChange (side : Side) (r : TensionReading) : BodyFits.Statement (.tensionChange side r) := fits_of_none rfl

theorem BodyFits.tensionLimitExpiry : BodyFits.Statement (.tensionLimitExpiry) := fits_of_none rfl

theorem BodyFits.tensionPersistExpiry (side : Side) : BodyFits.Statement (.tensionPersistExpiry side) := fits_of_none rfl

theorem BodyFits.threadLimitExpiry : BodyFits.Statement (.threadLimitExpiry) := fits_of_none rfl

theorem BodyFits.holdTimerExpiry : BodyFits.Statement (.holdTimerExpiry) := fits_of_none rfl

theorem BodyFits.leaderSearchLimit : BodyFits.Statement (.leaderSearchLimit) := fits_of_none rfl

theorem BodyFits.leaderEdge : BodyFits.Statement (.leaderEdge) := fits_of_none rfl

theorem BodyFits.tailSeen : BodyFits.Statement (.tailSeen) := fits_of_none rfl

theorem BodyFits.filmPresentClear : BodyFits.Statement (.filmPresentClear) := fits_of_none rfl

theorem BodyFits.stopRise : BodyFits.Statement (.stopRise) := fits_of_none rfl

theorem BodyFits.lowEdge : BodyFits.Statement (.lowEdge) := fits_of_none rfl

theorem BodyFits.highEdge : BodyFits.Statement (.highEdge) := fits_of_none rfl

theorem BodyFits.markOn : BodyFits.Statement (.markOn) := fits_of_none rfl

theorem BodyFits.markOff : BodyFits.Statement (.markOff) := fits_of_none rfl

theorem BodyFits.spliceOn : BodyFits.Statement (.spliceOn) := fits_of_none rfl

theorem BodyFits.spliceOff : BodyFits.Statement (.spliceOff) := fits_of_none rfl

theorem BodyFits.homeSwitchSet : BodyFits.Statement (.homeSwitchSet) := fits_of_none rfl

theorem BodyFits.lensStep (leaves : Bool) : BodyFits.Statement (.lensStep leaves) := fits_of_none rfl

theorem BodyFits.homingLimit : BodyFits.Statement (.homingLimit) := fits_of_none rfl

theorem BodyFits.lensStall : BodyFits.Statement (.lensStall) := fits_of_none rfl

theorem BodyFits.cameraAnswer (ans : CameraAnswer) : BodyFits.Statement (.cameraAnswer ans) := fits_of_none rfl

theorem BodyFits.cameraReadyRise : BodyFits.Statement (.cameraReadyRise) := fits_of_none rfl

theorem BodyFits.cameraReadyFall : BodyFits.Statement (.cameraReadyFall) := fits_of_none rfl

theorem BodyFits.answerLimitExpiry : BodyFits.Statement (.answerLimitExpiry) := fits_of_none rfl

theorem BodyFits.cameraWaitExpiry : BodyFits.Statement (.cameraWaitExpiry) := fits_of_none rfl

theorem BodyFits.trialWaitExpiry : BodyFits.Statement (.trialWaitExpiry) := fits_of_none rfl

end Sys2Proof.Laws
end

