-- ==== Sys2Proof/Laws/Still.lean ====
section
/-! SUPPORT. What each shared operation leaves as it was: one lemma per operation, at the strongest of four levels. `still`: input
levels, waiting commands, profile, job numbers, number counter, fault record, position count, roll end, tail limit and focus map.
`still.base`: all of these but the last three. `still.base.core`: the first five. `still.base.core.given`: the first two. -/

namespace Sys2Proof.Machine

/-- The waiting commands and the input levels. -/
structure Given where
  pending : List Instr
  pins    : Pins

/-- With them the profile, the numbers of the jobs in slots, and the number counter. -/
structure Fixed where
  given   : Given
  profile : Profile
  numbers : List Nat
  counter : Nat

/-- With them the fault record and the position count. -/
structure Base where
  core     : Fixed
  fault    : FaultRecord
  position : Nat

/-- With them the roll's end and the focus map. -/
structure Still where
  base      : Base
  rollEnd   : Option Nat
  tailLimit : Option Nat
  map       : List MapPoint

/-- What most operations keep. -/
def State.still (s : State) : Still where
  base := { core := { given := { pending := s.pending, pins := s.pins }, profile := s.transport.profile,
                      numbers := jobNumbers s, counter := s.jobs.counter },
            fault := s.fault, position := s.transport.position }
  rollEnd := s.transport.rollEnd
  tailLimit := s.transport.tailLimit
  map := s.focus.map

/-! ### Updates of one block -/

@[simp] theorem onTracker_still (f : Tracker → Tracker) (s : State) : (s.onTracker f).still = s.still := rfl
@[simp] theorem onIndex_still (f : Index → Index) (s : State) : (s.onIndex f).still = s.still := rfl
@[simp] theorem onCapture_still (f : Capture → Capture) (s : State) : (s.onCapture f).still = s.still := rfl
@[simp] theorem onArbiter_still (f : Arbiter → Arbiter) (s : State) : (s.onArbiter f).still = s.still := rfl
@[simp] theorem onLinks_still (f : Links → Links) (s : State) : (s.onLinks f).still = s.still := rfl
@[simp] theorem onLink_still (l : LinkId) (f : LinkUnit → LinkUnit) (s : State) : (s.onLink l f).still = s.still := rfl

@[simp] theorem onTransport_still {f : Transport → Transport} {s : State}
    (h1 : (f s.transport).position = s.transport.position) (h2 : (f s.transport).profile = s.transport.profile)
    (h3 : (f s.transport).rollEnd = s.transport.rollEnd) (h4 : (f s.transport).tailLimit = s.transport.tailLimit) :
    (s.onTransport f).still = s.still := by simp [State.still, State.onTransport, jobNumbers, h1, h2, h3, h4]

@[simp] theorem onTransport_base {f : Transport → Transport} {s : State}
    (h1 : (f s.transport).position = s.transport.position) (h2 : (f s.transport).profile = s.transport.profile) :
    (s.onTransport f).still.base = s.still.base := by simp [State.still, State.onTransport, jobNumbers, h1, h2]

@[simp] theorem onTransport_core {f : Transport → Transport} {s : State}
    (h2 : (f s.transport).profile = s.transport.profile) :
    (s.onTransport f).still.base.core = s.still.base.core := by simp [State.still, State.onTransport, jobNumbers, h2]

@[simp] theorem onFocus_still {f : Focus → Focus} {s : State} (h : (f s.focus).map = s.focus.map) :
    (s.onFocus f).still = s.still := by simp [State.still, State.onFocus, jobNumbers, h]

@[simp] theorem onFocus_base (f : Focus → Focus) (s : State) : (s.onFocus f).still.base = s.still.base := rfl

@[simp] theorem onFault_core (f : FaultRecord → FaultRecord) (s : State) :
    (s.onFault f).still.base.core = s.still.base.core := rfl

@[simp] theorem onJobs_given (f : Jobs → Jobs) (s : State) :
    (s.onJobs f).still.base.core.given = s.still.base.core.given := rfl

@[simp] theorem onPins_pending (f : Pins → Pins) (s : State) :
    (s.onPins f).still.base.core.given.pending = s.still.base.core.given.pending := rfl

/-- A fold of an operation that keeps a part keeps it. -/
theorem foldl_keeps {α β : Type} (part : State → β) {f : State → α → State} (h : ∀ s a, part (f s a) = part s)
    (xs : List α) (s : State) : part (xs.foldl f s) = part s := by
  induction xs generalizing s with
  | nil => rfl
  | cons x xs ih => simp [ih, h]

@[simp] theorem foldl_still {α : Type} {f : State → α → State} (h : ∀ s a, (f s a).still = s.still)
    (xs : List α) (s : State) : (xs.foldl f s).still = s.still := foldl_keeps State.still h xs s

/-! ### Operations -/

@[simp] theorem raise_still (k : NoticeKind) (s : State) : (raise k s).still = s.still := rfl
@[simp] theorem enterState_still (st : TransportState) (s : State) : (enterState st s).still = s.still := by
  unfold enterState; split <;> simp
@[simp] theorem putReference_still (r : Reference) (s : State) : (putReference r s).still = s.still := by
  unfold putReference; split <;> simp
@[simp] theorem putRollEnd_base (e : Option Nat) (s : State) : (putRollEnd e s).still.base = s.still.base := by
  unfold putRollEnd; split <;> simp
@[simp] theorem putBroken_still (v : Bool) (s : State) : (putBroken v s).still = s.still := by unfold putBroken; split <;> simp
@[simp] theorem putLeaderMissing_still (v : Bool) (s : State) : (putLeaderMissing v s).still = s.still := by
  unfold putLeaderMissing; split <;> simp
@[simp] theorem slacken_still (s : State) : (slacken s).still = s.still := rfl
@[simp] theorem driveOff_still (s : State) : (driveOff s).still = s.still := rfl
@[simp] theorem driveOn_still (dir : Direction) (sp : SpeedClass) (capture : Nat) (s : State) :
    (driveOn dir sp capture s).still = s.still := rfl
@[simp] theorem stopMove_still (s : State) : (stopMove s).still = s.still := by unfold stopMove; (repeat' split) <;> simp
@[simp] theorem setTravel_still (d : Direction) (s : State) : (setTravel d s).still = s.still := by
  unfold setTravel; split <;> simp
@[simp] theorem modifyEntry_still (n : Nat) (f : Entry → Entry) (s : State) : (modifyEntry n f s).still = s.still := rfl
@[simp] theorem reportFired_still (n lens : Nat) (s : State) : (reportFired n lens s).still = s.still := rfl
@[simp] theorem reportDone_still (n : Nat) (s : State) : (reportDone n s).still = s.still := rfl
@[simp] theorem reportFail_still (n : Nat) (s : State) : (reportFail n s).still = s.still := rfl
@[simp] theorem reportMissed_still (n : Nat) (s : State) : (reportMissed n s).still = s.still := rfl
@[simp] theorem reportWeak_still (n : Nat) (s : State) : (reportWeak n s).still = s.still := rfl
@[simp] theorem reportDispute_still (n observed : Nat) (s : State) : (reportDispute n observed s).still = s.still := by
  unfold reportDispute; (repeat' split) <;> simp
@[simp] theorem slewAppend_still (frame mid : Nat) (s : State) : (slewAppend frame mid s).still = s.still := rfl
@[simp] theorem slewRemove_still (frame : Nat) (s : State) : (slewRemove frame s).still = s.still :=
  onFocus_still (by unfold Focus.restIfEmptied; split <;> rfl)

@[simp] theorem slewClear_still (s : State) : (slewClear s).still = s.still :=
  onFocus_still (by unfold Focus.restIfEmptied; split <;> rfl)

@[simp] theorem abandonSearch_still (s : State) : (abandonSearch s).still = s.still := by unfold abandonSearch; split <;> simp
@[simp] theorem refreshHandshake_still (s : State) : (refreshHandshake s).still = s.still := rfl
@[simp] theorem armTrigger_still (a : Armed) (s : State) : (armTrigger a s).still = s.still := rfl
@[simp] theorem unarm_still (frame : Nat) (s : State) : (unarm frame s).still = s.still := by simp [unarm]
@[simp] theorem disarm_still (s : State) : (disarm s).still = s.still := by simp [disarm]
@[simp] theorem throttleTest_still (s : State) : (throttleTest s).still = s.still := by
  unfold throttleTest
  extract_lets n on
  split
  · rfl
  · exact (onTransport_still rfl rfl rfl rfl).trans rfl

@[simp] theorem fileRecord_still (r : CaptureRecord) (s : State) : (fileRecord r s).still = s.still := by simp [fileRecord]
@[simp] theorem removeHead_still (s : State) : (removeHead s).still = s.still := by simp [removeHead]
@[simp] theorem dropHeadsN_still (n : Nat) (s : State) : (dropHeadsN n s).still = s.still := by
  induction n generalizing s with
  | zero => rfl
  | succ n ih =>
    unfold dropHeadsN
    split
    · rfl
    · split <;> simp [ih]

@[simp] theorem dropHeads_still (s : State) : (dropHeads s).still = s.still := dropHeadsN_still _ s

@[simp] theorem modifyRevisit_still (job : Nat) (f : List Nat → List Nat) (s : State) :
    (modifyRevisit job f s).still = s.still := rfl
@[simp] theorem discardRevisit_still (job : Nat) (s : State) : (discardRevisit job s).still = s.still := rfl
@[simp] theorem setLastMiss_still (frame : Nat) (why : MissReason) (s : State) : (setLastMiss frame why s).still = s.still := rfl
@[simp] theorem trimLastMiss_still (s : State) : (trimLastMiss s).still = s.still := rfl
@[simp] theorem modifyJob_still {n : Nat} {f : Job → Job} {s : State} (h : ∀ j, (f j).number = j.number) :
    (modifyJob n f s).still = s.still := by
  have hn : jobNumbers (modifyJob n f s) = jobNumbers s := by
    simp only [jobNumbers, modifyJob, State.onJobs, List.map_map]
    refine List.map_congr_left fun j _ => ?_
    by_cases hj : j.number = n <;> simp [hj, h]
  simp only [State.still, hn]
  rfl

@[simp] theorem freeSlot_given (n : Nat) (s : State) : (freeSlot n s).still.base.core.given = s.still.base.core.given := rfl
@[simp] theorem modifySweep_still (n : Nat) (f : SweepRec → SweepRec) (s : State) :
    (modifySweep n f s).still = s.still :=
  modifyJob_still fun j => by split <;> (try split) <;> rfl

@[simp] theorem modifyItems_still (n : Nat) (f : List Item → List Item) (s : State) :
    (modifyItems n f s).still = s.still :=
  modifyJob_still fun j => by split <;> (try split) <;> rfl

@[simp] theorem modifyItem_still (n k : Nat) (f : Item → Item) (s : State) : (modifyItem n k f s).still = s.still := by
  simp [modifyItem]
@[simp] theorem setJobState_still (n : Nat) (st : JobState) (s : State) : (setJobState n st s).still = s.still := by
  simp [setJobState]
@[simp] theorem clearCurrent_still (s : State) : (clearCurrent s).still = s.still := rfl
@[simp] theorem refreshStarts_still (s : State) : (refreshStarts s).still = s.still := rfl
@[simp] theorem requeueRun_still (job : Nat) (resume : Bool) (s : State) : (requeueRun job resume s).still = s.still := rfl
@[simp] theorem disarmRun_still (c : Current) (s : State) : (disarmRun c s).still = s.still := by unfold disarmRun; split <;> simp
@[simp] theorem askStop_still (why : StopCause) (s : State) : (askStop why s).still = s.still := by
  unfold askStop; (repeat' split) <;> simp
@[simp] theorem dropCurrent_still (s : State) : (dropCurrent s).still = s.still := by unfold dropCurrent; (repeat' split) <;> simp
@[simp] theorem withdraw_still (r : Requester) (s : State) : (withdraw r s).still = s.still := by
  unfold withdraw; dsimp only; (repeat' split) <;> simp
@[simp] theorem suspendTest_still (s : State) : (suspendTest s).still = s.still := by unfold suspendTest; (repeat' split) <;> simp
@[simp] theorem yieldTest_still (s : State) : (yieldTest s).still = s.still := by unfold yieldTest; (repeat' split) <;> simp
@[simp] theorem countRun_still (s : State) : (countRun s).still = s.still := by simp [countRun]
@[simp] theorem submit_still (r : Requester) (cls : QClass) (k : QKind) (frame : Option Nat) (s : State) :
    (submit r cls k frame s).still = s.still := by
  unfold submit; dsimp only; (repeat' split) <;> simp
@[simp] theorem submitJob_still (n : Nat) (k : QKind) (frame : Option Nat) (s : State) :
    (submitJob n k frame s).still = s.still := by
  unfold submitJob; split <;> simp
@[simp] theorem syncReadAhead_still (s : State) : (syncReadAhead s).still = s.still := by unfold syncReadAhead; split <;> simp
@[simp] theorem preemptReadAhead_still (s : State) : (preemptReadAhead s).still = s.still := by
  unfold preemptReadAhead; (repeat' split) <;> simp
@[simp] theorem setCaptureHold_still (v : Bool) (s : State) : (setCaptureHold v s).still = s.still := rfl
@[simp] theorem setSearchHold_still (v : Bool) (s : State) : (setSearchHold v s).still = s.still := rfl
@[simp] theorem setRollClaim_still (v : Bool) (s : State) : (setRollClaim v s).still = s.still := rfl
@[simp] theorem setBlocked_still (v : Bool) (s : State) : (setBlocked v s).still = s.still := rfl
@[simp] theorem clearInternal_still (s : State) : (clearInternal s).still = s.still := by simp [clearInternal]
@[simp] theorem queueJobDone_still (l : LinkId) (n : Nat) (s : State) : (queueJobDone l n s).still = s.still := rfl
@[simp] theorem endJob_still (n : Nat) (st : JobState) (why : EndReason) (s : State) : (endJob n st why s).still = s.still := by
  unfold endJob; (repeat' split) <;> simp
@[simp] theorem ensureIndex_still (n : Nat) (s : State) : (ensureIndex n s).still = s.still := by
  unfold ensureIndex; split <;> simp
@[simp] theorem fetchChoose_still (n : Nat) (s : State) : (fetchChoose n s).still = s.still := by
  unfold fetchChoose; (repeat' split) <;> simp
@[simp] theorem seekTry_still (n : Nat) (final : Bool) (s : State) : (seekTry n final s).still = s.still := by
  unfold seekTry; (repeat' split) <;> simp
@[simp] theorem indexToTry_still (n : Nat) (final : Bool) (s : State) : (indexToTry n final s).still = s.still := by
  unfold indexToTry; (repeat' split) <;> simp
@[simp] theorem sweepTry_still (n : Nat) (final : Bool) (s : State) : (sweepTry n final s).still = s.still := by
  unfold sweepTry; dsimp only; (repeat' split) <;> simp
@[simp] theorem startJob_still (n : Nat) (s : State) : (startJob n s).still = s.still := by
  unfold startJob; (repeat' split) <;> simp
@[simp] theorem retryJob_still (final : Bool) (n : Nat) (s : State) : (retryJob final n s).still = s.still := by
  unfold retryJob; (repeat' split) <;> simp
@[simp] theorem retryJobs_still (s : State) : (retryJobs s).still = s.still := by simp [retryJobs]
@[simp] theorem advanceSweep_still (n frame : Nat) (s : State) : (advanceSweep n frame s).still = s.still := by simp [advanceSweep]
@[simp] theorem sweepsTakeAppended_still (k : Nat) (s : State) : (sweepsTakeAppended k s).still = s.still := by
  simp [sweepsTakeAppended]
@[simp] theorem endSweep_still (n : Nat) (s : State) : (endSweep n s).still = s.still := by unfold endSweep; split <;> simp
@[simp] theorem revisitNext_still (n : Nat) (s : State) : (revisitNext n s).still = s.still := by
  unfold revisitNext; split <;> simp
@[simp] theorem sweepChoose_still (n : Nat) (s : State) : (sweepChoose n s).still = s.still := by
  unfold sweepChoose; dsimp only; (repeat' split) <;> simp
@[simp] theorem sweepDecide_still (n : Nat) (s : State) : (sweepDecide n s).still = s.still := by
  unfold sweepDecide; split <;> simp
@[simp] theorem jobCaptureEnded_still (a : Armed) (o : ItemOutcome) (s : State) : (jobCaptureEnded a o s).still = s.still := by
  unfold jobCaptureEnded; dsimp only; (repeat' split) <;> simp
@[simp] theorem jobUnfired_still (a : Armed) (s : State) : (jobUnfired a s).still = s.still := by
  unfold jobUnfired; (repeat' split) <;> simp
@[simp] theorem jobDoneFiled_still (a : Armed) (s : State) : (jobDoneFiled a s).still = s.still := by
  unfold jobDoneFiled; split <;> simp
@[simp] theorem offerRevisit_still (job frame : Nat) (s : State) : (offerRevisit job frame s).still = s.still := by
  unfold offerRevisit; (repeat' split) <;> simp
@[simp] theorem endHoming_still (s : State) : (endHoming s).still = s.still := rfl
@[simp] theorem startHoming_still (s : State) : (startHoming s).still = s.still := by unfold startHoming; split <;> simp
@[simp] theorem serveHead_still (s : State) : (serveHead s).still = s.still := by unfold serveHead; split <;> simp
@[simp] theorem finishSearch_base (sr : FocusSearch) (s : State) : (finishSearch sr s).still.base = s.still.base := by
  unfold finishSearch; split <;> simp
@[simp] theorem setStage_still (st : TrialStage) (s : State) : (setStage st s).still = s.still := rfl
@[simp] theorem fireTrial_still (s : State) : (fireTrial s).still = s.still := rfl
@[simp] theorem serveTrial_base (s : State) : (serveTrial s).still.base = s.still.base := by
  unfold serveTrial; (repeat' split) <;> simp
@[simp] theorem serveLens_base (s : State) : (serveLens s).still.base = s.still.base := by unfold serveLens; split <;> simp
@[simp] theorem serviceLens_base (s : State) : (serviceLens s).still.base = s.still.base := by
  unfold serviceLens; (repeat' split) <;> simp
@[simp] theorem issueStep_still (s : State) : (issueStep s).still = s.still := by unfold issueStep; (repeat' split) <;> simp
@[simp] theorem beginSearch_still (frame mid job : Nat) (s : State) : (beginSearch frame mid job s).still = s.still := rfl
@[simp] theorem recordTrial_still (metric : Nat) (answered : Bool) (s : State) :
    (recordTrial metric answered s).still = s.still := by
  unfold recordTrial; split <;> simp
@[simp] theorem trialWaitEnds_base (s : State) : (trialWaitEnds s).still.base = s.still.base := by
  unfold trialWaitEnds; (repeat' split) <;> simp
@[simp] theorem lensLosesHome_still (s : State) : (lensLosesHome s).still = s.still := by unfold lensLosesHome; split <;> simp
@[simp] theorem lensFails_still (s : State) : (lensFails s).still = s.still := by simp [lensFails]
@[simp] theorem fireCapture_still (a : Armed) (s : State) : (fireCapture a s).still = s.still := by simp [fireCapture]
@[simp] theorem missFrame_still (a : Armed) (why : MissReason) (s : State) : (missFrame a why s).still = s.still := by
  simp [missFrame]
@[simp] theorem setPhase_still (p : StationaryPhase) (s : State) : (setPhase p s).still = s.still := rfl
@[simp] theorem release_still (s : State) : (release s).still = s.still := rfl
@[simp] theorem countSearchFrame_still (s : State) : (countSearchFrame s).still = s.still := by
  unfold countSearchFrame; split <;> simp
@[simp] theorem beginStationary_still (a : Armed) (s : State) : (beginStationary a s).still = s.still := by simp [beginStationary]
@[simp] theorem endStationary_still (a : Armed) (o : ItemOutcome) (s : State) : (endStationary a o s).still = s.still := by
  simp [endStationary]
@[simp] theorem returnUnfired_still (a : Armed) (s : State) : (returnUnfired a s).still = s.still := by simp [returnUnfired]
@[simp] theorem missAtAxis_still (a : Armed) (why : MissReason) (s : State) : (missAtAxis a why s).still = s.still := by
  simp [missAtAxis]
@[simp] theorem fireAtAxis_still (a : Armed) (s : State) : (fireAtAxis a s).still = s.still := by unfold fireAtAxis; split <;> simp
@[simp] theorem awaitCamera_still (a : Armed) (s : State) : (awaitCamera a s).still = s.still := by
  unfold awaitCamera; split <;> simp
@[simp] theorem awaitLens_still (a : Armed) (s : State) : (awaitLens a s).still = s.still := by
  unfold awaitLens; (repeat' split) <;> simp
@[simp] theorem atAxisStep_still (a : Armed) (s : State) : (atAxisStep a s).still = s.still := by
  unfold atAxisStep; dsimp only; (repeat' split) <;> simp
@[simp] theorem serviceStationary_base (s : State) : (serviceStationary s).still.base = s.still.base := by
  unfold serviceStationary; dsimp only; (repeat' split) <;> simp
@[simp] theorem stationaryMoved_still (o : MoveOutcome) (s : State) : (stationaryMoved o s).still = s.still := by
  unfold stationaryMoved; (repeat' split) <;> simp
@[simp] theorem retryStationary_still (a : Armed) (s : State) : (retryStationary a s).still = s.still := rfl
@[simp] theorem dropCaptures_still (job : Nat) (s : State) : (dropCaptures job s).still = s.still := by
  unfold dropCaptures; dsimp only; (repeat' split) <;> simp
@[simp] theorem dropSearchStop_still (a : Armed) (s : State) : (dropSearchStop a s).still = s.still := rfl
@[simp] theorem dropRepeat_still (a : Armed) (s : State) : (dropRepeat a s).still = s.still := by
  unfold dropRepeat; dsimp only; (repeat' split) <;> simp
@[simp] theorem captureDecides_still (shot : CaptureShot) (o : CaptureOutcome) (s : State) :
    (captureDecides shot o s).still = s.still := by
  unfold captureDecides; (repeat' split) <;> simp
@[simp] theorem settleCapture_still (shot : CaptureShot) (o : CaptureOutcome) (why : FailReason) (s : State) :
    (settleCapture shot o why s).still = s.still := by
  unfold settleCapture; (repeat' split) <;> simp
@[simp] theorem clearOutstanding_still (s : State) : (clearOutstanding s).still = s.still := rfl
@[simp] theorem takeAnswer_still (ans : CameraAnswer) (s : State) : (takeAnswer ans s).still = s.still := by
  unfold takeAnswer; (repeat' split) <;> simp
@[simp] theorem answerRunsOut_still (s : State) : (answerRunsOut s).still = s.still := by
  unfold answerRunsOut; (repeat' split) <;> simp
@[simp] theorem cameraWaitRunsOut_still (s : State) : (cameraWaitRunsOut s).still = s.still := by
  unfold cameraWaitRunsOut; split <;> simp
@[simp] theorem orphanOutstanding_still (s : State) : (orphanOutstanding s).still = s.still := rfl
@[simp] theorem haltSequencer_still (s : State) : (haltSequencer s).still = s.still := by
  unfold haltSequencer; (repeat' split) <;> simp
@[simp] theorem clearSequencer_still (s : State) : (clearSequencer s).still = s.still := by
  unfold clearSequencer; dsimp only; (repeat' split) <;> simp
@[simp] theorem newPass_still (s : State) : (newPass s).still = s.still := rfl
@[simp] theorem leaveIndexing_still (s : State) : (leaveIndexing s).still = s.still := by unfold leaveIndexing; split <;> simp
@[simp] theorem setMode_still (m : TrackerMode) (s : State) : (setMode m s).still = s.still := by
  unfold setMode; (repeat' split) <;> simp
@[simp] theorem refreshMode_still (s : State) : (refreshMode s).still = s.still := by simp [refreshMode]
@[simp] theorem withdrawRescan_still (s : State) : (withdrawRescan s).still = s.still := by unfold withdrawRescan; split <;> simp
@[simp] theorem askReference_still (s : State) : (askReference s).still = s.still := by
  unfold askReference; dsimp only; (repeat' split) <;> simp
@[simp] theorem stopForLoss_still (s : State) : (stopForLoss s).still = s.still := by unfold stopForLoss; (repeat' split) <;> simp
@[simp] theorem loseReference_still (s : State) : (loseReference s).still = s.still := by
  unfold loseReference; dsimp only; (repeat' split) <;> simp
@[simp] theorem setReference_still (r : Reference) (s : State) : (setReference r s).still = s.still := by
  unfold setReference; (repeat' split) <;> simp
@[simp] theorem askLoss_still (s : State) : (askLoss s).still = s.still := by unfold askLoss; split <;> simp
@[simp] theorem driftReference_still (s : State) : (driftReference s).still = s.still := by
  unfold driftReference; dsimp only; (repeat' split) <;> simp
@[simp] theorem armFrames_still (job n : Nat) (s : State) : (armFrames job n s).still = s.still := by
  induction n generalizing s with
  | zero => rfl
  | succ n ih => unfold armFrames; (repeat' split) <;> simp [ih]

@[simp] theorem armRun_still (s : State) : (armRun s).still = s.still := by unfold armRun; split <;> simp
@[simp] theorem setIndexState_still (st : IndexState) (s : State) : (setIndexState st s).still = s.still := by
  unfold setIndexState; split <;> simp
@[simp] theorem completeTest_still (s : State) : (completeTest s).still = s.still := by
  unfold completeTest; (repeat' split) <;> simp
@[simp] theorem raiseFrontier_still (p : Nat) (s : State) : (raiseFrontier p s).still = s.still := by
  unfold raiseFrontier; dsimp only; (repeat' split) <;> simp
@[simp] theorem appendEntry_still (e : Entry) (s : State) : (appendEntry e s).still = s.still := by
  unfold appendEntry; dsimp only; (repeat' split) <;> simp
@[simp] theorem setRollEnd_base (e : Nat) (s : State) : (setRollEnd e s).still.base = s.still.base := by simp [setRollEnd]
@[simp] theorem realign_still (s : State) : (realign s).still = s.still := rfl
@[simp] theorem removeEntries_still (n : Nat) (s : State) : (removeEntries n s).still = s.still := rfl
@[simp] theorem filmBreakCut_base (threshold : Int) (s : State) : (filmBreakCut threshold s).still.base = s.still.base := by
  unfold filmBreakCut; split <;> simp
@[simp] theorem emptyIndex_still (s : State) : (emptyIndex s).still = s.still := by
  unfold emptyIndex; dsimp only; (repeat' split) <;> simp
@[simp] theorem spliceOpens_still (s : State) : (spliceOpens s).still = s.still := by unfold spliceOpens; split <;> simp
@[simp] theorem spliceCloses_still (s : State) : (spliceCloses s).still = s.still := by
  unfold spliceCloses; dsimp only; (repeat' split) <;> simp
@[simp] theorem modifyCandidate_still (f : Candidate → Candidate) (s : State) : (modifyCandidate f s).still = s.still := rfl
@[simp] theorem freezeIndex_still (st : IndexState) (s : State) : (freezeIndex st s).still = s.still := by simp [freezeIndex]
@[simp] theorem commit_still (high : Nat) (byPitchMax : Bool) (s : State) : (commit high byPitchMax s).2.still = s.still := by
  unfold commit; dsimp only; (repeat' split) <;> simp
@[simp] theorem dropAtLimit_still (s : State) : (dropAtLimit s).still = s.still := by
  unfold dropAtLimit; dsimp only; split <;> simp
@[simp] theorem acceptEdge_still (k : Opening) (s : State) : (acceptEdge k s).still = s.still := by
  have h := commit_still (s.transport.position - 1) false s
  unfold acceptEdge
  dsimp only
  split <;> rename_i heq <;> rw [heq] at h <;> simpa using h

@[simp] theorem classifyEdge_still (s : State) : (classifyEdge s).still = s.still := by
  unfold classifyEdge; dsimp only; (repeat' split) <;> simp
@[simp] theorem pitchStep_still (s : State) : (pitchStep s).still = s.still := by
  unfold pitchStep; dsimp only; (repeat' split) <;> simp
@[simp] theorem takeHighEdge_still (s : State) : (takeHighEdge s).still = s.still := by
  unfold takeHighEdge; dsimp only; (repeat' split) <;> simp
@[simp] theorem dropParked_still (s : State) : (dropParked s).still = s.still := rfl
@[simp] theorem parkedTest_still (s : State) : (parkedTest s).still = s.still := by unfold parkedTest; (repeat' split) <;> simp
@[simp] theorem enterIndexing_still (s : State) : (enterIndexing s).still = s.still := by
  unfold enterIndexing; (repeat' split) <;> simp
@[simp] theorem handover_still (p : Parked) (s : State) : (handover p s).still = s.still := by unfold handover; split <;> simp
@[simp] theorem askRescan_still (e : Nat) (s : State) : (askRescan e s).still = s.still := by simp [askRescan]
@[simp] theorem missTest_still (old : Nat) (s : State) : (missTest old s).still = s.still := by
  unfold missTest; dsimp only; (repeat' split) <;> simp
@[simp] theorem rescanNotFound_still (s : State) : (rescanNotFound s).still = s.still := rfl
@[simp] theorem rescanTest_still (old : Nat) (s : State) : (rescanTest old s).still = s.still := by
  unfold rescanTest; (repeat' split) <;> simp
@[simp] theorem pitchMaxTest_still (s : State) : (pitchMaxTest s).still = s.still := by
  unfold pitchMaxTest; dsimp only; (repeat' split) <;> simp
@[simp] theorem limitTest_still (old : Nat) (s : State) : (limitTest old s).still = s.still := by
  unfold limitTest; dsimp only; (repeat' split) <;> simp
@[simp] theorem markOpens_still (s : State) : (markOpens s).still = s.still := by unfold markOpens; split <;> simp
@[simp] theorem gatherMark_still (mid : Nat) (m : Mark) (s : State) : (gatherMark mid m s).still = s.still := rfl
@[simp] theorem markCloses_still (s : State) : (markCloses s).still = s.still := by
  unfold markCloses; dsimp only; (repeat' split) <;> simp
@[simp] theorem compareMarks_still (g : Gather) (s : State) : (compareMarks g s).still = s.still := by
  unfold compareMarks; (repeat' split) <;> simp
@[simp] theorem closeGathering_still (pick : Gather → Bool) (s : State) : (closeGathering pick s).still = s.still := by
  simp [closeGathering]
@[simp] theorem gatheringTest_still (s : State) : (gatheringTest s).still = s.still := by unfold gatheringTest; split <;> simp
@[simp] theorem countPassed_still (k : Nat) (s : State) : (countPassed k s).still = s.still := by
  unfold countPassed; dsimp only; (repeat' split) <;> simp
@[simp] theorem passedTest_still (old : Nat) (d : Direction) (s : State) : (passedTest old d s).still = s.still := by
  unfold passedTest; split <;> simp
@[simp] theorem runReported_still (a : Armed) (s : State) : (runReported a s).still = s.still := by simp [runReported]
@[simp] theorem missInRun_still (a : Armed) (why : MissReason) (s : State) : (missInRun a why s).still = s.still := by
  simp [missInRun]
@[simp] theorem takeTrigger_still (a : Armed) (s : State) : (takeTrigger a s).still = s.still := by
  unfold takeTrigger; (repeat' split) <;> simp
@[simp] theorem takeTriggers_still (old n : Nat) (s : State) : (takeTriggers old n s).still = s.still := by
  induction n generalizing s with
  | zero => rfl
  | succ n ih => unfold takeTriggers; split <;> simp [ih]

@[simp] theorem trackerMoved_still (old : Nat) (d : Direction) (s : State) : (trackerMoved old d s).still = s.still := by
  unfold trackerMoved; dsimp only; (repeat' split) <;> simp
@[simp] theorem tailTest_base (s : State) : (tailTest s).still.base = s.still.base := by unfold tailTest; (repeat' split) <;> simp
@[simp] theorem positionMoved_base (old : Nat) (d : Direction) (s : State) :
    (positionMoved old d s).still.base = s.still.base := by
  unfold positionMoved; (repeat' split) <;> simp
@[simp] theorem absorbCounts_still (n : Nat) (s : State) : (absorbCounts n s).still = s.still := by
  unfold absorbCounts; dsimp only; (repeat' split) <;> simp
@[simp] theorem putPosition_core (p : Nat) (s : State) : (putPosition p s).still.base.core = s.still.base.core := rfl
@[simp] theorem carryPosition_core (d : Direction) (n : Nat) (s : State) :
    (carryPosition d n s).still.base.core = s.still.base.core := by
  unfold carryPosition; dsimp only; (repeat' split) <;> simp
@[simp] theorem trim_core (d : Int) (s : State) : (trim d s).still.base.core = s.still.base.core := by
  unfold trim; (repeat' split) <;> simp
@[simp] theorem turnTravel_still (d : Direction) (s : State) : (turnTravel d s).still = s.still := by
  unfold turnTravel; split <;> simp
@[simp] theorem searchTravels_still (d : Direction) (s : State) : (searchTravels d s).still = s.still := rfl
@[simp] theorem capstanMoves_core (d : Direction) (s : State) : (capstanMoves d s).still.base.core = s.still.base.core := by
  unfold capstanMoves; split <;> simp
@[simp] theorem correctPosition_core (low : Nat) (s : State) : (correctPosition low s).still.base.core = s.still.base.core := by
  unfold correctPosition; dsimp only; (repeat' split) <;> simp
@[simp] theorem matchEdge_core (s : State) : (matchEdge s).still.base.core = s.still.base.core := by
  unfold matchEdge; dsimp only; (repeat' split) <;> simp
@[simp] theorem takeLowEdge_core (s : State) : (takeLowEdge s).still.base.core = s.still.base.core := by
  unfold takeLowEdge; (repeat' split) <;> simp
@[simp] theorem takeHigh_still (s : State) : (takeHigh s).still = s.still := by unfold takeHigh; split <;> simp
@[simp] theorem startMove_still (m : MoveRecord) (s : State) : (startMove m s).still = s.still := by
  unfold startMove; dsimp only; (repeat' split) <;> simp
@[simp] theorem startReference_still (s : State) : (startReference s).still = s.still := by simp [startReference]
@[simp] theorem enterTensioning_still (s : State) : (enterTensioning s).still = s.still := by simp [enterTensioning]
@[simp] theorem modifyCurrent_still (f : Current → Current) (s : State) : (modifyCurrent f s).still = s.still := rfl
@[simp] theorem returnRecord_still (s : State) : (returnRecord s).still = s.still := by
  unfold returnRecord; dsimp only; (repeat' split) <;> simp
@[simp] theorem takeRecord_still (m : MoveRecord) (s : State) : (takeRecord m s).still = s.still := by
  unfold takeRecord; (repeat' split) <;> simp
@[simp] theorem handRecord_still (s : State) : (handRecord s).still = s.still := by unfold handRecord; (repeat' split) <;> simp
@[simp] theorem handLeg_still (s : State) : (handLeg s).still = s.still := by unfold handLeg; (repeat' split) <;> simp
@[simp] theorem tellCurrent_still (r : Requester) (k : QKind) (s : State) : (tellCurrent r k s).still = s.still := by
  unfold tellCurrent; (repeat' split) <;> simp
@[simp] theorem makeCurrent_still (e : QEntry) (s : State) : (makeCurrent e s).still = s.still := by simp [makeCurrent]
@[simp] theorem ageOthers_still (chosen : QEntry) (s : State) : (ageOthers chosen s).still = s.still := rfl
@[simp] theorem startOccupancy_still (e : QEntry) (s : State) : (startOccupancy e s).still = s.still := rfl
@[simp] theorem selectIn_still (cls : QClass) (s : State) : (selectIn cls s).still = s.still := by unfold selectIn; split <;> simp
@[simp] theorem select_still (s0 : State) : (select s0).still = s0.still := by unfold select; dsimp only; (repeat' split) <;> simp
@[simp] theorem suspendRun_still (job : Nat) (s : State) : (suspendRun job s).still = s.still := by simp [suspendRun]
@[simp] theorem legStopped_still (c : Current) (s : State) : (legStopped c s).still = s.still := by
  unfold legStopped; split <;> simp
@[simp] theorem indexLegDone_still (n : Nat) (o : MoveOutcome) (s : State) : (indexLegDone n o s).still = s.still := by
  unfold indexLegDone; dsimp only; (repeat' split) <;> simp
@[simp] theorem seekLegDone_still (n : Nat) (o : MoveOutcome) (s : State) : (seekLegDone n o s).still = s.still := by
  unfold seekLegDone; split <;> simp
@[simp] theorem runLegDone_still (n : Nat) (o : MoveOutcome) (s : State) : (runLegDone n o s).still = s.still := by
  simp [runLegDone]
@[simp] theorem resumeInterrupted_still (s : State) : (resumeInterrupted s).still = s.still := by
  unfold resumeInterrupted; dsimp only; (repeat' split) <;> simp
@[simp] theorem dropDone_still (c : Current) (s : State) : (dropDone c s).still = s.still := by
  unfold dropDone; (repeat' split) <;> simp
@[simp] theorem motionDone_still (c : Current) (o : MoveOutcome) (s : State) : (motionDone c o s).still = s.still := by
  unfold motionDone; dsimp only; (repeat' split) <;> simp
@[simp] theorem legDone_still (o : MoveOutcome) (s : State) : (legDone o s).still = s.still := by
  unfold legDone; (repeat' split) <;> simp
@[simp] theorem continueRun_still (s : State) : (continueRun s).still = s.still := by unfold continueRun; (repeat' split) <;> simp
@[simp] theorem releaseFrames_still (n : Nat) (s : State) : (releaseFrames n s).still = s.still := by
  unfold releaseFrames; (repeat' split) <;> simp
@[simp] theorem releaseAll_still (s : State) : (releaseAll s).still = s.still := by simp [releaseAll]
@[simp] theorem loseRoll_still (n : Nat) (s : State) : (loseRoll n s).still = s.still := by
  unfold loseRoll; (repeat' split) <;> simp
@[simp] theorem clearContents_base (s : State) : (clearContents s).still.base = s.still.base := by simp [clearContents]
@[simp] theorem freshTracker_still (s : State) : (freshTracker s).still = s.still := rfl
@[simp] theorem emptyTracker_still (s : State) : (emptyTracker s).still = s.still := rfl
@[simp] theorem stopWork_still (s : State) : (stopWork s).still = s.still := rfl
@[simp] theorem enterEmpty_core (unloaded : Bool) (s : State) : (enterEmpty unloaded s).still.base.core = s.still.base.core := by
  unfold enterEmpty; split <;> simp
@[simp] theorem startForwardSearch_still (s : State) : (startForwardSearch s).still = s.still := by simp [startForwardSearch]
@[simp] theorem searchPhase_still (p : SearchPhase) (s : State) : (searchPhase p s).still = s.still := rfl
@[simp] theorem takeLeaderEdge_core (s : State) : (takeLeaderEdge s).still.base.core = s.still.base.core := by
  unfold takeLeaderEdge; (repeat' split) <;> simp
@[simp] theorem endSearch_still (s : State) : (endSearch s).still = s.still := rfl
@[simp] theorem endRollJob_still (st : JobState) (why : EndReason) (s : State) : (endRollJob st why s).still = s.still := by
  unfold endRollJob; split <;> simp
@[simp] theorem searchArrived_still (s : State) : (searchArrived s).still = s.still := by
  unfold searchArrived; dsimp only; (repeat' split) <;> simp
@[simp] theorem searchFails_still (s : State) : (searchFails s).still = s.still := by
  unfold searchFails; dsimp only; (repeat' split) <;> simp
@[simp] theorem startLoad_base (n : Nat) (s : State) : (startLoad n s).still.base = s.still.base := by
  unfold startLoad; dsimp only; (repeat' split) <;> simp_all
@[simp] theorem startRewind_still (s : State) : (startRewind s).still = s.still := by simp [startRewind]
@[simp] theorem startUnload_still (n : Nat) (s : State) : (startUnload n s).still = s.still := by
  unfold startUnload; dsimp only; (repeat' split) <;> simp
@[simp] theorem startRollJob_base (s : State) : (startRollJob s).still.base = s.still.base := by
  unfold startRollJob; dsimp only; (repeat' split) <;> simp
@[simp] theorem threadingDone_still (s : State) : (threadingDone s).still = s.still := by simp [threadingDone]
@[simp] theorem threadingFails_core (s : State) : (threadingFails s).still.base.core = s.still.base.core := by
  simp [threadingFails]
@[simp] theorem tensionReached_still (s : State) : (tensionReached s).still = s.still := by
  unfold tensionReached; dsimp only; (repeat' split) <;> simp_all
@[simp] theorem completeMove_still (o : MoveOutcome) (s : State) : (completeMove o s).still = s.still := by
  unfold completeMove; dsimp only; (repeat' split) <;> simp
@[simp] theorem cancelledAtRest_still (s : State) : (cancelledAtRest s).still = s.still := by simp [cancelledAtRest]
@[simp] theorem tailReached_still (s : State) : (tailReached s).still = s.still := by unfold tailReached; split <;> simp
@[simp] theorem searchAtRest_still (s : State) : (searchAtRest s).still = s.still := by
  unfold searchAtRest; (repeat' split) <;> simp
@[simp] theorem motionStops_still (s : State) : (motionStops s).still = s.still := by unfold motionStops; (repeat' split) <;> simp
@[simp] theorem cancelRollWork_core (s : State) : (cancelRollWork s).still.base.core = s.still.base.core := by
  unfold cancelRollWork; split <;> simp
@[simp] theorem retargetMove_still (e : Nat) (s : State) : (retargetMove e s).still = s.still := by
  unfold retargetMove; (repeat' split) <;> simp
@[simp] theorem takeTail_base (s : State) : (takeTail s).still.base = s.still.base := by
  unfold takeTail; dsimp only; (repeat' split) <;> simp
@[simp] theorem syncHoldTimer_still (s : State) : (syncHoldTimer s).still = s.still := by
  unfold syncHoldTimer; (repeat' split) <;> simp
@[simp] theorem syncPersist_still (s : State) : (syncPersist s).still = s.still := rfl
@[simp] theorem syncStall_still (s : State) : (syncStall s).still = s.still := by unfold syncStall; split <;> simp
@[simp] theorem beginTransmission_still (l : LinkId) (k : TxKind) (body : List Byte) (s : State) :
    (beginTransmission l k body s).still = s.still := rfl
@[simp] theorem serviceLink_still (l : LinkId) (s : State) : (serviceLink l s).still = s.still := by
  unfold serviceLink; dsimp only; (repeat' split) <;> simp
@[simp] theorem serviceLinks_still (s : State) : (serviceLinks s).still = s.still := by simp [serviceLinks]
@[simp] theorem arbitrate_still (s : State) : (arbitrate s).still = s.still := by simp [arbitrate]
@[simp] theorem serviceCapture_base (s : State) : (serviceCapture s).still.base = s.still.base := by simp [serviceCapture]
@[simp] theorem settleBlocks_base (s : State) : (settleBlocks s).still.base = s.still.base := by simp [settleBlocks]
@[simp] theorem settle_base (s : State) : (settle s).still.base = s.still.base := by simp [settle]
@[simp] theorem haltFocus_still (s : State) : (haltFocus s).still = s.still :=
  (onFocus_still (by split <;> rfl)).trans (abandonSearch_still s)

@[simp] theorem holdItem_still (job frame : Nat) (s : State) : (holdItem job frame s).still = s.still := rfl
@[simp] theorem haltRun_still (n : Nat) (c : Current) (s : State) : (haltRun n c s).still = s.still := by
  unfold haltRun; (repeat' split) <;> simp
@[simp] theorem haltArbiter_still (s : State) : (haltArbiter s).still = s.still := by unfold haltArbiter; (repeat' split) <;> simp
@[simp] theorem haltTransport_still (c : Cause) (s : State) : (haltTransport c s).still = s.still := by simp [haltTransport]
@[simp] theorem failJob_still (c : Cause) (n : Nat) (s : State) : (failJob c n s).still = s.still := by simp [failJob]
@[simp] theorem jobFate_still (c : Cause) (n : Nat) (s : State) : (jobFate c n s).still = s.still := by
  unfold jobFate; (repeat' split) <;> simp
@[simp] theorem applyFate_still (c : Cause) (s : State) : (applyFate c s).still = s.still := by simp [applyFate]
@[simp] theorem breakFilm_still (c : Cause) (s : State) : (breakFilm c s).still = s.still := by unfold breakFilm; split <;> simp
@[simp] theorem reportFault_core (c : Cause) (s : State) : (reportFault c s).still.base.core = s.still.base.core := by
  unfold reportFault; (repeat' split) <;> simp
@[simp] theorem leaveHalt_core (c : Option Cause) (s : State) : (leaveHalt c s).still.base.core = s.still.base.core := by
  unfold leaveHalt; split <;> simp
@[simp] theorem clearLens_still (s : State) : (clearLens s).still = s.still := rfl
@[simp] theorem startWaiting_still (n : Nat) (s : State) : (startWaiting n s).still = s.still := by
  unfold startWaiting; (repeat' split) <;> simp
@[simp] theorem clearCut_base (s : State) : (clearCut s).still.base = s.still.base := by unfold clearCut; split <;> simp
@[simp] theorem restart_still (s : State) : (restart s).still = s.still := by unfold restart; dsimp only; (repeat' split) <;> simp
@[simp] theorem applyClear_core (s : State) : (applyClear s).still.base.core = s.still.base.core := by simp [applyClear]
@[simp] theorem putSegment_still (n : Nat) (sg : Segment) (s : State) : (putSegment n sg s).still = s.still := rfl
@[simp] theorem truncateAt_still (n : Nat) (s : State) : (truncateAt n s).still = s.still := by
  unfold truncateAt; dsimp only; (repeat' split) <;> simp
@[simp] theorem cancelWork_core (j : Job) (s : State) : (cancelWork j s).still.base.core = s.still.base.core := by
  unfold cancelWork; split <;> simp
@[simp] theorem insertJob_given (l : LinkId) (o : JobOrder) (s : State) :
    (insertJob l o s).still.base.core.given = s.still.base.core.given := by
  unfold insertJob; split <;> simp
@[simp] theorem beginJob_still (n : Nat) (o : JobOrder) (s : State) : (beginJob n o s).still = s.still := by
  unfold beginJob; dsimp only; (repeat' split) <;> simp
@[simp] theorem buildReply_still (l : LinkId) (kind tag : Byte) (r : Result) (data : List Byte) (s : State) :
    (buildReply l kind tag r data s).still = s.still := rfl
/-- No request changes the waiting commands or the input levels. -/
theorem perform_given (l : LinkId) (o : Order) (s : State) :
    (perform l o s).state.still.base.core.given = s.still.base.core.given := by
  cases o <;> unfold perform <;> dsimp only
  · unfold setProfile refuse; (repeat' split) <;> rfl
  · unfold getEntries; dsimp only; split <;> rfl
  · unfold findAddress; dsimp only; split <;> rfl
  · unfold setFocusPoint refuse; split <;> rfl
  · rfl
  · unfold verifySegment refuse; dsimp only; (repeat' split) <;> simp
  · unfold unverifySegment refuse; dsimp only; (repeat' split) <;> simp
  · unfold truncateIndex refuse; split <;> simp
  · unfold setNoticeMask; rfl
  · unfold clearFault; split <;> simp
  · unfold cancelJob refuse; (repeat' split) <;> simp
  · unfold getJob refuse; split <;> rfl
  · unfold jobRequest refuse; split <;> simp

@[simp] theorem answerFrame_given (l : LinkId) (body : List Byte) (s : State) :
    (answerFrame l body s).still.base.core.given = s.still.base.core.given := by
  unfold answerFrame
  (repeat' split) <;> simp [perform_given]

@[simp] theorem takeFrame_given (l : LinkId) (s : State) : (takeFrame l s).still.base.core.given = s.still.base.core.given := by
  unfold takeFrame; split <;> simp
@[simp] theorem placeFrame_given (l : LinkId) (body : List Byte) (s : State) :
    (placeFrame l body s).still.base.core.given = s.still.base.core.given := by
  unfold placeFrame; split <;> simp
@[simp] theorem receiveByte_given (l : LinkId) (b : RxByte) (s : State) :
    (receiveByte l b s).still.base.core.given = s.still.base.core.given := by
  unfold receiveByte; (repeat' split) <;> simp
@[simp] theorem betweenBytes_still (l : LinkId) (s : State) : (betweenBytes l s).still = s.still := by
  unfold betweenBytes; split <;> simp
@[simp] theorem receiveBytes_given (l : LinkId) (bs : List Byte) (s : State) :
    (receiveBytes l bs s).still.base.core.given = s.still.base.core.given := by
  induction bs, s using receiveBytes.induct l with
  | case1 s => rfl
  | case2 s b => simp [receiveBytes]
  | case3 s b bs h ih => rw [receiveBytes, ih] <;> simp_all

@[simp] theorem frameArrives_given (l : LinkId) (body : List Byte) (s : State) :
    (frameArrives l body s).still.base.core.given = s.still.base.core.given := by
  unfold frameArrives; (repeat' split) <;> simp
@[simp] theorem requestArrives_given (l : LinkId) (tag : Byte) (r : Request) (s : State) :
    (requestArrives l tag r s).still.base.core.given = s.still.base.core.given := by
  simp [requestArrives]
@[simp] theorem takeLevels_pending (lv : Levels) (s : State) : (takeLevels lv s).pending = s.pending := rfl
@[simp] theorem sentFrame_given (l : LinkId) (k : TxKind) (s : State) :
    (sentFrame l k s).still.base.core.given = s.still.base.core.given := by
  unfold sentFrame; (repeat' split) <;> simp
@[simp] theorem endTransmission_given (l : LinkId) (s : State) :
    (endTransmission l s).still.base.core.given = s.still.base.core.given := by
  unfold endTransmission; split <;> simp
@[simp] theorem breakJob_given (l : LinkId) (n : Nat) (s : State) :
    (breakJob l n s).still.base.core.given = s.still.base.core.given := by
  unfold breakJob; (repeat' split) <;> simp
@[simp] theorem markDropped_still (l : LinkId) (s : State) : (markDropped l s).still = s.still := rfl
@[simp] theorem forgetVerifier_still (l : LinkId) (s : State) : (forgetVerifier l s).still = s.still := rfl
@[simp] theorem beginBreak_given (l : LinkId) (s : State) :
    (beginBreak l s).still.base.core.given = s.still.base.core.given := by
  unfold beginBreak
  split
  · rfl
  · simp [foldl_keeps (fun s => s.still.base.core.given) (fun s n => breakJob_given l n s)]

@[simp] theorem endBreak_still (l : LinkId) (s : State) : (endBreak l s).still = s.still := by unfold endBreak; split <;> simp
/-- What an event keeps, a guarded event keeps, as far as the settling keeps it. -/
theorem taken_keeps {β : Type} (part : Base → β) {test : Bool} {act : State → State} {s : State}
    (h : part (act s).still.base = part s.still.base) : part (taken test act s).still.base = part s.still.base := by
  unfold taken
  split
  · simpa using h
  · rfl

@[simp] theorem State.powered_pending (lv : Levels) (s : State) : (State.powered lv s).pending = s.pending := rfl
@[simp] theorem putReading_pending (side : Side) (r : TensionReading) (s : State) : (putReading side r s).pending = s.pending := rfl
@[simp] theorem tensionEffect_core (side : Side) (r : TensionReading) (s : State) :
    (tensionEffect side r s).still.base.core = s.still.base.core := by
  unfold tensionEffect; (repeat' split) <;> simp
@[simp] theorem tensionRunsOut_core (s : State) : (tensionRunsOut s).still.base.core = s.still.base.core := by
  unfold tensionRunsOut; split <;> simp
@[simp] theorem rest_still (s : State) : (rest s).still = s.still := by simp [rest]
@[simp] theorem filmOut_pending (s : State) : (filmOut s).pending = s.pending := rfl
@[simp] theorem rewindEnds_core (s : State) : (rewindEnds s).still.base.core = s.still.base.core := by
  unfold rewindEnds; split <;> simp
@[simp] theorem filmOutEffect_core (s : State) : (filmOutEffect s).still.base.core = s.still.base.core := by
  unfold filmOutEffect; (repeat' split) <;> simp
@[simp] theorem stopIn_pending (s : State) : (stopIn s).pending = s.pending := rfl
@[simp] theorem putHomeSwitch_pending (v : Bool) (s : State) : (putHomeSwitch v s).pending = s.pending := rfl
@[simp] theorem lensFaults_core (s : State) : (lensFaults s).still.base.core = s.still.base.core := by simp [lensFaults]
@[simp] theorem lensStalls_core (s : State) : (lensStalls s).still.base.core = s.still.base.core := by
  unfold lensStalls; split <;> simp
@[simp] theorem putCameraReady_pending (v : Bool) (s : State) : (putCameraReady v s).pending = s.pending := rfl
@[simp] theorem readyRises_pending (s : State) : (readyRises s).pending = s.pending := rfl

end Sys2Proof.Machine
end

