-- ==== Sys2Proof/Laws/Wire.lean ====
section
/-! SUPPORT. The fields of the statements are the fields the records are built of. -/

namespace Sys2Proof.Machine

theorem wire_one (n : Nat) : wire 1 n = be8 n := by simp [wire, be8]

theorem wire_two (n : Nat) : wire 2 n = be16 n := by simp [wire, be16]

theorem wire_three (n : Nat) : wire 3 n = be24 n := by simp [wire, be24]

theorem wireOpt_two (v : Option Nat) : wireOpt 2 v = opt16 v := by simp [wireOpt, opt16, wire_two]

theorem wireOpt_three (v : Option Nat) : wireOpt 3 v = opt24 v := by simp [wireOpt, opt24, wire_three]

theorem wireFlag_eq (b : Bool) : wireFlag b = [boolByte b] := by cases b <;> rfl

end Sys2Proof.Machine
end

