-- ==== Sys2Proof/Tests/Slice0.lean ====
section
/-! SUPPORT. Tests: ill-formed commands, worked examples of the manual, and a witness for the hypotheses of each statement. -/

namespace Sys2Proof.Tests

-- One proof at a time: elaborated side by side, the kernel evaluations below each hold a thread (256 MB of stack) while they
-- wait for one another, and together they reach the compile's memory limit.
set_option Elab.async false

open Sys2Proof.Machine

/-! ### Small states -/

/-- The state a command leaves. -/
def after (c : Instr) (s : State) : State :=
  match exec c s with
  | .next t => t
  | _ => s

/-- All levels clear. -/
def lv0 : Levels := { filmPresent := false, stop := false, protectKey := false, cameraReady := false, homeSwitch := false }

/-- A state after reset with a changed transport. -/
def st (f : Transport → Transport) : State := State.reset.onTransport f

/-- Film under drive at a position, EXACT, forward. -/
def moving (pos : Nat) : State := st fun t => { t with state := .moving, reference := .exact, position := pos, tension := .taut }

/-- The tracker INDEXING at a position. -/
def indexing (pos : Nat) (f : Tracker → Tracker) : State :=
  (moving pos).onTracker fun t => f { t with mode := .indexing }

/-- An entry with low and high edges and an address. -/
def ent (low high : Nat) (a : Address) : Entry :=
  { low := low, high := high, address := a, markLevel := 0, flags := {}, gapLength := 0, missing := 0, captureState := .none,
    captureCount := 0, lastFocusStep := none }

/-- The index holds entries in a state. -/
def holding (es : List Entry) (ist : IndexState) (s : State) : State :=
  s.onIndex fun ix => { ix with entries := es, state := ist, frontier := (es.getLast?.map (·.high)).getD 0 }

/-- The seven entries of the address example of chapter 2. -/
def seven : List Entry :=
  [ent 1000 3000 ⟨12, 40, 1⟩, ent 3400 5400 ⟨12, 40, 2⟩, ent 5800 7800 ⟨12, 40, 3⟩, ent 8200 10200 ⟨12, 41, 1⟩,
   ent 10600 12600 ⟨12, 41, 2⟩, ent 13000 15000 ⟨13, 1, 1⟩, ent 15400 17400 ⟨13, 1, 2⟩]

/-- A candidate with a low edge. -/
def cand (low : Nat) (high : Option Nat) : Candidate :=
  { low := low, high := high, opening := .inWindow, gapLength := 0, missing := 0, flags := {}, marks := [],
    estimateDone := false }

/-- A job of a link. -/
def job (n : Nat) (l : LinkId) (js : JobState) : Job :=
  { number := n, link := l, state := js, urgent := false, search := false, endReason := .none, waitClear := false,
    body := .seek (.frame 0) none none none }

/-- The job table holds jobs. -/
def table (js : List Job) (s : State) : State := s.onJobs fun t => { t with slots := js }

/-- A capture record of a link. -/
def rec1 (l : LinkId) : CaptureRecord :=
  { job := 1, link := l, item := none, frame := 0, address := ⟨1, 1, 1⟩, t := 8000, lens := 0, kind := .run,
    outcome := .done, reason := .none, drop := false }

/-- An armed RUN trigger. -/
def arm1 : Armed := { frame := 0, t := 8000, mode := .run, kind := .run, job := 1, item := none }

/-- A fired trigger. -/
def shot1 : CaptureShot :=
  { trigger := arm1, address := ⟨1, 1, 1⟩, lens := 0, link := .a, drop := false, orphan := false }

/-- The ring holds `n` records. -/
def ring (n : Nat) (s : State) : State := s.onCapture fun c => { c with ring := List.replicate n (rec1 .a) }

/-- A trigger of a run is outstanding. -/
def fired : State :=
  State.reset.onCapture fun c => { c with outstanding := some (.capture 250 shot1), handshake := .waitAnswer }

/-- A queue entry of a job. -/
def entry (n start arrival skip : Nat) (k : QKind) : QEntry :=
  { requester := .job n, cls := .normal, kind := k, frame := none, start := start, arrival := arrival, skip := skip,
    resume := false }

/-- A move record to a target. -/
def mv (target : Nat) : MoveRecord :=
  { target := target, speed := .seek, purpose := .seek, stopAtTrigger := false, clamped := false, retargeted := false,
    stopping := false }

/-- A search with its trials. -/
def srch (stage : TrialStage) : FocusSearch :=
  { frame := 0, mid := 2000, start := 1950, job := 1, phase := .coarse, trials := [], steps := trialSteps 1950 24 [],
    extensionDone := false, stage := stage }

/-- The record of the default profile (1.2). -/
def defaultRecord : ProfileRecord where
  filmWidth         := 16
  pitchNominal      := 2400
  pitchMin          := 1600
  pitchMax          := 3600
  imageMin          := 1200
  imageMax          := 3400
  markMin           := 60
  mark12            := 300
  mark23            := 600
  markMax           := 1200
  startBatch        := 1
  startDocument     := 1
  startPage         := 1
  axisOffset        := 6000
  slipTol           := 40
  rescanLimit       := 2
  spliceFocusOffset := 0
  defaultFocus      := 2048
  focusReach        := 40000
  metricFloor       := 2000
  captureSpeed      := 60
  answerLimit       := 250
  holdTime          := 120
  readAhead         := 1

/-- A target field that names a frame. -/
def frameField (n : BitVec 16) : TargetField := { code := 1, w0 := n, w1 := 0, w2 := 0 }

/-- A target field that names ROLL_END. -/
def endField : TargetField := { code := 3, w0 := 0, w1 := 0, w2 := 0 }

/-! ### Ill-formed commands -/

theorem test_fetch_36_items_ill_formed :
    (Instr.fetch .a 0 0 (List.replicate 36 (frameField 0))).wellFormed = false := by decide

theorem test_fetch_35_items_well_formed :
    (Instr.fetch .a 0 0 (List.replicate 35 (frameField 0))).wellFormed = true := by decide

theorem test_unknown_with_known_kind_ill_formed : (Instr.unknownRequest .a 0 0x35 []).wellFormed = false := by decide

theorem test_unknown_too_long_ill_formed :
    (Instr.unknownRequest .a 0 0x77 (List.replicate 249 0)).wellFormed = false := by decide +kernel

theorem test_frame_of_one_byte_ill_formed : (Instr.frameReceived .a [1] 0).wellFormed = false := by decide

theorem test_frame_of_251_bytes_ill_formed :
    (Instr.frameReceived .a (List.replicate 251 0) 0).wellFormed = false := by decide +kernel

/-- The table gives no row bits, so no word is a command. -/
theorem test_no_word_is_a_command : decodeTableWord 8 0x01 = none := by decide

/-- A step from reset with a command in front runs it. -/
theorem test_step_runs_front :
    (match step (State.reset.withPending [.cameraReadyRise]) with
     | .next t => t.capture.handshake == .ready && t.pending == []
     | _ => false) = true := by decide +kernel

/-! ### Worked examples -/

/-- 2.3, four frames at nominal pitch, row 2: the step of 8. -/
theorem test_pitch_step_up : steppedPitch {} 38400 64 = (38408, false) := by decide

/-- 2.3, row 3: floor(-6.5) = -7. -/
theorem test_pitch_step_down : steppedPitch {} 38408 (-56) = (38401, false) := by decide

/-- 2.3, the limits: clamp at pitch_max. -/
theorem test_pitch_clamp : steppedPitch {} 57590 1610 = (57600, true) := by decide

/-- 2.3, the limits: the window is held to 400. -/
theorem test_window_held : ({ Tracker.fresh {} with p16 := 57590 } : Tracker).window = 400 := by decide

/-- 2.5, counting addresses: frames 3, 5 and 6. -/
theorem test_addresses : nextAddress ⟨12, 40, 1⟩ (some ⟨12, 40, 3⟩) 2 = some ⟨12, 41, 1⟩ ∧
    nextAddress ⟨12, 40, 1⟩ (some ⟨12, 41, 2⟩) 3 = some ⟨13, 1, 1⟩ ∧
    nextAddress ⟨12, 40, 1⟩ (some ⟨13, 1, 1⟩) 1 = some ⟨13, 1, 2⟩ := by decide

/-- 2.5: a mark of 1,450 is level 1 and MARK_LONG, one of 40 is none. -/
theorem test_mark_lengths : markOf {} 1450 = some { level := 1, long := true } ∧ markOf {} 40 = none ∧
    markOf {} 410 = some { level := 2, long := false } := by decide

/-- 2.7, merging spans: SPLICE_ON at 52,250, SPLICE_OFF at 52,900. -/
theorem test_merge_spans :
    placeSpan ⟨52250, 52900⟩ [⟨10000, 10600⟩, ⟨52000, 52300⟩, ⟨90100, 90400⟩] =
      some [⟨10000, 10600⟩, ⟨52000, 52900⟩, ⟨90100, 90400⟩] := by decide

/-- 3.3, address lookups. -/
theorem test_lookups :
    lookupAddress ⟨12, 41, 1⟩ ⟨12, 40, 1⟩ (holding seven .growing State.reset).index = .found 3 ∧
    lookupAddress ⟨12, 40, 4⟩ ⟨12, 40, 1⟩ (holding seven .growing State.reset).index = .notFound (some 2) ∧
    lookupAddress ⟨12, 39, 9⟩ ⟨12, 40, 1⟩ (holding seven .growing State.reset).index = .notFound none ∧
    lookupAddress ⟨14, 1, 1⟩ ⟨12, 40, 1⟩ (holding seven .growing State.reset).index = .beyond (some 6) ∧
    lookupAddress ⟨14, 1, 1⟩ ⟨12, 40, 1⟩ (holding seven .complete State.reset).index = .notFound (some 6) := by decide

/-- 4.3, placing points: two points, each 250 away, give way to one. -/
theorem test_place_point :
    placePoint ⟨100250, 2006, .master⟩ [⟨100000, 2010, .master⟩, ⟨100500, 2004, .master⟩, ⟨160300, 1946, .search⟩] =
      [⟨100250, 2006, .master⟩, ⟨160300, 1946, .search⟩] := by decide

/-- 4.3: a point at exactly 500 is kept. -/
theorem test_place_point_at_500 :
    placePoint ⟨100500, 2004, .master⟩ [⟨100000, 2010, .master⟩, ⟨160300, 1946, .search⟩] =
      [⟨100000, 2010, .master⟩, ⟨100500, 2004, .master⟩, ⟨160300, 1946, .search⟩] := by decide

/-- 4.4, worked figures: 130,001 and 100,999 between the points, 230,000 above the last. -/
theorem test_focus_targets :
    let s := State.reset.onFocus fun f => { f with map := [⟨100000, 2010, .master⟩, ⟨160000, 1950, .search⟩] }
    focusTarget 130001 s = 1980 ∧ focusTarget 100999 s = 2010 ∧ focusTarget 230000 s = 1950 := by decide

/-- 4.6, the search with extension and a tie: the coarse steps, and the steps of the extension. -/
theorem test_search_steps :
    trialSteps 1950 24 [] = [1854, 1878, 1902, 1926, 1950, 1974, 1998, 2022, 2046] ∧
    trialSteps 2046 24 [1950, 1974, 1998, 2022, 2046] = [2070, 2094, 2118, 2142] := by decide

/-- 4.6: of two trials with metric 8,310 the one nearer the starting target is best. -/
theorem test_search_tie :
    bestTrial 1950 [⟨2089, 8310, true⟩, ⟨2099, 8310, true⟩, ⟨2094, 8150, true⟩] = some ⟨2089, 8310, true⟩ := by decide

/-- 5.5: with capture_speed 15 the throttled speed is 10. -/
theorem test_throttled_speed :
    captureSpeed ((st fun t => { t with profile := { captureSpeed := 15 } }).onCapture fun c =>
      { c with throttle := true }) = 10 := by decide

/-- 6.4, elevator order and aging: A is chosen at 500,000 with UP, B by its age at 900,000. -/
theorem test_elevator :
    chooseIn .up 500000 [entry 3 620000 10 0 .item, entry 5 480000 11 7 .item, entry 6 1200000 12 2 .index] =
      some (entry 3 620000 10 0 .item, .up) ∧
    chooseIn .up 900000 [entry 5 480000 11 8 .item, entry 6 1200000 12 3 .index] =
      some (entry 5 480000 11 8 .item, .up) := by decide

/-- 8.1: STOP_RISE from reset halts the part. -/
theorem test_stop_halts : (after .stopRise State.reset).fault.cause = some .operatorStop ∧
    (after .stopRise State.reset).transport.state = .halted := by decide +kernel

/-- 10.7: CANCEL_JOB of job 0, SEEK_FRAME with flags 03h, INDEX_TO a FRAME and SET_NOTICE_MASK 10h fail the body check. -/
theorem test_body_checks : checkRequest (.cancelJob 0) = none ∧ checkRequest (.seekFrame 3 (frameField 0)) = none ∧
    checkRequest (.indexTo 0 (frameField 600)) = none ∧ checkRequest (.setNoticeMask 0x10) = none ∧
    checkRequest (.getEntries 57 9) = none ∧ checkRequest (.sweep 0 (frameField 300) (frameField 250)) = none := by
  decide

/-- R199: the default record passes the check and gives the default profile. -/
theorem test_default_record : checkProfile defaultRecord = some {} := by decide +kernel

/-- R22: film-present clearing in RESTING is FILM_BREAK at the position count. -/
theorem test_film_out_breaks :
    (after .filmPresentClear (st fun t => { t with state := .resting, position := 5000 })).fault =
      { halted := true, cause := some .filmBreak, position := some 5000, later := false } := by decide +kernel

/-- R4: a reverse count at 0 is absorbed. -/
theorem test_count_held_at_zero : (after (.capstanCount .reverse) (moving 0)).transport.position = 0 ∧
    (after (.capstanCount .forward) (moving 0)).transport.position = 1 := by decide +kernel

/-- R33: the first low edge of a roll opens a candidate of kind FIRST. -/
theorem test_first_edge_opens :
    (after .lowEdge (indexing 1000 id)).tracker.candidate =
      some { cand 1000 none with opening := .first } := by decide +kernel

/-- R186: HOLD makes an IDLE transmitter HELD. -/
theorem test_hold : ((after (.hold .b) State.reset).link .b).transmitter = .held := by decide +kernel

/-- R176, R177: the reply to GET_PROFILE, in its 4 + 44 bytes, is the first to report session_restarted. -/
theorem test_get_profile_reply :
    (((after (.getProfile .a 7) State.reset).link .a).replySlot.map fun b => (b.take 4, b.length)) =
      some ([0x82, 7, 0, 2], 48) := by decide +kernel

/-! ### Witnesses: states and operands that meet the hypotheses of each statement -/

/-- A link at rest after reset. -/
theorem listens (l : LinkId) : Listens l State.reset := by
  cases l <;> exact ⟨rfl, rfl, rfl⟩

theorem witness_ResetValues : lv0.stop = false := by decide

theorem witness_ResetWithStopHalts : ({ lv0 with stop := true } : Levels).stop = true := by decide

theorem witness_StepKeepsJobTable :
    JobsSound (State.reset.withPending [.loadRoll .a 1 { lv0 with filmPresent := true }]) ∧
      ∃ t, step (State.reset.withPending [.loadRoll .a 1 { lv0 with filmPresent := true }]) = .next t :=
  ⟨by unfold JobsSound; decide +kernel, _, rfl⟩

/-- A full map: 32 points, 500 apart. -/
def fullMap : List MapPoint := (List.range 32).map fun k => { position := 500 * k, lens := 0, source := .master }

theorem witness_StepKeepsFocusMap :
    MapSound (((st fun t => { t with state := .resting }).onFocus fun f => { f with map := fullMap }).withPending
        [.setFocusPoint .a 1 15999 9]).focus.map ∧
      ∃ t, step (((st fun t => { t with state := .resting }).onFocus fun f => { f with map := fullMap }).withPending
        [.setFocusPoint .a 1 15999 9]) = .next t :=
  ⟨by unfold MapSound; decide +kernel, _, rfl⟩

theorem witness_StepKeepsPosition :
    PositionSound ((moving 16000000).withPending [.capstanCount .forward]) ∧
      PositionSound ((st fun t => { t with state := .moving, position := 7000, rollEnd := some 7000 }).withPending
        [.capstanCount .forward]) ∧
      ∃ t, step ((moving 16000000).withPending [.capstanCount .forward]) = .next t := by
  refine ⟨⟨by decide, ?_, ?_⟩, ⟨by decide, ?_, ?_⟩, _, rfl⟩
  · intro e h; cases h
  · intro e h; cases h
  · intro e h; cases h; decide
  · intro e h; cases h

theorem witness_StepKeepsHalt :
    HaltSound ((after .stopRise State.reset).withPending [.capstanStall]) ∧
      (after .stopRise State.reset).fault.halted = true ∧
      ∃ t, step ((after .stopRise State.reset).withPending [.capstanStall]) = .next t :=
  ⟨fun _ => by decide +kernel, by decide +kernel, _, rfl⟩

theorem witness_MachineEventsFrame : isMachineEvent .highEdge = true ∧ mayFault .highEdge = false ∧
    mayMovePosition .highEdge = false ∧ isMachineEvent .stopRise = true := by decide

theorem witness_RequestBodyRoundTrip :
    ∀ flags items, Request.fetch 3 (List.replicate 35 (frameField 16383)) = .fetch flags items → items.length ≤ 35 := by
  intro flags items h
  cases h
  decide

/-- A frame body of two bytes and one of 250. -/
def body2 : List Byte := [0x02, 0x01]

theorem witness_FrameReceivedPlaced :
    (State.reset.link .a).receiver = .hunt ∧ 2 ≤ body2.length ∧ (List.replicate 250 (0 : Byte)).length ≤ 250 ∧
    (0 : BitVec 16) ≠ bodyCheck body2 ∧
    2 ≤ ((State.reset.onLink .a fun u => { u with inputBuffer := [body2, body2] }).link .a).inputBuffer.length ∧
    ((State.reset.onLink .a fun u => { u with inputBuffer := [body2], replySlot := some [] }).link .a).replySlot ≠ none ∧
    (State.reset.link .a).inputBuffer = [] ∧ (State.reset.link .a).replySlot = none := by decide +kernel

theorem witness_ControlBytes :
    (State.reset.link .a).receiver = .hunt ∧ (State.reset.link .a).transmitter = .idle ∧
    (((State.reset.onLink .a fun u => { u with transmitter := .sending .reply [] }).link .a).transmitter =
      .sending .reply []) ∧
    ((State.reset.onLink .a fun u => { u with transmitter := .held, hold := true, replySlot := some body2 }).link
      .a).transmitter = .held ∧
    (0x00 : Byte) ≠ 0xA5 ∧ (0x00 : Byte) ≠ 0x5C ∧ (0x00 : Byte) ≠ 0x5D := by decide +kernel

theorem witness_LinkBreaks :
    JobsSound (table [job 1 .a .running, job 2 .b .queued] State.reset) ∧
    ((table [job 1 .a .running, job 2 .b .queued] State.reset).link .a).receiver ≠ .brk ∧
    JobsSound (State.reset.onLink .a fun u => { u with receiver := .brk }) ∧
    ((State.reset.onLink .a fun u => { u with receiver := .brk }).link .a).receiver = .brk := by
  unfold JobsSound
  decide +kernel

/-- LINK A sends a frame of a kind. -/
def sending (k : TxKind) : State := State.reset.onLink .a fun u => { u with transmitter := .sending k body2 }

theorem witness_TransmissionEnds :
    ((sending .reply).link .a).transmitter = .sending .reply body2 ∧ ((sending .reply).link .a).inputBuffer = [] ∧
    (((sending .reply).onLink .a fun u => { u with inputBuffer := [body2] }).link .a).inputBuffer = body2 :: [] ∧
    (((sending .jobDone).onLink .a fun u => { u with jobDone := [1] }).link .a).jobDone = 1 :: [] ∧
    (ring 1 (sending .captured)).capture.ring = rec1 .a :: [] ∧
    ((sending (.notice .dispute)).link .a).transmitter = .sending (.notice .dispute) body2 := by decide +kernel

theorem witness_TransmitOrder :
    ((State.reset.onLink .a fun u => { u with replySlot := some body2 }).link .a).replySlot = some body2 ∧
    (State.reset.link .a).replySlot = none ∧ (State.reset.link .a).jobDone = [] ∧
    findJob 1 ((table [job 1 .a .done] State.reset).onLink .a fun u => { u with jobDone := [1] }) =
      some (job 1 .a .done) ∧
    (ring 1 State.reset).capture.ring = rec1 .a :: [] ∧ (rec1 .a).link = .a ∧ (rec1 .a).drop = false ∧
    (∀ r ∈ (ring 1 State.reset).capture.ring.head?, r.link ≠ .b) ∧
    nextTransmission .b ((ring 1 State.reset).onLink .b fun u => { u with flags := { dispute := true } }) =
      some (.notice .dispute, noticeBody .dispute (ring 1 State.reset)) := by decide +kernel

theorem witness_TransmitOrder_idle :
    (State.reset.link .a).receiver ≠ .brk ∧ (State.reset.link .a).transmitter = .idle ∧ (State.reset.link .a).hold = false ∧
      nextTransmission .a State.reset = none ∧
      nextTransmission .a (State.reset.onLink .a fun u => { u with replySlot := some body2 }) = some (.reply, body2) ∧
      nextTransmission .b ((ring 1 State.reset).onLink .b fun u => { u with flags := { dispute := true } }) =
        some (.notice .dispute, noticeBody .dispute (ring 1 State.reset)) ∧
      ((State.reset.onLink .a fun u => { u with hold := true }).link .a).hold = true ∧
      ((State.reset.onLink .a fun u => { u with hold := true }).link .a).transmitter = .idle ∧
      ((sending .captured).link .a).transmitter = .sending .captured body2 := by decide +kernel

theorem witness_RaiseSetsFlags :
    ((State.reset.onLink .a fun u => { u with receiver := .brk }).link .a).receiver = .brk ∧
    (State.reset.link .a).receiver ≠ .brk ∧ NoticeKind.fault ≠ NoticeKind.dispute := by decide +kernel

theorem witness_ReplySent : (State.reset.link .c).transmitter = .idle ∧ (State.reset.link .c).hold = false ∧
    (State.reset.link .c).receiver ≠ .brk := by decide +kernel

theorem witness_UnknownRequestInvalid :
    Listens .a State.reset ∧ (Instr.unknownRequest .a 1 0x77 (List.replicate 248 0)).wellFormed = true :=
  ⟨listens .a, by decide +kernel⟩

theorem witness_BadOperandInvalid :
    Listens .a State.reset ∧ (∀ flags items, Request.fetch 0 [] = .fetch flags items → items.length ≤ 35) ∧
      checkRequest (.fetch 0 []) = none :=
  ⟨listens .a, by intro flags items h; cases h; decide, by decide +kernel⟩

/-- The three kinds of target field, at the bounds of R194. -/
theorem witness_BadOperandInvalid_targets :
    (∃ f a e : TargetField → Prop,
      (∀ t, f t ↔ t.code = 1 ∧ t.w0.toNat ≤ 16383 ∧ t.w1 = 0 ∧ t.w2 = 0) ∧
      (∀ t, a t ↔ t.code = 2 ∧ t.w0 ≠ 0 ∧ t.w1 ≠ 0 ∧ t.w2 ≠ 0) ∧
      (∀ t, e t ↔ t.code = 3 ∧ t.w0 = 0 ∧ t.w1 = 0 ∧ t.w2 = 0) ∧
      f (frameField 16383) ∧ ¬ f (frameField 16384) ∧ a ⟨2, 1, 1, 65535⟩ ∧ ¬ a ⟨2, 1, 0, 1⟩ ∧ e endField) :=
  ⟨fun t => t.code = 1 ∧ t.w0.toNat ≤ 16383 ∧ t.w1 = 0 ∧ t.w2 = 0,
    fun t => t.code = 2 ∧ t.w0 ≠ 0 ∧ t.w1 ≠ 0 ∧ t.w2 ≠ 0, fun t => t.code = 3 ∧ t.w0 = 0 ∧ t.w1 = 0 ∧ t.w2 = 0,
    fun _ => Iff.rfl, fun _ => Iff.rfl, fun _ => Iff.rfl, by decide +kernel⟩

/-- R193, R194: the ranges at their bounds. -/
theorem test_operand_bounds :
    checkRequest (.getEntries 16384 1) = none ∧ checkRequest (.getEntries 16383 8) ≠ none ∧
      checkRequest (.setFocusPoint 16000001 0) = none ∧ checkRequest (.setFocusPoint 16000000 4095) ≠ none ∧
      checkRequest (.verifySegment 64) = none ∧ checkRequest (.unverifySegment 63) ≠ none ∧
      checkRequest (.fetch 3 (List.replicate 33 (frameField 0))) = none ∧
      checkRequest (.sweep 0 ⟨2, 12, 41, 1⟩ ⟨2, 12, 40, 9⟩) = none ∧
      checkRequest (.sweep 0 ⟨2, 12, 40, 9⟩ ⟨2, 12, 40, 9⟩) ≠ none ∧ checkRequest (.seekFrame 1 endField) = none ∧
      checkRequest (.indexTo 1 endField) = none := by decide +kernel

theorem witness_RecordsRead :
    Listens .a (table [job 255 .a .running] State.reset) ∧ (255 : Byte) ≠ 0 ∧
      findJob (255 : Byte).toNat (table [job 255 .a .running] State.reset) = some (job 255 .a .running) ∧
      findJob (1 : Byte).toNat (table [job 255 .a .running] State.reset) = none :=
  ⟨listens .a, by decide +kernel⟩

theorem witness_IndexRead :
    Listens .a (holding seven .growing State.reset) ∧ (6 : BitVec 16).toNat < seven.length ∧
      seven.length ≤ (7 : BitVec 16).toNat ∧ (16383 : BitVec 16).toNat ≤ 16383 ∧ (8 : Byte).toNat ≤ 8 ∧
      1 ≤ (1 : Byte).toNat ∧ (seven.Pairwise fun x y => x.address.lt y.address = true) ∧
      (seven[3]?.map (·.address)) = some ⟨(12 : BitVec 16).toNat, (41 : BitVec 16).toNat, (1 : BitVec 16).toNat⟩ ∧
      (seven.getLast?.any fun e => e.address.lt ⟨14, 1, 1⟩) = true ∧
      (holding seven .growing State.reset).index.state = .growing ∧
      (ent 5800 7800 ⟨12, 40, 3⟩).address.lt ⟨12, 40, 4⟩ = true ∧
      Address.lt ⟨12, 40, 4⟩ (ent 8200 10200 ⟨12, 41, 1⟩).address = true :=
  ⟨listens .a, by decide +kernel⟩

theorem witness_ProfileSet :
    Listens .a State.reset ∧ Listens .a (holding seven .growing State.reset) ∧
      (holding seven .growing State.reset).index.state ≠ .empty ∧ State.reset.index.state = .empty ∧
      checkProfile { defaultRecord with filmWidth := 24 } = none ∧
      checkProfile { defaultRecord with filmWidth := 35 } = some { filmWidth := 35 } ∧
      ({ filmWidth := 35 } : Profile) ≠ State.reset.transport.profile ∧
      checkProfile defaultRecord = some State.reset.transport.profile :=
  ⟨listens .a, listens .a, by decide +kernel⟩

theorem witness_FocusMapSet :
    Listens .a (moving 0) ∧ (16000000 : BitVec 24).toNat ≤ 16000000 ∧ (4095 : BitVec 16).toNat ≤ 4095 ∧
      (moving 0).transport.state ≠ .empty ∧ Listens .a State.reset ∧ State.reset.transport.state = .empty :=
  ⟨listens .a, by decide, by decide, by decide, listens .a, by decide⟩

/-- Segment 0 with a record, in an index that is COMPLETE with the seven entries. -/
def segment0 (sg : Segment) : State :=
  (holding seven .complete State.reset).onIndex fun ix => { ix with segments := ix.segments.set 0 sg }

theorem witness_SegmentsVerified :
    Listens .a (segment0 {}) ∧ (63 : Byte).toNat < 64 ∧ (segment0 {}).index.segments[(0 : Byte).toNat]? = some {} ∧
      min 256 ((segment0 {}).index.entries.length - 256 * (0 : Byte).toNat) = 7 ∧
      (segment0 {}).index.state = .complete ∧
      min 256 ((segment0 {}).index.entries.length - 256 * (63 : Byte).toNat) = 0 ∧
      (segment0 { verified := true, link := some .b }).index.segments[0]? =
        some { verified := true, link := some .b } ∧ LinkId.b ≠ LinkId.a ∧
      (segment0 { verified := true, link := some .a }).index.segments[0]? =
        some { verified := true, link := some .a } ∧
      ({ lv0 with protectKey := true } : Levels).protectKey = true ∧ lv0.protectKey = false :=
  ⟨listens .a, by decide +kernel⟩

theorem witness_IndexTruncated :
    Listens .a (holding seven .complete State.reset) ∧ (16383 : BitVec 16).toNat ≤ 16383 ∧ lv0.protectKey = false ∧
      (holding seven .complete State.reset).index.entries.length ≤ (7 : BitVec 16).toNat ∧
      (holding seven .complete State.reset).index.entries[(6 : BitVec 16).toNat]? = some (ent 15400 17400 ⟨13, 1, 2⟩) ∧
      (∀ sg ∈ (holding seven .complete State.reset).index.segments, sg.verified = false) ∧
      (∀ j ∈ (holding seven .complete State.reset).jobs.slots, j.isOpen = false) ∧
      State.reset.capture.ring = [] ∧ State.reset.capture.outstanding = none ∧ State.reset.tracker.mode ≠ .indexing ∧
      State.reset.arbiter.queue = [] ∧ State.reset.arbiter.current = none ∧ State.reset.transport.state ≠ .moving :=
  ⟨listens .a, by decide +kernel⟩

/-- An open job with a body. -/
def doing (b : JobBody) : Job := { job 7 .b .running with body := b }

/-- A sweep's record with its bounds. -/
def sweeping (x : Option Nat) (e : Option EndFrame) (next : Option Nat) : SweepRec :=
  { fromT := .frame 0, toT := .frame 6, revisit := true, fromFrame := x, endFrame := e, nextFrame := next, overflow := false,
    captured := 0, revisits := 0, runEnded := none }

/-- An item in a state of resolution and outcome. -/
def item (r : Option Nat) (o : ItemOutcome) : Item :=
  { target := .frame 0, resolved := r, outcome := o, captures := 0, inCapture := false }

theorem witness_IndexTruncated_refused :
    (holding seven .complete State.reset).index.entries.length = 7 ∧
      (segment0 { verified := true, link := some .b }).index.segments[0]? = some { verified := true, link := some .b } ∧
      256 * 0 < (segment0 { verified := true, link := some .b }).index.entries.length ∧ (6 : BitVec 16).toNat < 256 * (0 + 1) ∧
      (∀ sg ∈ (table [doing .load] (holding seven .complete State.reset)).index.segments, sg.verified = false) ∧
      (∀ b ∈ [JobBody.seek (.frame 6) (some 6) none none, .fetch [item none .pending, item (some 6) .captured],
          .sweep (sweeping (some 0) (some .rollEnd) none), .sweep (sweeping (some 0) (some (.frame 6)) (some 6))],
        (table [doing b] (holding seven .complete State.reset)).jobs.slots = [doing b] ∧ (doing b).isOpen = true) ∧
      (6 : BitVec 16).toNat ≤ 6 ∧
      ((holding seven .complete State.reset).onCapture fun c =>
        { c with revisits := [{ job := 7, frames := [2, 6] }] }).capture.revisitOf 7 = some [2, 6] ∧
      (ring 1 (holding seven .complete State.reset)).capture.ring = [rec1 .a] ∧ (0 : BitVec 16).toNat ≤ (rec1 .a).frame ∧
      (holding seven .complete fired).capture.outstanding = some (.capture 250 shot1) ∧
      (0 : BitVec 16).toNat ≤ shot1.trigger.frame ∧
      (holding seven .growing (indexing 20000 id)).tracker.mode = .indexing ∧
      (holding seven .growing (indexing 20000 id)).capture.ring = [] ∧
      (State.reset.onArbiter fun a => { a with queue := [{ entry 1 0 0 0 .rescan with requester := .tracker }] }).arbiter.queue =
        [{ entry 1 0 0 0 .rescan with requester := .tracker }] := by decide +kernel

theorem witness_NoticeMaskSet : Listens .a State.reset ∧ (15 : Byte).toNat < 16 ∧ LinkId.b ≠ LinkId.a :=
  ⟨listens .a, by decide, by decide⟩

/-- Halted for a cause, with levels. -/
def haltedBy (c : Cause) (lv : Levels) : State :=
  ((State.reset.onFault fun _ => { halted := true, cause := some c, position := some 0, later := false }).onTransport
    fun t => { t with state := .halted }).onPins fun p => { p with levels := lv }

theorem witness_FaultCleared :
    Listens .a State.reset ∧ State.reset.fault.halted = false ∧
      Listens .a (haltedBy .operatorStop { lv0 with stop := true }) ∧
      ({ lv0 with stop := true } : Levels).stop = true ∧ (haltedBy .filmBreak lv0).fault.cause = some .filmBreak ∧
      lv0.filmPresent = false ∧ lv0.stop = false ∧ ({ lv0 with filmPresent := true } : Levels).filmPresent = true ∧
      (haltedBy .filmBreak lv0).focus.state ≠ .faulted ∧ (haltedBy .filmBreak lv0).capture.ring = [] ∧
      (haltedBy .filmBreak lv0).capture.outstanding = none ∧
      (haltedBy .capstanStall lv0).fault.cause ≠ some .filmBreak :=
  ⟨listens .a, by decide, listens .a, by decide +kernel⟩

/-- Film broken at 9,000 over the seven entries, cleared with film present. -/
def broken : State :=
  (holding seven .growing (haltedBy .filmBreak lv0)).onFault fun f => { f with position := some 9000 }

theorem witness_FaultCleared_cut :
    broken.fault.halted = true ∧ broken.fault.cause = some .filmBreak ∧ broken.fault.position = some 9000 ∧
      broken.tracker.mode ≠ .indexing ∧ broken.transport.profile.pitchMax = 3600 ∧
      broken.index.entries[0]? = some (ent 1000 3000 ⟨12, 40, 1⟩) ∧ (9000 : Int) - 2 * 3600 ≤ 3000 ∧
      (∀ e ∈ seven, (e.high : Int) < 30000 - 2 * 3600) ∧
      (ring 1 broken).capture.ring ≠ [] ∧
      ((haltedBy .lensFault lv0).onFocus fun f => { f with state := .faulted }).focus.state = .faulted ∧
      lv0.homeSwitch = false ∧
      ((haltedBy .lensFault lv0).onTransport fun t => { t with reference := .exact }).transport.reference ≠ .lost ∧
      (haltedBy .lensFault lv0).transport.reference = .lost := by decide +kernel

/-- LINK A's open job 255 and ended job 1, and LINK B's job 2. -/
def three : State := table [job 255 .a .running, job 1 .a .done, job 2 .b .queued] State.reset

theorem witness_JobCancelled :
    Listens .a three ∧ JobsSound three ∧ (255 : Byte) ≠ 0 ∧ findJob (3 : Byte).toNat three = none ∧
      findJob (2 : Byte).toNat three = some (job 2 .b .queued) ∧ (job 2 .b .queued).link ≠ .a ∧
      findJob (1 : Byte).toNat three = some (job 1 .a .done) ∧ (job 1 .a .done).isOpen = false ∧
      findJob (255 : Byte).toNat three = some (job 255 .a .running) ∧ (job 255 .a .running).isOpen = true ∧
      (job 255 .a .running).body.isRoll = false :=
  ⟨listens .a, by unfold JobsSound; decide +kernel, by decide +kernel⟩

/-- One open job of LINK A and five ended ones in a table with one slot free. -/
def fiveSlots : State :=
  table [job 1 .a .running, job 2 .b .done, job 3 .b .done, job 4 .c .done, job 5 .c .done]
    (st fun t => { t with state := .resting })

theorem witness_JobsAccepted :
    Listens .a fiveSlots ∧ openOf .a fiveSlots < 2 ∧ fiveSlots.jobs.slots.length < 6 ∧
      fiveSlots.index.state = .empty ∧ fiveSlots.transport.state ≠ .empty ∧ fiveSlots.transport.state ≠ .threading ∧
      fiveSlots.transport.state ≠ .rewinding ∧ rollJob fiveSlots = none ∧
      (∀ j ∈ (table [job 1 .a .done] fiveSlots).jobs.slots, j.isOpen = false) ∧ fiveSlots.capture.ring = [] ∧
      fiveSlots.capture.outstanding = none ∧ (1 : Byte).toNat < 2 ∧ (3 : Byte).toNat < 4 ∧
      namedTarget (frameField 16383) ≠ none ∧ 1 ≤ (List.replicate 32 (frameField 0)).length ∧
      (List.replicate 32 (frameField 0)).length ≤ 32 ∧
      (∀ t ∈ List.replicate 32 (frameField 0), namedTarget t ≠ none) ∧
      namedTarget (frameField 5) = some (.frame 5) ∧ targetOf (frameField 5) = some (.frame 5) ∧
      boundsOrdered (.frame 5) (.frame 5) = true ∧ boundsReversed (.frame 5) (.frame 5) fiveSlots = false ∧
      targetOf endField = some .rollEnd :=
  ⟨listens .a, by decide +kernel⟩

theorem witness_JobsAccepted_from_empty :
    State.reset.transport.state = .empty ∧ State.reset.index.state = .empty ∧ openOf .a State.reset < 2 ∧
      State.reset.jobs.slots.length < 6 ∧ ({ lv0 with filmPresent := true } : Levels).filmPresent = true := by decide +kernel

theorem witness_JobNumberGiven :
    JobsSound (fiveSlots.onJobs fun t => { t with slots := [job 255 .b .done], counter := 255 }) ∧
      acceptCheck .a (.seek true (.frame 0)) (fiveSlots.onJobs fun t =>
        { t with slots := [job 255 .b .done], counter := 255 }) = .ok :=
  ⟨by unfold JobsSound; decide +kernel, by decide +kernel⟩

theorem witness_NoSlotRefused :
    2 ≤ openOf .a (table [job 1 .a .running, job 2 .a .queued] State.reset) ∧
      (table (List.replicate 6 (job 1 .b .done)) State.reset).jobs.slots.length = 6 := by decide +kernel

theorem witness_CapstanCounts :
    State.reset.transport.state = .empty ∧ (moving 16000000).transport.state ≠ .empty ∧
      (moving 16000000).transport.position ≤ (moving 16000000).transport.rollEnd.getD 16000000 ∧
      (moving 0).transport.position ≤ (moving 0).transport.rollEnd.getD 16000000 := by decide

theorem witness_FirstFaultRecorded :
    (moving 0).fault.halted = false ∧ (st fun t => { t with stallLimit := true }).transport.stallLimit = true ∧
      (st fun t => { t with persistSupply := true }).transport.persistSupply = true ∧
      (st fun t => { t with persistTakeUp := true }).transport.persistTakeUp = true ∧
      (st fun t => { t with state := .tensioning, tensionLimit := true }).transport.state = .tensioning ∧
      State.reset.pins.supply ≠ .inBand ∧
      (State.reset.onFocus fun f => { f with state := .homing, homeCount := 4500 }).focus.homeCount = 4500 ∧
      (State.reset.onFocus fun f => { f with state := .slewing, recal := true }).focus.recal = true ∧
      (moving 0).transport.state = .moving ∧ (st fun t => { t with state := .resting }).transport.state = .resting := by
  decide

theorem witness_LaterFaultRanked :
    (haltedBy .operatorStop lv0).fault.halted = true ∧ (haltedBy .operatorStop lv0).fault.cause = some .operatorStop ∧
      ([.filmBreak, .capstanStall, .tensionRange, .lensFault, .operatorStop] : List Cause).idxOf .lensFault <
        ([.filmBreak, .capstanStall, .tensionRange, .lensFault, .operatorStop] : List Cause).idxOf .operatorStop ∧
      (haltedBy .filmBreak lv0).fault.cause = some .filmBreak ∧
      ([.filmBreak, .capstanStall, .tensionRange, .lensFault, .operatorStop] : List Cause).idxOf .filmBreak ≤
        ([.filmBreak, .capstanStall, .tensionRange, .lensFault, .operatorStop] : List Cause).idxOf .filmBreak := by
  decide

theorem witness_HaltStopsTransport :
    (moving 0).fault.halted = false ∧ (moving 0).transport.state = .moving ∧ State.reset.transport.state = .empty ∧
      Cause.lensFault ≠ .filmBreak ∧ Cause.lensFault ≠ .tensionRange := by decide

/-- A move to 5,000 in flight, with the film at a position. -/
def toward (m : MoveRecord) (pos : Nat) : State := (moving pos).onTransport fun t => { t with move := some m }

theorem witness_MoveOutcomes :
    (toward (mv 5000) 4998).transport.state = .moving ∧ (toward (mv 5000) 4998).transport.move = some (mv 5000) ∧
      ({ mv 5000 with stopping := true } : MoveRecord).stopping = true ∧ (mv 5000).stopping = false ∧
      (toward (mv 5000) 5002).transport.position ≤ (mv 5000).target + 2 ∧
      (mv 5000).target ≤ (toward (mv 5000) 4998).transport.position + 2 ∧
      (toward (mv 5000) 5003).transport.position > (mv 5000).target + 2 ∧
      (mv 5000).target > (toward (mv 5000) 4997).transport.position + 2 ∧
      ({ mv 5000 with retargeted := true } : MoveRecord).retargeted = true ∧
      ({ mv 5000 with clamped := true } : MoveRecord).clamped = true ∧ (mv 5000).retargeted = false ∧
      (mv 5000).clamped = false ∧ (toward (mv 5000) 4998).arbiter.current = none := by decide

/-- A motion in flight for job 1. -/
def motion (k : QKind) (frame : Option Nat) (stop : Option StopCause) : Current :=
  { requester := .job 1, cls := .normal, kind := k, frame := frame, leg := .main, stop := stop, search := none }

/-- A move to 5,000 for a motion of job 1, whose entry waits. -/
def carried (m : MoveRecord) (c : Current) : State :=
  (table [job 1 .a .running] (toward m 4998)).onArbiter fun a =>
    { a with current := some c, queue := [{ entry 1 0 0 0 c.kind with frame := c.frame }] }

/-- A frame's stationary trigger on its way to the axis. -/
def toAxis : Stationary := { trigger := { arm1 with mode := .stationary }, attempt := 1, phase := .movingToAxis }

/-- A LOAD of LINK A whose leader edge was taken. -/
def arriving : State :=
  table [{ job 1 .a .running with body := .load }] (st fun t =>
    { t with state := .referencing, reference := .exact, roll := some .load, search := some ⟨.arriving, 900⟩ })

theorem witness_MoveOutcomes_completions :
    State.reset.transport.state ≠ .moving ∧ State.reset.transport.state ≠ .referencing ∧
      State.reset.transport.state ≠ .rewinding ∧
      arriving.transport.state = .referencing ∧ arriving.transport.cancelling = false ∧ arriving.transport.move = none ∧
      arriving.transport.roll = some .load ∧ arriving.transport.search.map (·.phase) = some .arriving ∧
      rollJob arriving = some { job 1 .a .running with body := .load } ∧ JobsSound arriving ∧
      (∀ c ∈ [motion .seek none none, motion .item (some 0) none],
        (carried (mv 5000) c).arbiter.current = some c ∧ (carried (mv 5000) c).transport.state = .moving) ∧
      JobsSound (carried (mv 5000) (motion .seek none none)) ∧
      findJob 1 (carried (mv 5000) (motion .seek none none)) = some (job 1 .a .running) ∧
      (job 1 .a .running).body = .seek (.frame 0) none none none ∧
      (∀ w ∈ [none, some StopCause.lossOfRef, some .rollClaim],
        (carried { mv 5000 with stopping := true } (motion .seek none w)).arbiter.current = some (motion .seek none w)) ∧
      (carried (mv 5000) (motion .seek none none)).capture.holding = none ∧
      ((carried (mv 5000) (motion .item (some 0) none)).onCapture fun c => { c with holding := some toAxis }).capture.holding =
        some toAxis ∧
      (carried (mv 5000) (motion .item (some 0) none)).arbiter.entryOf (.job 1) =
        some { entry 1 0 0 0 .item with frame := some 0 } := by
  unfold JobsSound
  decide +kernel

/-- R143: a SEEK whose last leg completes ends its job DONE, REACHED at the position count. -/
theorem test_seek_completes :
    (findJob 1 (after .moveComplete (carried (mv 5000) (motion .seek none none)))).map (fun j => (j.state, j.body)) =
      some (.done, .seek (.frame 0) none (some .reached) (some 4998)) := by decide +kernel

/-- R17: a LOAD at rest past the leader edge ends DONE in READY. -/
theorem test_load_completes :
    (after .moveComplete arriving).transport.state = .ready ∧
      (findJob 1 (after .moveComplete arriving)).map (·.state) = some .done := by decide +kernel

/-- TENSIONING for a roll job, with a side IN_BAND. -/
def tensing (k : RollKind) (f : Pins → Pins) : State :=
  (st fun t => { t with state := .tensioning, roll := some k, tensionLimit := true }).onPins f

theorem witness_TensionReached :
    (tensing .load fun p => { p with takeUp := .inBand }).transport.state = .tensioning ∧
      (tensing .load fun p => { p with takeUp := .inBand }).pins.takeUp = .inBand ∧
      (tensing .load id).transport.roll = some .load ∧
      (tensing .unload fun p => { p with supply := .inBand }).pins.supply = .inBand ∧
      (tensing .unload id).transport.roll = some .unload ∧
      (st fun t => { t with state := .threading, threadLimit := true }).transport.state = .threading ∧
      (st fun t => { t with state := .threading, threadLimit := true }).transport.threadLimit = true := by decide

/-- TENSIONING for a record, the take-up side IN_BAND. -/
def tensingFor (m : MoveRecord) : State :=
  (st fun t => { t with state := .tensioning, reference := .exact, tensionLimit := true, move := some m }).onPins
    fun p => { p with takeUp := .inBand }

theorem witness_TensionReached_records :
    (∀ m ∈ [mv 5000, { mv 0 with purpose := .reference, speed := .rewind }],
        (tensingFor m).transport.state = .tensioning ∧ (tensingFor m).pins.takeUp = .inBand ∧
          (tensingFor m).transport.roll = none ∧ (tensingFor m).transport.move = some m ∧ m.stopping = false) ∧
      (mv 5000).purpose ≠ .reference ∧ (tensingFor (mv 5000)).arbiter.current = none ∧
      (tensingFor (mv 5000)).transport.reference = .exact ∧ (tensingFor (mv 5000)).tracker.parked = none ∧
      (∀ l ∈ [Leg.runUp, .approach],
        ((tensingFor (mv 3)).onArbiter fun a => { a with current := some { motion .seek none none with leg := l } }).arbiter.current =
          some { motion .seek none none with leg := l }) ∧
      (mv 3).target > (tensingFor (mv 3)).transport.position + 2 := by decide +kernel

theorem witness_HoldTimerRests :
    (st fun t => { t with state := .ready, holdTimer := some 120 }).transport.holdTimer ≠ none ∧
      (st fun t => { t with state := .ready, holdTimer := some 120 }).transport.state = .ready ∧
      (st fun t => { t with state := .ready, holdTimer := some 120 }).tracker.mode ≠ .indexing := by decide

theorem witness_LeaderSearched :
    (st fun t => { t with search := some ⟨.reverse, 0⟩, travel := .reverse }).transport.search = some ⟨.reverse, 0⟩ ∧
      (st fun t => { t with search := some ⟨.reverse, 0⟩, travel := .reverse }).transport.travel = .reverse ∧
      (st fun t => { t with search := some ⟨.forward, 200000⟩ }).transport.search = some ⟨.forward, 200000⟩ ∧
      (st fun t => { t with search := some ⟨.forward, 200000⟩ }).transport.travel = .forward ∧
      State.reset.transport.move = none ∧ 200000 ≤ (⟨.forward, 200000⟩ : LeaderSearch).travel := by decide

/-- A REFERENCE record in its search. -/
def refMove : MoveRecord := { mv 0 with purpose := .reference, speed := .rewind }

/-- The motion of that record. -/
def refMotion : Current := { motion .reference none none with requester := .transport, leg := .reference }

theorem witness_LeaderSearched_reference :
    (st fun t => { t with state := .referencing, search := some ⟨.reverse, 0⟩, travel := .reverse,
                          move := some refMove }).transport.move = some refMove ∧
      refMove.stopping = false ∧ refMove.retargeted = false ∧ State.reset.transport.roll ≠ some .load ∧
      (∀ c, (State.reset.onArbiter fun a => { a with current := some refMotion }).arbiter.current = some c →
        c.requester = .transport ∧ c.kind = .reference) :=
  ⟨by decide, by decide, by decide, by decide, fun _ h => by cases h; exact ⟨rfl, rfl⟩⟩

theorem witness_TailSeenLimits :
    (toward (mv 9000) 6000).transport.state = .moving ∧ (toward (mv 9000) 6000).transport.move = some (mv 9000) ∧
      (mv 9000).purpose ≠ .reference ∧ (toward (mv 9000) 6000).transport.reference ≠ .lost ∧
      (toward (mv 9000) 6000).transport.position = 5000 + 1000 ∧ (toward (mv 9000) 6000).transport.rollEnd = none ∧
      (toward (mv 9000) 6000).transport.tailLimit = none ∧ 5000 < (mv 9000).target ∧ (mv 5000).target ≤ 5000 ∧
      ((toward (mv 9000) 6000).onTransport fun t => { t with reference := .lost }).transport.reference = .lost ∧
      (toward (mv 9000) 6000).transport.travel = .forward := by decide

theorem witness_TailSeenLimits_reference :
    (st fun t => { t with state := .referencing, search := some ⟨.forward, 0⟩, move := some refMove }).transport.state =
        .referencing ∧
      (st fun t => { t with move := some refMove }).transport.move = some refMove ∧
      State.reset.transport.reference = .lost ∧ State.reset.transport.travel = .forward := by decide

theorem witness_RewindEmpties :
    (st fun t => { t with state := .rewinding, roll := some .unload }).transport.state = .rewinding ∧
      (st fun t => { t with state := .rewinding, roll := some .unload }).transport.roll = some .unload := by decide

/-- A mark opened at 1,000 over a candidate whose low edge is 1,000. -/
def marking (pos : Nat) : State :=
  indexing pos fun t => { t with openMark := some 1000, candidate := some (cand 1000 none) }

theorem witness_MarksAndSplices :
    (marking 1059).tracker.mode = .indexing ∧ (marking 1059).tracker.openMark = some 1000 ∧
      (marking 1059).tracker.candidate = some (cand 1000 none) ∧
      (cand 1000 none).low ≤ (1000 + (marking 1059).transport.position) / 2 ∧
      max 1000 1059 - min 1000 1059 < ({} : Profile).markMin ∧ ({} : Profile).markMin ≤ max 1000 1060 - min 1000 1060 ∧
      300 = ({} : Profile).mark12 ∧ 600 = ({} : Profile).mark23 ∧ 1200 = ({} : Profile).markMax ∧
      State.reset.tracker.mode = .idle ∧ (indexing 5 id).tracker.openMark = none ∧
      ((moving 0).onTracker fun t => { t with mode := .verifying }).tracker.mode = .verifying ∧
      (moving 0).transport.travel = .forward ∧ (moving 0).transport.state = .moving ∧
      (moving 0).transport.reference ≠ .lost ∧ (moving 0).tracker.openSplice = none ∧
      State.reset.transport.reference = .lost := by decide

theorem witness_MarksAndSplices_none :
    (((moving 0).onTransport fun t => { t with travel := .reverse }).onTracker fun t =>
        { t with mode := .verifying }).tracker.mode = .verifying ∧
      ((moving 0).onTransport fun t => { t with travel := .reverse }).transport.travel = .reverse ∧
      ((marking 1500).onTracker fun t => { t with candidate := none }).tracker.candidate = none ∧
      ((marking 1500).onTracker fun t => { t with candidate := none }).tracker.openMark = some 1000 ∧
      ((marking 1500).onTracker fun t => { t with candidate := some (cand 1251 none) }).tracker.candidate =
        some (cand 1251 none) ∧
      (1000 + (marking 1500).transport.position) / 2 < (cand 1251 none).low ∧
      (st fun t => { t with state := .ready, reference := .exact }).transport.state ≠ .moving ∧
      (st fun t => { t with state := .ready, reference := .exact }).transport.state ≠ .referencing ∧
      (st fun t => { t with state := .ready, reference := .exact }).transport.state ≠ .rewinding := by decide

/-- A splice table with 64 spans. -/
def fullTable : List Span := (List.range 64).map fun k => { start := 100 * k, finish := 100 * k + 10 }

theorem witness_MarksAndSplices_spans :
    ((moving 52900).onTracker fun t => { t with openSplice := some 52250 }).tracker.openSplice = some 52250 ∧
      placeSpan ⟨52250, 52900⟩ [] = some [⟨52250, 52900⟩] ∧ placeSpan ⟨52250, 52900⟩ fullTable = none := by decide +kernel

theorem witness_SpliceTablePlaced :
    (⟨110, 200⟩ : Span).start ≤ (⟨110, 200⟩ : Span).finish ∧ fullTable.length ≤ 64 ∧
      (∀ x ∈ fullTable, x.start ≤ x.finish) ∧ (fullTable.Pairwise fun x y => x.finish < y.start) ∧
      (placeSpan ⟨110, 200⟩ fullTable).isSome = true ∧ placeSpan ⟨111, 199⟩ fullTable = none := by decide +kernel

theorem witness_LowEdgeOpens :
    (indexing 12700 id).tracker.mode = .indexing ∧ (indexing 12700 id).tracker.rescan = none ∧
      (indexing 12700 id).tracker.parked = none ∧ (indexing 12700 id).tracker.candidate = none ∧
      (indexing 12700 id).tracker.lastByPitchMax = false ∧ (indexing 12700 id).tracker.eLast = none ∧
      (indexing 12700 fun t => { t with eLast := some 10000 }).tracker.eLast = some 10000 ∧
      2400 = ((indexing 12700 id).tracker.p16 + 8) / 16 ∧
      300 = max 20 (min 400 ((indexing 12700 id).tracker.p16 / 128)) ∧
      (indexing 12099 id).transport.position + 300 < 10000 + 2400 ∧
      10000 + 2400 ≤ (indexing 12100 id).transport.position + 300 ∧
      (indexing 12700 id).transport.position ≤ 10000 + 2400 + 300 ∧
      10000 + 2400 + 300 < (indexing 12701 id).transport.position := by decide

/-- INDEXING over an open candidate at 10,000, the film at a position. -/
def overOpen (pos : Nat) : State :=
  indexing pos fun t => { t with eLast := some 10000, candidate := some (cand 10000 none) }

/-- A parked low edge. -/
def parked1 (low : Nat) : Parked :=
  { low := low, opening := .inWindow, gapLength := 0, missing := 0, flags := {}, estimateDone := true }

/-- VERIFYING with a low edge parked at 12,400, past the one entry. -/
def handing (pos : Nat) : State :=
  holding [ent 10000 12000 ⟨1, 1, 1⟩] .growing ((moving pos).onTracker fun t =>
    { t with mode := .verifying, parked := some (parked1 12400) })

theorem witness_LowEdgeOpens_over_open :
    (overOpen 12100).tracker.mode = .indexing ∧ (overOpen 12100).tracker.rescan = none ∧ (overOpen 12100).tracker.parked = none ∧
      (overOpen 12100).tracker.candidate = some (cand 10000 none) ∧ (overOpen 12100).tracker.eLast = some 10000 ∧
      10000 + 2400 ≤ (overOpen 12100).transport.position + 300 ∧ (overOpen 12700).transport.position ≤ 10000 + 2400 + 300 ∧
      (overOpen 12100).transport.position ≠ (overOpen 12100).transport.rollEnd.getD 16000000 ∧
      (overOpen 12100).index.entries.length < 16384 ∧
      nextAddress (overOpen 12100).transport.profile.startAddress (overOpen 12100).tracker.counters
        (frameLevel (cand 10000 none).marks) = some ⟨1, 1, 1⟩ ∧
      (indexing 16000000 id).transport.travel = .forward ∧
      (indexing 16000000 id).transport.position = (indexing 16000000 id).transport.rollEnd.getD 16000000 := by decide +kernel

theorem witness_LowEdgeOpens_handover :
    (handing 12100).tracker.mode = .verifying ∧ (handing 12100).tracker.parked = some (parked1 12400) ∧
      (handing 12100).tracker.rescan = none ∧ (handing 12100).transport.travel = .forward ∧
      (handing 12100).transport.position ≠ (handing 12100).transport.rollEnd.getD 16000000 ∧
      (handing 12100).transport.reference = .exact ∧ (handing 12100).index.state ≠ .frozenFull ∧
      (handing 12100).index.state ≠ .frozenAddress ∧ (handing 12700).transport.position ≤ (parked1 12400).low + 300 ∧
      (parked1 12400).low ≤ (handing 12100).transport.position + 300 ∧
      (handing 12100).index.entries.getLast? = some (ent 10000 12000 ⟨1, 1, 1⟩) ∧
      12000 < (handing 12100).transport.position := by decide +kernel

/-- R33, R36: the edge in the window commits the open candidate, closed one count below with OVERLONG. -/
theorem test_edge_commits :
    (after .lowEdge (overOpen 12400)).index.entries.map (fun e => (e.low, e.high, e.flags.overlong)) = [(10000, 12399, true)] ∧
      (after .lowEdge (overOpen 12400)).tracker.candidate = some (cand 12400 none) := by decide +kernel

/-- R29: the handover edge reopens the parked candidate at its own low edge. -/
theorem test_handover :
    (after .lowEdge (handing 12390)).tracker.mode = .indexing ∧
      (after .lowEdge (handing 12390)).tracker.candidate.map (·.low) = some 12400 := by decide +kernel

/-- VERIFYING over one recorded frame at 10,000. -/
def verifyingAt (pos : Nat) (r : Reference) : State :=
  holding [ent 10000 12300 ⟨1, 1, 1⟩] .growing (((moving pos).onTransport fun t => { t with reference := r }).onTracker
    fun t => { t with mode := .verifying })

theorem witness_LowEdgeTrims :
    (verifyingAt 10008 .exact).tracker.mode = .verifying ∧ (verifyingAt 10008 .exact).tracker.parked = none ∧
      (verifyingAt 10008 .exact).index.entries = [ent 10000 12300 ⟨1, 1, 1⟩] ∧
      max (verifyingAt 10008 .exact).transport.position 10000 -
        min (verifyingAt 10008 .exact).transport.position 10000 = 8 ∧
      300 ≤ max 20 (min 400 ((verifyingAt 10008 .exact).tracker.p16 / 128)) ∧
      (verifyingAt 10008 .exact).transport.search = none ∧
      (verifyingAt 10300 .exact).transport.position ≤ (verifyingAt 10300 .exact).transport.rollEnd.getD 16000000 ∧
      10000 ≤ (verifyingAt 10300 .exact).transport.rollEnd.getD 16000000 ∧
      (verifyingAt 9991 .exact).transport.position + 9 = 10000 ∧ (verifyingAt 10040 .exact).transport.profile.slipTol = 40 ∧
      (verifyingAt 10041 .exact).transport.position - 10000 = 41 ∧
      (verifyingAt 10200 .drifted).transport.reference = .drifted ∧
      (verifyingAt 10200 .drifted).transport.position - 10000 = 5 * (verifyingAt 10200 .drifted).transport.profile.slipTol := by
  decide +kernel

/-- With slip_tol 16 a DRIFTED count 81 off lies beyond five times it, 80 off does not. -/
theorem witness_LowEdgeTrims_drifted :
    let s (pos : Nat) : State := (verifyingAt pos .drifted).onTransport fun t => { t with profile := { slipTol := 16 } }
    (s 10081).tracker.mode = .verifying ∧ (s 10081).tracker.parked = none ∧
      (s 10081).index.entries = [ent 10000 12300 ⟨1, 1, 1⟩] ∧ (s 10081).transport.search = none ∧
      (s 10081).transport.reference = .drifted ∧ 5 * (s 10081).transport.profile.slipTol < (s 10081).transport.position - 10000 ∧
      (s 10080).transport.position - 10000 = 5 * (s 10080).transport.profile.slipTol ∧
      (s 10081).transport.position - 10000 ≤ max 20 (min 400 ((s 10081).tracker.p16 / 128)) := by decide +kernel

/-- R49: a DRIFTED count is trimmed and EXACT again; beyond five times slip_tol the reference is LOST. -/
theorem test_drifted_trim :
    (after .lowEdge (verifyingAt 10200 .drifted)).transport.reference = .exact ∧
      (after .lowEdge (verifyingAt 10200 .drifted)).transport.position = 10000 ∧
      (after .lowEdge (verifyingAt 10201 .drifted)).transport.reference = .lost := by decide +kernel

theorem witness_HighEdgeRecorded :
    State.reset.tracker.mode ≠ .indexing ∧ (indexing 5 id).tracker.candidate = none ∧
      (indexing 2199 fun t => { t with candidate := some (cand 1000 none) }).tracker.candidate = some (cand 1000 none) ∧
      (cand 1000 (some 3000)).high ≠ none ∧ (cand 1000 none).high = none ∧ 2199 - 1000 < ({} : Profile).imageMin ∧
      ({} : Profile).imageMin ≤ 2200 - 1000 ∧ ({ cand 1000 none with estimateDone := true } : Candidate).estimateDone = true ∧
      (cand 1000 none).flags.overlong = false := by decide

/-- INDEXING with a candidate and one entry before it, P16 at a value. -/
def stepping (low p16 : Nat) : State :=
  holding [ent 10000 12000 ⟨1, 1, 1⟩] .growing (indexing (low + 2000) fun t =>
    { t with p16 := p16, eLast := some low, candidate := some (cand low none) })

/-- The step of R32 at the ends of an eighth, and at both clamps. -/
theorem witness_HighEdgeRecorded_step :
    (stepping 12400 38400).tracker.mode = .indexing ∧ (stepping 12400 38400).tracker.candidate = some (cand 12400 none) ∧
      (cand 12400 none).estimateDone = false ∧ (cand 12400 none).opening = .inWindow ∧
      (stepping 12400 38400).tracker.openSplice = none ∧ (stepping 12400 38400).tracker.splices = [] ∧
      (stepping 12400 38400).index.entries.getLast? = some (ent 10000 12000 ⟨1, 1, 1⟩) ∧
      (stepping 12400 38400).transport.profile.imageMin ≤ (stepping 12400 38400).transport.position - 12400 ∧
      (16 * (12700 - 10000 : Int) - 38400).natAbs ≤ 38400 / 8 ∧ 38400 / 8 < (16 * (12701 - 10000 : Int) - 38400).natAbs ∧
      (25600 : Int) + ((16 * (11599 - 10000 : Int) - 25600) + 4) / 8 < 16 * (stepping 11599 25600).transport.profile.pitchMin ∧
      16 * ((stepping 13601 57600).transport.profile.pitchMax : Int) < 57600 + ((16 * (13601 - 10000 : Int) - 57600) + 4) / 8 ∧
      (indexing 5 id).index.entries.getLast? = none ∧ ({ cand 5 none with opening := .gap } : Candidate).opening ≠ .inWindow ∧
      (∃ sp ∈ [(⟨12100, 12200⟩ : Span)], 10000 < sp.finish ∧ sp.start < (stepping 12400 38400).transport.position) := by
  decide +kernel

/-- R32: the step up of 12,408 over 10,000, and the clamp at pitch_min. -/
theorem test_high_edge_steps :
    (after .highEdge (stepping 12408 38400)).tracker.p16 = 38416 ∧
      (after .highEdge (stepping 11599 25600)).tracker.p16 = 25600 ∧
      (after .highEdge (stepping 11599 25600)).tracker.candidate.map (·.flags.pitchClamp) = some true ∧
      (after .highEdge (stepping 12701 38400)).tracker.candidate.map (·.flags.pitchOdd) = some true := by decide +kernel

theorem witness_CommitAppends :
    (indexing 3400 fun t => { t with candidate := some (cand 1000 none) }).tracker.candidate = some (cand 1000 none) ∧
      (indexing 3400 id).index.entries.length < 16384 ∧ (indexing 3400 id).tracker.mode = .indexing ∧
      nextAddress (indexing 3400 id).transport.profile.startAddress (indexing 3400 id).tracker.counters
        (frameLevel (cand 1000 none).marks) = some ⟨1, 1, 1⟩ := by decide

theorem witness_AddressCounted :
    (3 : Nat) ≤ 3 ∧ (⟨65534, 65534, 65534⟩ : Address).batch ≤ 65534 ∧
      nextAddress ⟨1, 1, 1⟩ (some ⟨65534, 65534, 65534⟩) 3 = some ⟨65535, 1, 1⟩ := by decide

/-- A counter that does not rise may be at its end. -/
theorem witness_AddressCounted_ends :
    (⟨65535, 65534, 65535⟩ : Address).document ≤ 65534 ∧ (⟨65534, 65535, 65535⟩ : Address).batch ≤ 65534 ∧
      (⟨65535, 65535, 65534⟩ : Address).page ≤ 65534 ∧
      nextAddress ⟨1, 1, 1⟩ (some ⟨65534, 65535, 65535⟩) 3 = some ⟨65535, 1, 1⟩ := by decide

/-- The lens SLEWING at a step toward 100. -/
def slewing (n : Nat) : State :=
  State.reset.onFocus fun f => { f with state := .slewing, lens := some n, slew := [⟨0, 2000, some 100⟩] }

theorem witness_LensSteps :
    (State.reset.onFocus fun f => { f with state := .homing, homeCount := 4499 }).focus.state = .homing ∧
      (State.reset.onFocus fun f => { f with state := .homing, homeCount := 4499 }).focus.homeCount < 4500 ∧
      State.reset.focus.state ≠ .homing ∧ (slewing 99).focus.state = .slewing ∧
      (slewing 99).focus.slew = ⟨0, 2000, some 100⟩ :: [] ∧ (slewing 99).focus.lens = some 99 ∧ 99 < 100 ∧
      (slewing 101).focus.lens = some 101 ∧ 100 < 101 := by decide

theorem witness_LensStalls :
    (slewing 99).focus.state = .slewing ∧ (slewing 99).focus.recal = false ∧ (slewing 99).focus.search = none ∧
      State.reset.focus.state = .unhomed ∧
      (State.reset.onFocus fun f => { f with search := some (srch (.waiting 250)) }).focus.search =
        some (srch (.waiting 250)) ∧
      (srch (.waiting 250)).stage = .waiting 250 ∧ (srch (.waiting 250)).trials = [] := by decide +kernel

/-- Two points, at 100,000 and 160,000. -/
def twoPoints : List MapPoint := [⟨100000, 2010, .master⟩, ⟨160000, 1950, .search⟩]

theorem witness_FocusTargetComputed :
    (ent 99000 101998 ⟨1, 1, 1⟩).low + (ent 99000 101998 ⟨1, 1, 1⟩).high = 2 * 100499 ∧
      (twoPoints.Pairwise fun a b => a.position < b.position) ∧ twoPoints.head? = some ⟨100000, 2010, .master⟩ ∧
      twoPoints.getLast? = some ⟨160000, 1950, .search⟩ ∧
      twoPoints = [] ++ ⟨100000, 2010, .master⟩ :: ⟨160000, 1950, .search⟩ :: [] ∧
      (100000 : Nat) < 100499 ∧ (100499 : Nat) < 160000 ∧ State.reset.focus.map = [] ∧
      (∃ a ∈ twoPoints, a.position = 160000) := by decide +kernel

theorem witness_FocusPointPlaced :
    MapSound fullMap ∧ fullMap.length = 32 ∧
      (∀ q ∈ fullMap, (16000 : Nat) + 500 ≤ q.position ∨ q.position + 500 ≤ 16000) ∧ MapSound twoPoints ∧
      (∃ q ∈ twoPoints, q.position < 160499 + 500 ∧ 160499 < q.position + 500) ∧ twoPoints.length < 32 := by
  unfold MapSound
  decide +kernel

theorem witness_CameraAnswers :
    State.reset.capture.outstanding = none ∧ fired.capture.outstanding = some (.capture 250 shot1) ∧
      fired.capture.holding = none ∧
      ((State.reset.onCapture fun c => { c with outstanding := some (.trial 250) }).onFocus fun f =>
        { f with search := some (srch .fired) }).focus.search = some (srch .fired) ∧
      (srch .fired).stage = .fired := by decide +kernel

/-- A frame held at the axis that waits for the camera. -/
def waiting : State :=
  (holding [ent 1000 3000 ⟨1, 1, 1⟩] .growing State.reset).onCapture fun c =>
    { c with holding := some { trigger := { arm1 with mode := .stationary }, attempt := 1, phase := .waitCamera 250 } }

theorem witness_CameraReady :
    State.reset.capture.outstanding = none ∧ fired.capture.outstanding ≠ none ∧
      waiting.capture.holding =
        some { trigger := { arm1 with mode := .stationary }, attempt := 1, phase := .waitCamera 250 } ∧
      waiting.index.entries[arm1.frame]? = some (ent 1000 3000 ⟨1, 1, 1⟩) ∧ openJob arm1.job waiting = none := by
  decide +kernel

/-- The FETCH job 1 with its frame held for the camera, and items beside it. -/
def waitingFetch (is : List Item) : State :=
  (table [{ job 1 .a .running with body := .fetch is }] waiting).onCapture fun c =>
    { c with holding := c.holding.map fun h => { h with trigger := { h.trigger with item := some 1 } } }

/-- Its first item is in capture. -/
def inHand : Item := { item (some 0) .pending with inCapture := true }

theorem witness_CameraReady_fetch :
    ∀ is ∈ [[inHand], [inHand, item (some 0) .pending], [inHand, item none .pending], [inHand, item (some 0) .captured]],
      JobsSound (waitingFetch is) ∧ (waitingFetch is).arbiter.current = none ∧
        findJob 1 (waitingFetch is) = some { job 1 .a .running with body := .fetch is } ∧
        ({ job 1 .a .running with body := .fetch is } : Job).isOpen = true ∧ is[1 - 1]? = some inHand ∧
        (waitingFetch is).capture.holding.map (fun h => (h.phase, h.trigger.item)) = some (.waitCamera 250, some 1) ∧
        (waitingFetch is).index.entries[arm1.frame]? = some (ent 1000 3000 ⟨1, 1, 1⟩) := by
  unfold JobsSound
  decide +kernel

/-- R109, R145, R146: the item is MISSED; with none PENDING the job ends, else it holds an entry. -/
theorem test_camera_wait_expires :
    (findJob 1 (after .cameraWaitExpiry (waitingFetch [inHand]))).map (·.state) = some .failed ∧
      (findJob 1 (after .cameraWaitExpiry (waitingFetch [inHand, item none .pending]))).map (·.state) = some .resolving ∧
      ((after .cameraWaitExpiry (waitingFetch [inHand, item none .pending])).arbiter.entryOf (.job 1)).isSome = true := by
  decide +kernel

/-- A run's trigger armed, with `n` records in the ring and the lens at a step. -/
def running (n : Nat) (lens : Option Nat) (hs : Handshake) : State :=
  ((ring n (moving 8000)).onCapture fun c => { c with armed := [arm1], handshake := hs }).onFocus fun f =>
    { f with state := .idle, lens := lens, slew := [⟨0, 2000, some 2048⟩] }

theorem witness_RunTriggerTaken :
    (running 0 none .ready).transport.reference = .exact ∧
      needsSearch arm1.frame (arm1.t - (running 0 none .ready).transport.profile.axisOffset)
        (policySearch arm1.job (running 0 none .ready)) (running 0 none .ready) = false ∧
      (running 0 none .notReady).capture.handshake ≠ .ready ∧ (running 31 none .ready).capture.handshake = .ready ∧
      31 ≤ (running 31 none .ready).capture.ring.length ∧ (running 30 none .ready).capture.ring.length < 31 ∧
      atTarget arm1.frame (running 30 (some 2047) .ready) = false ∧
      atTarget arm1.frame (running 30 (some 2048) .ready) = true ∧ State.reset.transport.reference ≠ .exact := by
  decide +kernel

/-- A run leg of job 1 in flight, its job with policy SEARCH. -/
def searchRun : State :=
  ((table [{ job 1 .a .running with search := true, body := .sweep (sweeping (some 0) (some (.frame 0)) (some 0)) }]
    (holding [ent 1000 3000 ⟨1, 1, 1⟩] .growing (running 0 (some 2048) .ready))).onArbiter fun a =>
      { a with current := some (motion .run none none) }).onTransport fun t =>
        { t with move := some { mv 11600 with purpose := .run, speed := .capture } }

theorem witness_RunTriggerTaken_search :
    needsSearch arm1.frame (arm1.t - searchRun.transport.profile.axisOffset) (policySearch arm1.job searchRun) searchRun =
        true ∧
      searchRun.transport.reference = .exact ∧ searchRun.arbiter.current = some (motion .run none none) ∧
      (motion .run none none).kind = .run ∧ (motion .run none none).stop = none ∧
      searchRun.transport.move = some { mv 11600 with purpose := .run, speed := .capture } ∧
      searchRun.transport.state = .moving ∧
      (searchRun.onTransport fun t => { t with reference := .drifted }).transport.reference ≠ .exact := by decide +kernel

/-- R102: the run stops for the search, its triggers disarmed, nothing fired or missed. -/
theorem test_search_stops_run :
    (takeTrigger arm1 searchRun).arbiter.current.map (·.stop) = some (some (.searchFrame 0)) ∧
      (takeTrigger arm1 searchRun).capture.armed = [] ∧ (takeTrigger arm1 searchRun).capture.lastMiss = none ∧
      (takeTrigger arm1 searchRun).capture.outstanding = none := by decide +kernel

theorem witness_ThrottleTested :
    24 ≤ (fileRecord (rec1 .a) (ring 23 State.reset)).capture.ring.length ∧
      (removeHead (ring 16 State.reset)).capture.ring.length ≤ 15 ∧
      15 < (fileRecord (rec1 .a) (ring 15 State.reset)).capture.ring.length ∧
      (fileRecord (rec1 .a) (ring 22 State.reset)).capture.ring.length < 24 := by decide +kernel

theorem witness_SelectionOrder :
    chooseIn .up 900 [entry 5 480 11 8 .item, entry 6 1200 12 3 .index] = some (entry 5 480 11 8 .item, .up) ∧
      chooseIn .up 900 [entry 5 480 11 7 .item, entry 6 900 12 3 .index] = some (entry 6 900 12 3 .index, .up) ∧
      chooseIn .up 900 [entry 5 480 11 7 .item, entry 6 899 12 3 .index] = some (entry 6 899 12 3 .index, .down) := by
  decide +kernel

theorem witness_SelectionOrder_some : [entry 5 480 11 7 .item] ≠ [] := by decide

/-! ### Witnesses of the further clauses -/

theorem witness_IndexRead_outside :
    (∀ ist ∈ [IndexState.growing, .complete, .frozenFull, .frozenAddress],
      Listens .a (holding seven ist State.reset) ∧ (holding seven ist State.reset).index.state = ist) ∧
      seven.head? = some (ent 1000 3000 ⟨12, 40, 1⟩) ∧
      Address.lt ⟨12, 39, 9⟩ (ent 1000 3000 ⟨12, 40, 1⟩).address = true ∧
      seven.getLast? = some (ent 15400 17400 ⟨13, 1, 2⟩) ∧ seven.length = 6 + 1 ∧
      (ent 15400 17400 ⟨13, 1, 2⟩).address.lt ⟨14, 1, 1⟩ = true ∧
      (holding [] .growing State.reset).index.entries = [] ∧
      Address.lt ⟨1, 1, 1⟩ State.reset.transport.profile.startAddress = false ∧
      Address.lt ⟨1, 1, 1⟩ ({ startAddress := ⟨1, 1, 2⟩ } : Profile).startAddress = true ∧
      State.reset.index.segments[63]? = some ({} : Segment) := by
  unfold Listens
  decide +kernel

/-- 3.3, R196: below the first entry the reply to FIND_ADDRESS names no frame. -/
theorem test_find_address_below :
    (((after (.findAddress .a 5 12 39 9) (holding seven .growing State.reset)).link .a).replySlot.map (·.drop 4)) =
      some [0x00, 0x07, 0x01, 0x01, 0xFF, 0xFF] := by decide +kernel

/-- A job of LINK A with a body. -/
def withBody (js : JobState) (b : JobBody) : Job := { job 1 .a js with body := b }

/-- A roll job in a state of the transport. -/
def rolling (js : JobState) (b : JobBody) (ts : TransportState) : State :=
  (table [withBody js b] (st fun t => { t with state := ts, reference := .exact, position := 700 })).onArbiter fun a =>
    { a with rollClaim := true }

theorem witness_JobCancelled_roll :
    ∀ x ∈ [(JobState.running, JobBody.load, TransportState.threading), (.running, .load, .tensioning),
        (.running, .load, .referencing), (.running, .unload, .rewinding), (.queued, .unload, .resting)],
      Listens .a (rolling x.1 x.2.1 x.2.2) ∧ JobsSound (rolling x.1 x.2.1 x.2.2) ∧
        findJob (1 : Byte).toNat (rolling x.1 x.2.1 x.2.2) = some (withBody x.1 x.2.1) ∧
        (withBody x.1 x.2.1).link = .a ∧ (withBody x.1 x.2.1).isOpen = true ∧
        (withBody x.1 x.2.1).body.isRoll = true ∧ (withBody x.1 x.2.1).state = x.1 ∧
        (rolling x.1 x.2.1 x.2.2).transport.state = x.2.2 ∧ (rolling x.1 x.2.1 x.2.2).arbiter.current = none := by
  unfold Listens JobsSound
  decide +kernel

/-- R19: a LOAD cancelled in THREADING leaves EMPTY, one in TENSIONING leaves RESTING. -/
theorem test_cancel_load :
    (after (.cancelJob .a 1 1) (rolling .running .load .threading)).transport.state = .empty ∧
      (after (.cancelJob .a 1 1) (rolling .running .load .tensioning)).transport.state = .resting ∧
      (after (.cancelJob .a 1 1) (rolling .running .load .tensioning)).arbiter.rollClaim = false := by decide +kernel

/-- The table of `fiveSlots`, HALTED. -/
def fiveHalted : State :=
  (fiveSlots.onFault fun _ => { halted := true, cause := some .operatorStop, position := some 0, later := false }).onTransport
    fun t => { t with state := .halted }

theorem witness_JobsAccepted_halted :
    Listens .a fiveHalted ∧ openOf .a fiveHalted < 2 ∧ fiveHalted.jobs.slots.length < 6 ∧ fiveHalted.fault.halted = true ∧
      fiveHalted.capture.holding = none ∧ fiveHalted.transport.state ≠ .empty ∧ fiveSlots.fault.halted = false :=
  ⟨listens .a, by decide +kernel⟩

theorem witness_JobsAccepted_sweep :
    let reversed s := boundsReversed (.frame 6) (.address ⟨12, 40, 1⟩) (holding seven .growing s)
    reversed fiveHalted = true ∧ reversed fiveSlots = true ∧ boundsOrdered (.frame 6) (.address ⟨12, 40, 1⟩) = true ∧
      boundsReversed (.frame 0) (.frame 6) (holding seven .growing fiveSlots) = false ∧
      Listens .a (holding seven .growing fiveHalted) :=
  ⟨by decide +kernel, by decide +kernel, by decide, by decide +kernel, listens .a⟩

/-- R137, R138: bounds that resolve with from above to are refused, but accepted while HALTED. -/
theorem test_sweep_bounds :
    let sweep s := after (.sweep .a 1 0 (frameField 6) ⟨2, 12, 40, 1⟩) (holding seven .growing s)
    ((findJob 6 (sweep fiveHalted)).map (·.state)) = some .queued ∧ findJob 6 (sweep fiveSlots) = none := by decide +kernel

/-- R148, R149: a SWEEP of indexed frames takes next_frame from its from bound and holds a RUN entry; one beyond the index resolves. -/
theorem test_sweep_starts :
    let started s := beginJob 6 (.sweep true false (.frame 0) (.frame 6)) (insertJob .a (.sweep true false (.frame 0) (.frame 6)) s)
    let seen s := ((findJob 6 (started s)).map (·.state), (sweepOf 6 (started s)).bind (·.nextFrame),
      ((started s).arbiter.entryOf (.job 6)).map (·.kind))
    seen (holding seven .growing fiveSlots) = (some .queued, some 0, some .run) ∧
      seen fiveSlots = (some .resolving, none, some .index) := by decide +kernel

/-- A REFERENCE record, or none, in a phase of its search. -/
def searching (ph : SearchPhase) (m : Option MoveRecord) : State :=
  (st fun t => { t with state := .referencing, search := some ⟨ph, 500⟩, move := m }).onArbiter fun a =>
    { a with current := m.map fun _ => refMotion }

theorem witness_MoveOutcomes_searches :
    (∀ m ∈ [none, some refMove],
      (searching .turning m).transport.state = .referencing ∧ (searching .turning m).transport.cancelling = false ∧
        (searching .turning m).transport.search = some ⟨.turning, 500⟩ ∧ (searching .turning m).transport.move = m) ∧
      (∀ m, some refMove = some m → m.stopping = false ∧ m.retargeted = false) ∧
      (searching .arriving (some refMove)).transport.search = some ⟨.arriving, 500⟩ ∧
      (searching .arriving (some refMove)).transport.roll = none ∧
      (searching .arriving (some refMove)).transport.move = some refMove ∧
      (searching .arriving (some refMove)).arbiter.current = some refMotion ∧ refMotion.requester = .transport ∧
      refMotion.kind = .reference ∧ refMotion.leg = .reference ∧
      (∀ ts ∈ [TransportState.referencing, .rewinding],
        (st fun t => { t with state := ts, cancelling := true }).transport.state = ts ∧
          (st fun t => { t with state := ts, cancelling := true }).transport.cancelling = true) ∧
      (st fun t => { t with state := .rewinding }).transport.cancelling = false :=
  ⟨by decide +kernel, fun _ h => by cases h; exact ⟨rfl, rfl⟩, by decide +kernel⟩

/-- R18, R21: at rest after the turn the search goes on forward; past the edge a REFERENCE record is complete. -/
theorem test_search_rests :
    (after .moveComplete (searching .turning (some refMove))).transport.search = some ⟨.forward, 0⟩ ∧
      (after .moveComplete (searching .arriving (some refMove))).transport.state = .ready ∧
      (after .moveComplete (searching .arriving (some refMove))).arbiter.current = none := by decide +kernel

/-- The last leg of a FETCH item's motion, its move retargeted to the end of the film. -/
def itemAtEnd : State :=
  ((carried { mv 5000 with retargeted := true } (motion .item (some 0) none)).onJobs fun t =>
      { t with slots := [withBody .running (.fetch [{ item (some 0) .pending with inCapture := true }])] }).onCapture fun c =>
    { c with holding := some { toAxis with trigger := { toAxis.trigger with item := some 1 } } }

theorem witness_MoveOutcomes_item_at_end :
    itemAtEnd.transport.state = .moving ∧ itemAtEnd.transport.move = some { mv 5000 with retargeted := true } ∧
      itemAtEnd.transport.position ≤ 5000 + 2 ∧ 5000 ≤ itemAtEnd.transport.position + 2 ∧
      itemAtEnd.arbiter.current = some (motion .item (some 0) none) ∧
      itemAtEnd.capture.holding = some { toAxis with trigger := { toAxis.trigger with item := some 1 } } ∧
      toAxis.trigger.job = 1 ∧ itemAtEnd.arbiter.entryOf (.job 1) = some { entry 1 0 0 0 .item with frame := some 0 } ∧
      JobsSound itemAtEnd ∧
      findJob 1 itemAtEnd = some (withBody .running (.fetch [{ item (some 0) .pending with inCapture := true }])) ∧
      (item (some 0) .pending).outcome = .pending ∧ (item (some 0) .pending).resolved ≠ none := by
  unfold JobsSound
  decide +kernel

/-- R108: the item given up at ROLL_END stays PENDING. -/
theorem test_item_at_end :
    (findJob 1 (completeMove .rollEnd itemAtEnd)).map (·.state) = some .running ∧
      (completeMove .rollEnd itemAtEnd).capture.holding = none ∧
      ((completeMove .rollEnd itemAtEnd).arbiter.entryOf (.job 1)).map (·.kind) = some .item := by decide +kernel

/-- The last leg of an INDEX motion for a job. -/
def indexLeg (j : Job) : State :=
  (carried (mv 5000) (motion .index none none)).onJobs fun t => { t with slots := [j] }

theorem witness_MoveOutcomes_index :
    ∀ j ∈ [job 1 .a .resolving, withBody .running (.indexTo .rollEnd none none none)],
      (indexLeg j).arbiter.current = some (motion .index none none) ∧ JobsSound (indexLeg j) ∧
        (indexLeg j).arbiter.entryOf (.job 1) = some (entry 1 0 0 0 .index) ∧ findJob 1 (indexLeg j) = some j ∧
        (j.state = .resolving ∧ j.body.code ≠ 6 ∨ j.state = .running ∧ j.body.code = 6) ∧
        (indexLeg j).transport.position + 2 < 16000000 := by
  unfold JobsSound
  decide +kernel

theorem witness_TailSeenLimits_ends :
    (moving 0).transport.position = 0 ∧ (moving 0).transport.rollEnd ≠ some 0 ∧ (moving 0).transport.tailLimit ≠ some 0 ∧
      (moving 0).transport.reference ≠ .lost ∧ (moving 0).transport.state ≠ .empty ∧
      ((moving 6000).onTransport fun t => { t with rollEnd := some 5000 }).transport.rollEnd = some 5000 ∧
      5000 ≤ (moving 6000).transport.position - 1000 ∧
      ((moving 5001).onTransport fun t => { t with tailLimit := some 5000 }).transport.tailLimit = some 5000 ∧
      (moving 5001).transport.position = 5000 + 1 ∧ State.reset.transport.state = .empty := by decide

/-- R14: the count that comes to lie at tail_limit sets roll_end. -/
theorem test_tail_reached :
    (after (.capstanCount .reverse)
      ((moving 5001).onTransport fun t => { t with tailLimit := some 5000 })).transport.rollEnd = some 5000 := by
  decide +kernel

/-- A rescan of the window predicted at 12,400. -/
def rescan1 : Rescan :=
  { origin := 10000, predicted := 12400, window := 600, reverseTarget := 9700, forwardTarget := 13000 }

/-- INDEXING in that rescan. -/
def rescanning (pos : Nat) : State := indexing pos fun t => { t with eLast := some 10000, rescan := some rescan1 }

theorem witness_LowEdgeOpens_rescan :
    (rescanning 11800).tracker.rescan = some rescan1 ∧ (rescanning 11800).tracker.mode = .indexing ∧
      (rescanning 11800).tracker.parked = none ∧ (rescanning 11800).tracker.eLast = some 10000 ∧
      (rescanning 11800).tracker.candidate = none ∧ (rescanning 11800).tracker.lastByPitchMax = false ∧
      2400 = ((rescanning 11800).tracker.p16 + 8) / 16 ∧ (rescanning 10000).transport.position ≤ rescan1.origin ∧
      rescan1.origin < (rescanning 11800).transport.position ∧
      10000 + 2400 ≤ (rescanning 11800).transport.position + min 800 (2 * 300) ∧
      (rescanning 13000).transport.position ≤ 10000 + 2400 + min 800 (2 * 300) ∧
      (rescanning 13000).transport.position ≠ (rescanning 13000).transport.rollEnd.getD 16000000 := by decide +kernel

/-- R43: an edge in W2 is found, one at the origin is discarded. -/
theorem test_rescan_edges :
    (after .lowEdge (rescanning 13000)).tracker.candidate.map (fun c => (c.low, c.flags.rescanned)) = some (13000, true) ∧
      (after .lowEdge (rescanning 13000)).tracker.rescan = none ∧
      (after .lowEdge (rescanning 10000)).tracker.rescan = some rescan1 := by decide +kernel

/-- VERIFYING over the recorded frame with a rescan undecided and its entry queued. -/
def verifyingRescan (pos : Nat) (r : Reference) : State :=
  ((verifyingAt pos r).onTracker fun t => { t with rescan := some rescan1 }).onArbiter fun a =>
    { a with queue := [{ entry 1 0 0 0 .rescan with requester := .tracker, cls := .internal }] }

theorem witness_LowEdgeTrims_rescan :
    (verifyingRescan 10041 .exact).tracker.mode = .verifying ∧ (verifyingRescan 10041 .exact).tracker.parked = none ∧
      (verifyingRescan 10041 .exact).index.entries = [ent 10000 12300 ⟨1, 1, 1⟩] ∧
      (verifyingRescan 10041 .exact).transport.search = none ∧ (verifyingRescan 10041 .exact).transport.reference = .exact ∧
      (verifyingRescan 10041 .exact).tracker.rescan ≠ none ∧
      (verifyingRescan 10041 .exact).arbiter.entryOf .tracker ≠ none := by decide +kernel

/-- R44: the loss of the reference withdraws the rescan and keeps the budget. -/
theorem test_loss_withdraws_rescan :
    (after .lowEdge (verifyingRescan 10041 .exact)).tracker.rescan = none ∧
      (after .lowEdge (verifyingRescan 10041 .exact)).arbiter.entryOf .tracker = none ∧
      (after .lowEdge (verifyingRescan 10041 .exact)).tracker.budget = 2 := by decide +kernel

/-- One count below a window miss, with a budget and a candidate. -/
def missing (budget : Nat) (c : Option Candidate) : State :=
  holding [ent 7600 9600 ⟨1, 1, 1⟩] .growing (indexing 12700 fun t =>
    { t with eLast := some 10000, budget := budget, candidate := c })

theorem witness_CommitAppends_miss :
    (∀ c ∈ [none, some (cand 10000 none)], ∀ b ∈ [0, 1],
      (missing b c).tracker.mode = .indexing ∧ (missing b c).transport.state = .moving ∧
        (missing b c).transport.travel = .forward ∧ (missing b c).transport.reference = .exact ∧
        (missing b c).index.state = .growing ∧ (missing b c).transport.rollEnd = none ∧
        (missing b c).transport.tailLimit = none ∧ (missing b c).tracker.rescan = none ∧
        (missing b c).tracker.parked = none ∧ (missing b c).tracker.heldIdle = false ∧
        (missing b c).tracker.missAccepted = false ∧ (missing b c).capture.armed = [] ∧
        (missing b c).tracker.eLast = some 10000 ∧ 2400 = ((missing b c).tracker.p16 + 8) / 16 ∧
        300 = max 20 (min 400 ((missing b c).tracker.p16 / 128)) ∧
        (missing b c).transport.position = 10000 + 2400 + 300 ∧ (missing b c).tracker.candidate = c ∧
        (missing b c).tracker.budget = b ∧ (missing b c).arbiter.entryOf .tracker = none ∧
        (missing b c).index.entries.getLast? = some (ent 7600 9600 ⟨1, 1, 1⟩)) ∧
      10000 + 2400 + 300 + 1 ≤ (cand 10000 none).low + ({} : Profile).pitchMax ∧
      ((missing 1 none).onTransport fun t => { t with move := some (mv 15000) }).transport.move = some (mv 15000) ∧
      ((missing 1 none).onArbiter fun a => { a with current := some (motion .index none none) }).arbiter.current =
        some (motion .index none none) := by
  decide +kernel

/-- R41, R42: with budget the miss parks the candidate and queues the RESCAN; without it the miss is accepted. -/
theorem test_window_miss :
    (after (.capstanCount .forward) (missing 1 (some (cand 10000 none)))).tracker.rescan = some rescan1 ∧
      (after (.capstanCount .forward) (missing 1 (some (cand 10000 none)))).tracker.parked.map (·.low) = some 10000 ∧
      (after (.capstanCount .forward) (missing 0 none)).tracker.missAccepted = true := by decide +kernel

/-- A leg of the RESCAN in flight. -/
def rescanLeg (l : Leg) (r : Option Rescan) (i : Option Requester) : State :=
  ((toward (mv 9700) 9700).onTracker fun t => { t with rescan := r }).onArbiter fun a =>
    { a with
      current := some { motion .rescan none none with requester := .tracker, cls := .internal, leg := l },
      interrupted := i,
      queue := [{ entry 1 0 0 0 .rescan with requester := .tracker, cls := .internal }, entry 1 0 1 0 .seek] }

theorem witness_CommitAppends_rescan :
    (∀ l ∈ [Leg.reverse, .forward], ∀ r ∈ [none, some rescan1], ∀ i ∈ [none, some (Requester.job 1)],
      (rescanLeg l r i).arbiter.current =
          some { motion .rescan none none with requester := .tracker, cls := .internal, leg := l } ∧
        (rescanLeg l r i).tracker.rescan = r ∧ (rescanLeg l r i).arbiter.interrupted = i ∧
        (rescanLeg l r i).fault.halted = false ∧ (rescanLeg l r i).transport.reference = .exact ∧
        (rescanLeg l r i).arbiter.entryOf (.job 1) = some (entry 1 0 1 0 .seek) ∧
        eligible (rescanLeg l r i) (entry 1 0 1 0 .seek) = true ∧ (rescanLeg l r i).arbiter.captureHold = false ∧
        (rescanLeg l r i).arbiter.searchHold = false ∧ (rescanLeg l r i).arbiter.rollClaim = false ∧
        (rescanLeg l r i).arbiter.blocked = false ∧ (rescanLeg l r i).capture.holding = none) ∧
      Requester.job 1 ≠ .tracker ∧ Requester.job 1 ≠ .arbiter ∧ (entry 1 0 1 0 .seek).kind ≠ .reference := by
  decide +kernel

/-- R43: the reverse leg done, the film creeps forward; the forward leg done, the miss is accepted. -/
theorem test_rescan_legs :
    (completeMove .reached (rescanLeg .reverse (some rescan1) none)).transport.move.map (·.target) = some 13000 ∧
      (completeMove .reached (rescanLeg .forward (some rescan1) none)).tracker.missAccepted = true ∧
      (completeMove .reached (rescanLeg .forward (some rescan1) (some (.job 1)))).arbiter.current.map (·.kind) = some .seek := by
  decide +kernel

/-- A trigger is outstanding for job 1, and no frame is held. -/
def firedFor (b : JobBody) (t : Armed) (ns : List Nat) : State :=
  (table [withBody .running b] (holding seven .growing State.reset)).onCapture fun c =>
    { c with outstanding := some (.capture 250 { shot1 with trigger := t }), handshake := .waitAnswer,
             revisits := [{ job := 1, frames := ns }] }

theorem witness_CameraAnswers_run :
    (∀ ns ∈ [[], [0, 2], List.range' 1 64],
      JobsSound (firedFor (.sweep (sweeping (some 0) (some .rollEnd) (some 1))) arm1 ns) ∧
        findJob arm1.job (firedFor (.sweep (sweeping (some 0) (some .rollEnd) (some 1))) arm1 ns) =
          some (withBody .running (.sweep (sweeping (some 0) (some .rollEnd) (some 1)))) ∧
        (firedFor (.sweep (sweeping (some 0) (some .rollEnd) (some 1))) arm1 ns).capture.outstanding =
          some (.capture 250 shot1) ∧
        (firedFor (.sweep (sweeping (some 0) (some .rollEnd) (some 1))) arm1 ns).capture.revisitOf arm1.job = some ns) ∧
      arm1.item = none ∧ arm1.kind = .run ∧ (sweeping (some 0) (some .rollEnd) (some 1)).runEnded = none ∧
      arm1.frame ∉ List.range' 1 64 ∧ 64 ≤ (List.range' 1 64).length ∧
      JobsSound (firedFor (.fetch [item (some 0) .pending]) { arm1 with item := some 1 } []) ∧
      findJob arm1.job (firedFor (.fetch [item (some 0) .pending]) { arm1 with item := some 1 } []) =
        some (withBody .running (.fetch [item (some 0) .pending])) ∧
      [item (some 0) .pending][1 - 1]? = some (item (some 0) .pending) := by
  unfold JobsSound
  decide +kernel

/-- R112: a run's FAIL puts the frame on the revisit list in its place; a full list turns it away. -/
theorem test_run_fails :
    let f ns := after (.cameraAnswer .fail) (firedFor (.sweep (sweeping (some 0) (some .rollEnd) (some 1))) arm1 ns)
    (f [2]).capture.revisitOf 1 = some [0, 2] ∧ (f (List.range' 1 64)).capture.revisitOf 1 = some (List.range' 1 64) ∧
      ((sweepOf 1 (f (List.range' 1 64))).map (·.overflow)) = some true := by decide +kernel

/-- The same for a frame held at the axis. -/
def heldFor (b : JobBody) (t : Armed) (attempt : Nat) (ns : List Nat) : State :=
  (firedFor b t ns).onCapture fun c => { c with holding := some { trigger := t, attempt := attempt, phase := .waitAnswer } }

/-- A frame's stationary trigger, for an item, a sweep's frame or a revisit. -/
def stat (k : CaptureKind) (i : Option Nat) : Armed := { arm1 with mode := .stationary, kind := k, item := i }

theorem witness_CameraAnswers_held :
    (∀ n ∈ [1, 2], ∀ x ∈ [(JobBody.fetch [item (some 0) .pending], stat .stationary (some 1), []),
        (.sweep (sweeping (some 0) (some (.frame 0)) (some 0)), stat .stationary none, []),
        (.sweep (sweeping (some 0) (some (.frame 6)) (some 0)), stat .stationary none, []),
        (.sweep (sweeping (some 0) (some (.frame 0)) none), stat .revisit none, [0]),
        (.sweep (sweeping (some 0) (some (.frame 6)) none), stat .revisit none, [0, 3, 5])],
      (heldFor x.1 x.2.1 n x.2.2).capture.outstanding = some (.capture 250 { shot1 with trigger := x.2.1 }) ∧
        (heldFor x.1 x.2.1 n x.2.2).capture.holding = some { trigger := x.2.1, attempt := n, phase := .waitAnswer } ∧
        (heldFor x.1 x.2.1 n x.2.2).arbiter.current = none ∧ JobsSound (heldFor x.1 x.2.1 n x.2.2) ∧
        findJob x.2.1.job (heldFor x.1 x.2.1 n x.2.2) = some (withBody .running x.1) ∧
        (withBody .running x.1).isOpen = true ∧
        (heldFor x.1 x.2.1 n x.2.2).capture.revisitOf x.2.1.job = some x.2.2) ∧
      (stat .stationary none).kind ≠ .revisit ∧ (sweeping (some 0) (some (.frame 0)) (some 0)).nextFrame =
        some (stat .stationary none).frame ∧ (stat .revisit none).kind = .revisit ∧
      (stat .stationary none).frame + 1 < seven.length ∧ (∃ x ∈ [0, 3, 5], x ≠ (stat .revisit none).frame) ∧
      (∀ x ∈ [0], x = (stat .revisit none).frame) := by
  unfold JobsSound
  decide +kernel

/-- R110, R113, R153: a first FAIL arms the second attempt; the last revisit done ends the sweep. -/
theorem test_held_answers :
    (takeAnswer .fail (heldFor (.fetch [item (some 0) .pending]) (stat .stationary (some 1)) 1 [])).capture.holding.map
        (·.attempt) = some 2 ∧
      (findJob 1 (after (.cameraAnswer .done)
        (heldFor (.sweep (sweeping (some 0) (some (.frame 0)) none)) (stat .revisit none) 1 [0]))).map (·.state) = some .done ∧
      ((after (.cameraAnswer .done)
        (heldFor (.sweep (sweeping (some 0) (some (.frame 6)) none)) (stat .revisit none) 1 [0, 3, 5])).arbiter.entryOf
          (.job 1)).bind (·.frame) = some 3 := by decide +kernel

/-- A sweep's run over the seven entries at the trigger of frame 0, with a revisit list, an end frame and a yield_count. -/
def sweepRun (ns : List Nat) (e next : Nat) (yields : Nat) (lens : Option Nat) : State :=
  ((((table [withBody .running (.sweep (sweeping (some 0) (some (.frame e)) (some next)))]
    (holding seven .growing (running 0 lens .ready))).onCapture fun c =>
      { c with revisits := [{ job := 1, frames := ns }] }).onArbiter fun a =>
        { a with current := some (motion .run none none), yieldCount := yields,
                 queue := [entry 1 0 0 0 .run, entry 2 0 1 0 .seek] }).onTransport fun t => { t with move := some (mv 21400) })

theorem witness_RunTriggerTaken_sweep :
    (∀ ns ∈ [[], [0, 2], List.range' 1 64], ∀ e ∈ [0, 6], ∀ l ∈ [some 2047, some 2048],
      (sweepRun ns e 0 63 l).transport.reference = .exact ∧
        needsSearch arm1.frame (arm1.t - (sweepRun ns e 0 63 l).transport.profile.axisOffset)
          (policySearch arm1.job (sweepRun ns e 0 63 l)) (sweepRun ns e 0 63 l) = false ∧
        JobsSound (sweepRun ns e 0 63 l) ∧
        findJob arm1.job (sweepRun ns e 0 63 l) =
          some (withBody .running (.sweep (sweeping (some 0) (some (.frame e)) (some 0)))) ∧
        (sweepRun ns e 0 63 l).capture.revisitOf arm1.job = some ns ∧ 63 ≤ (sweepRun ns e 0 63 l).arbiter.yieldCount ∧
        (sweepRun ns e 0 63 l).arbiter.current = some (motion .run none none) ∧
        (sweepRun ns e 0 63 l).transport.move = some (mv 21400) ∧ (sweepRun ns e 0 63 l).transport.state = .moving ∧
        (∃ q ∈ (sweepRun ns e 0 63 l).arbiter.queue, q.cls = .normal ∧ eligible (sweepRun ns e 0 63 l) q = true ∧
          q.requester ≠ (motion .run none none).requester)) ∧
      arm1.frame + 1 < seven.length ∧ atTarget arm1.frame (sweepRun [] 6 0 63 (some 2048)) = true ∧
      atTarget arm1.frame (sweepRun [] 6 0 63 (some 2047)) = false := by
  unfold JobsSound
  decide +kernel

/-- R124, R150: the trigger fired is passed, and the run yields at the 64th. -/
theorem test_trigger_passed :
    (sweepOf 1 (takeTrigger arm1 (sweepRun [] 6 0 63 (some 2048)))).bind (·.nextFrame) = some 1 ∧
      (takeTrigger arm1 (sweepRun [] 6 0 63 (some 2048))).arbiter.current.bind (·.stop) = some .yielded ∧
      (sweepOf 1 (takeTrigger arm1 (sweepRun [] 0 0 0 (some 2048)))).map (·.nextFrame) = some none := by decide +kernel

/-- A sweep's run whose leg ends, with a stop asked or none. -/
def runEnds (w : Option StopCause) (captured : Nat) (rv : Bool) (ns : List Nat) (next : Option Nat) : State :=
  (((sweepRun ns 6 0 5 none).onArbiter fun a => { a with current := some (motion .run none w) }).onJobs fun t =>
      { t with slots := [withBody .running
        (.sweep { sweeping (some 0) (some (.frame 6)) next with captured := captured, revisit := rv })] }).onCapture fun c =>
    { c with armed := [] }

theorem witness_RunTriggerTaken_ends :
    (∀ w ∈ [none, some StopCause.suspended, some .yielded, some .sequencer],
      ∀ x ∈ [(0, true, [], some 3), (4, true, [2, 5], none), (0, false, [], none), (6, true, [], none), (7, false, [], none)],
        (runEnds w x.1 x.2.1 x.2.2.1 x.2.2.2).arbiter.current = some (motion .run none w) ∧
          JobsSound (runEnds w x.1 x.2.1 x.2.2.1 x.2.2.2) ∧
          findJob 1 (runEnds w x.1 x.2.1 x.2.2.1 x.2.2.2) = some (withBody .running
            (.sweep { sweeping (some 0) (some (.frame 6)) x.2.2.2 with captured := x.1, revisit := x.2.1 })) ∧
          (runEnds w x.1 x.2.1 x.2.2.1 x.2.2.2).arbiter.entryOf (.job 1) = some (entry 1 0 0 0 .run) ∧
          (entry 1 0 0 0 .run).frame = (motion .run none w).frame ∧
          (runEnds w x.1 x.2.1 x.2.2.1 x.2.2.2).capture.holding = none ∧
          (runEnds w x.1 x.2.1 x.2.2.1 x.2.2.2).capture.outstanding = none ∧
          (runEnds w x.1 x.2.1 x.2.2.1 x.2.2.2).capture.revisitOf 1 = some x.2.2.1 ∧
          (runEnds w x.1 x.2.1 x.2.2.1 x.2.2.2).arbiter.arrival < 65535) ∧
      (withBody .running .load).isOpen = true ∧ (withBody .running .load).urgent = false ∧ (0 : Nat) ≤ 6 := by
  unfold JobsSound
  decide +kernel

/-- R125, R151 to R153: a suspended sweep resumes; at the boundary the nearest revisit, or the end by the count of captures. -/
theorem test_run_ends :
    (findJob 1 (completeMove .stopped (runEnds (some .suspended) 0 true [] (some 3)))).map (·.state) = some .suspended ∧
      ((completeMove .reached (runEnds none 4 true [2, 5] none)).arbiter.entryOf (.job 1)).bind (·.frame) = some 2 ∧
      (findJob 1 (completeMove .reached (runEnds none 6 true [] none))).map (·.state) = some .part := by decide +kernel

/-- RESTING with entries queued, EXACT, at 500,000. -/
def resting (q : List QEntry) : State :=
  (st fun t => { t with state := .resting, reference := .exact, position := 500000 }).onArbiter fun a => { a with queue := q }

/-- An entry of a class. -/
def entryOf (c : QClass) (n : Nat) (k : QKind) : QEntry := { entry n 0 n 0 k with cls := c }

theorem witness_SelectionOrder_select :
    (∀ q ∈ [[entryOf .normal 1 .index, entryOf .internal 2 .reference], [entryOf .normal 1 .index, entryOf .urgent 2 .index],
        [entryOf .normal 1 .index, entryOf .background 2 .index], [entryOf .background 2 .index], []],
      (resting q).arbiter.current = none ∧ (resting q).arbiter.captureHold = false ∧ (resting q).arbiter.searchHold = false ∧
        (resting q).arbiter.rollClaim = false ∧ (resting q).arbiter.blocked = false ∧ (resting q).fault.halted = false ∧
        (resting q).transport.state = .resting ∧ (resting q).transport.move = none ∧
        (resting q).transport.reference ≠ .lost ∧ (refreshStarts (resting q)).arbiter.queue = q ∧
        (∀ e ∈ q, eligible (resting q) e = true)) ∧
      chooseIn .up 500000 [entryOf .normal 1 .index] = some (entryOf .normal 1 .index, .down) ∧
      ((resting []).onArbiter fun a => { a with blocked := true }).arbiter.blocked = true ∧
      State.reset.transport.state ≠ .ready ∧ State.reset.transport.state ≠ .resting := by decide +kernel

/-- R121: an INTERNAL entry is chosen before an URGENT one, an URGENT one before a NORMAL one. -/
theorem test_class_order :
    (select (resting [entryOf .urgent 1 .index, entryOf .internal 2 .reference])).arbiter.current.map (·.kind) =
        some .reference ∧
      (select (resting [entryOf .normal 1 .index, entryOf .urgent 2 .index])).arbiter.current.map (·.requester) =
        some (.job 2) := by decide +kernel

/-- A sweep's entry beside another sweep that runs. -/
def twoSweeps : State :=
  table [{ job 1 .a .queued with body := .sweep (sweeping none none none) },
    { job 2 .b .running with body := .sweep (sweeping (some 0) (some .rollEnd) (some 6)) }] (holding seven .growing (resting
      [entry 1 0 0 0 .run, { entry 2 0 1 0 .run with frame := none }, { entry 3 0 2 0 .seek with frame := some 6 },
       entry 4 0 3 0 .readAhead]))

theorem witness_SelectionOrder_eligible :
    eligible twoSweeps (entry 1 0 0 0 .run) = false ∧ eligible twoSweeps (entry 2 0 1 0 .run) = true ∧
      (refreshStarts twoSweeps).arbiter.queue.map (·.start) = [13800, 11800, 22400, 13800] ∧
      twoSweeps.index.entries[6]? = some (ent 15400 17400 ⟨13, 1, 2⟩) ∧
      findJob 2 twoSweeps = some { job 2 .b .running with body := .sweep (sweeping (some 0) (some .rollEnd) (some 6)) } ∧
      JobsSound twoSweeps := by
  unfold JobsSound
  decide +kernel

theorem witness_SelectionOrder_submit :
    (resting []).arbiter.entryOf (.job 1) = none ∧ (resting []).arbiter.arrival < 65535 ∧
      65535 ≤ ((resting []).onArbiter fun a => { a with arrival := 65535 }).arbiter.arrival ∧
      (resting [entry 1 0 7 3 .index]).arbiter.entryOf (.job 1) = some (entry 1 0 7 3 .index) ∧
      (sweepRun [] 6 0 5 none).arbiter.entryOf (.job 3) = none ∧
      (sweepRun [] 6 0 5 none).arbiter.current = some (motion .run none none) ∧
      Requester.job 3 ≠ (motion .run none none).requester ∧ (sweepRun [] 6 0 5 none).transport.state = .moving ∧
      (sweepRun [] 6 0 5 none).transport.move = some (mv 21400) ∧ (sweepRun [] 6 0 5 none).arbiter.runImmune = false ∧
      (sweepRun [] 6 0 5 none).arbiter.yieldCount < 64 ∧
      ((sweepRun [] 6 0 5 none).onArbiter fun a => { a with runImmune := true }).arbiter.runImmune = true := by decide +kernel

/-- R117, R125: past 65535 the arrivals are renumbered; an URGENT entry suspends a run. -/
theorem test_submit :
    (submit (.job 3) .urgent .seek (some 0) (sweepRun [] 6 0 5 none)).arbiter.current.bind (·.stop) = some .suspended ∧
      ((submit (.job 3) .normal .index none ((resting [entry 1 0 7 3 .index, entry 2 0 5 0 .index]).onArbiter fun a =>
        { a with arrival := 65535 })).arbiter.queue.map (·.arrival)) = [1, 0, 2] := by decide +kernel

/-! ### Witnesses: operands of jobs, fates, disputes and the focus search -/

/-- The flags and the three kinds of target, at their bounds. -/
theorem witness_JobsAccepted_operands :
    (3 : Byte).toNat < 4 ∧ (3 : Byte).getLsbD 0 = true ∧ (3 : Byte).getLsbD 1 = true ∧ (2 : Byte).getLsbD 0 = false ∧
      (∀ t ∈ [frameField 0, frameField 16383, ⟨2, 1, 1, 65535⟩], namedTarget t ≠ none) ∧
      targetOf ⟨2, 12, 40, 9⟩ = some (.address ⟨12, 40, 9⟩) ∧ targetOf endField = some .rollEnd ∧
      boundsOrdered (.address ⟨12, 40, 9⟩) .rollEnd = true ∧
      boundsReversed (.address ⟨12, 40, 9⟩) .rollEnd fiveSlots = false ∧
      ({ lv0 with filmPresent := true } : Levels).filmPresent = true ∧ lv0.filmPresent = false := by decide +kernel

/-- R193: a SWEEP keeps its bounds and its revisit setting, a FETCH its urgent flag and policy. -/
theorem test_operands_kept :
    let r := after (.sweep .a 1 3 ⟨2, 12, 40, 9⟩ endField) (table [] fiveSlots)
    ((sweepOf 1 r).map fun w => (w.fromT, w.toT, w.revisit)) = some (.address ⟨12, 40, 9⟩, .rollEnd, true) ∧
      r.capture.revisitOf 1 = some [] ∧ (findJob 1 r).map (fun j => (j.urgent, j.search)) = some (false, true) ∧
      (findJob 1 (after (.fetch .a 1 1 [frameField 5]) (table [] fiveSlots))).map (fun j => (j.urgent, j.search)) =
        some (true, false) := by decide +kernel

theorem witness_FaultCleared_lens :
    let s := (haltedBy .lensFault lv0).onFocus fun f => { f with state := .faulted }
    Listens .a s ∧ s.fault.halted = true ∧ s.focus.state = .faulted ∧ s.fault.cause ≠ some .filmBreak ∧
      s.capture.ring = [] ∧ s.capture.outstanding = none ∧ ({ lv0 with homeSwitch := true } : Levels).homeSwitch = true ∧
      ({ lv0 with homeSwitch := true } : Levels).stop = false ∧ lv0.homeSwitch = false := by
  unfold Listens
  decide +kernel

/-- R167: a FAULTED lens on its home switch does not stop the clearing; off it, it does. -/
theorem test_clear_lens_fault :
    let s := (haltedBy .lensFault lv0).onFocus fun f => { f with state := .faulted }
    (after (.clearFault .a 1 { lv0 with homeSwitch := true }) s).fault.halted = false ∧
      (after (.clearFault .a 1 lv0) s).fault.halted = true := by decide +kernel

/-- A job in flight as a fault is reported. -/
def struck (j : Job) : State := (table [j] (moving 700)).onCapture fun c => { c with revisits := [{ job := 1, frames := [] }] }

theorem witness_HaltStopsTransport_fates :
    (∀ j ∈ [withBody .running .load, withBody .queued .load, { withBody .queued .load with waitClear := true },
        withBody .running .unload, { withBody .queued .unload with waitClear := true },
        withBody .running (.sweep (sweeping (some 0) (some .rollEnd) (some 1))),
        withBody .resolving (.sweep (sweeping none none none)), job 1 .a .running,
        withBody .running (.fetch [item (some 0) .pending, item (some 1) .captured])],
      JobsSound (struck j) ∧ (struck j).capture.holding = none ∧ (struck j).fault.halted = false ∧
        findJob 1 (struck j) = some j ∧ j.isOpen = true) ∧
      (withBody .running .unload).body.isRoll = true ∧ (job 1 .a .running).body.isRoll = false ∧
      (withBody .resolving (.sweep (sweeping none none none))).body.code = 5 := by
  unfold JobsSound
  decide +kernel

/-- R5, R163: a QUEUED LOAD that a fault fails loses the reference; a RUNNING SWEEP is suspended. -/
theorem test_fates :
    (reportFault .operatorStop (struck (withBody .queued .load))).transport.reference = .lost ∧
      (findJob 1 (reportFault .operatorStop (struck (withBody .queued .load)))).map (·.state) = some .failed ∧
      (findJob 1 (reportFault .operatorStop (struck (withBody .running
        (.sweep (sweeping (some 0) (some .rollEnd) (some 1))))))).map (·.state) = some .suspended := by decide +kernel

/-- A sweep's run cut by a halt, on the way to a search frame or not. -/
def cutRun (search : Option Nat) (w : Option StopCause) (arrival : Nat) : State :=
  (sweepRun [] 6 3 5 none).onArbiter fun a =>
    { a with current := some { motion .run none w with search := search }, captureHold := true, runImmune := true, arrival := arrival }

theorem witness_HaltStopsTransport_run :
    ∀ f ∈ [none, some 0, some 3], ∀ w ∈ [none, some StopCause.rescan, some .suspended], ∀ n ∈ [0, 65534],
      (cutRun f w n).fault.halted = false ∧
        (cutRun f w n).arbiter.current = some { motion .run none w with search := f } ∧
        (motion .run none w).requester = .job 1 ∧ (motion .run none w).kind = .run ∧ (motion .run none w).stop = w ∧
        w ≠ some .withdrawn ∧ (cutRun f w n).arbiter.arrival < 65535 := by decide +kernel

/-- R132, R163, R164: halted at its search frame the sweep holds that ITEM with resume set; a late DONE makes it a RUN that, chosen, is
immune. -/
theorem test_late_done_keeps_resume :
    let s := (reportFault .capstanStall (cutRun (some 3) none 7)).onCapture fun c =>
      { c with outstanding := some (.capture 250 { shot1 with trigger := { stat .stationary none with frame := 3 }, orphan := true }) }
    (s.arbiter.entryOf (.job 1)).map (fun e => (e.kind, e.frame, e.arrival, e.resume)) = some (.item, some 3, 7, true) ∧
      ((takeAnswer .done s).arbiter.entryOf (.job 1)).map (fun e => (e.kind, e.frame, e.arrival, e.resume)) =
        some (.run, none, 7, true) ∧
      (sweepOf 1 (takeAnswer .done s)).bind (·.nextFrame) = some 4 := by decide +kernel

/-- R121: a RUN chosen with resume set is immune, and the resume of any entry chosen is cleared. -/
theorem test_chosen_resume :
    let pick k := select (resting [{ entry 1 0 0 0 k with resume := true }])
    (pick .run).arbiter.runImmune = true ∧ (pick .item).arbiter.runImmune = false ∧
      ((pick .run).arbiter.queue ++ (pick .item).arbiter.queue).map (·.resume) = [false, false] := by decide +kernel

/-- VERIFYING over the seven entries with marks gathered, an edge unmatched and a run of entries passed. -/
def pass (pos : Nat) (d : Direction) (gs : List Gather) (f : Tracker → Tracker) : State :=
  (holding seven .growing ((moving pos).onTransport fun t => { t with travel := d })).onTracker fun t =>
    f { t with mode := .verifying, gathering := gs, passStart := 3000 }

/-- The second entry, with a mark gathered. -/
def gather1 (ms : List Mark) : Gather := { frame := 1, marks := ms }

/-- A mark of a level. -/
def mark (n : Nat) : Mark := { level := n, long := false }

theorem witness_MarksAndSplices_gathered :
    (∀ x ∈ [(3400, 3459), (3400, 3460), (3339, 3460), (3400, 8140), (3400, 8300)],
      let s := pass x.2 .forward [gather1 []] fun t => { t with openMark := some x.1 }
      s.tracker.mode = .verifying ∧ s.transport.travel = .forward ∧ s.tracker.openMark = some x.1 ∧
        s.tracker.gathering = [gather1 []]) ∧
      max 3400 3459 - min 3400 3459 < ({} : Profile).markMin ∧ ({} : Profile).markMin ≤ max 3400 3460 - min 3400 3460 ∧
      3400 ≤ (3400 + 3460) / 2 ∧ (3400 + 8140) / 2 < 5800 ∧ 5800 ≤ (3400 + 8300) / 2 ∧ (3339 + 3460) / 2 < 3400 ∧
      seven[1]? = some (ent 3400 5400 ⟨12, 40, 2⟩) ∧ seven[2]? = some (ent 5800 7800 ⟨12, 40, 3⟩) := by decide +kernel

/-- A dispute comes with the match of the next entry, or one count past low + pitch_max; the segment may be verified. -/
def disputing (pos : Nat) (v : Bool) (ms : List Mark) (m : List Nat) : State :=
  (pass pos .forward [gather1 ms] fun t => { t with matched := m }).onIndex fun ix =>
    { ix with segments := ix.segments.set 0 { verified := v, link := if v then some .a else none } }

theorem witness_MarksAndSplices_disputes :
    (∀ v ∈ [true, false], ∀ ms ∈ [[], [mark 1, mark 3]], ∀ m ∈ [[1], [1, 2]],
      (∀ pos ∈ [5792, 5808],
        (disputing pos v ms m).tracker.mode = .verifying ∧ (disputing pos v ms m).tracker.parked = none ∧
          (disputing pos v ms m).transport.travel = .forward ∧ (disputing pos v ms m).transport.reference = .exact ∧
          (disputing pos v ms m).tracker.gathering = [gather1 ms] ∧
          (disputing pos v ms m).index.entries[2]? = some (ent 5800 7800 ⟨12, 40, 3⟩) ∧ max pos 5800 - min pos 5800 ≤ 8 ∧
          (disputing pos v ms m).index.segments[1 / 256]?.map (·.verified) = some v) ∧
      (∀ pos ∈ [6999, 7000], Passing .forward (disputing pos v ms m) ∧
        (disputing pos v ms m).tracker.edgeUnmatched = false ∧
        (disputing pos v ms m).index.entries[1]? = some (ent 3400 5400 ⟨12, 40, 2⟩) ∧ pos ≤ 3400 + ({} : Profile).pitchMax)) ∧
      (∀ i < 7, ∀ x, seven[i]? = some x → i ≠ 2 → 8 < max 5792 x.low - min 5792 x.low) ∧
      frameLevel [mark 1, mark 3] = 3 ∧ frameLevel [] = (ent 3400 5400 ⟨12, 40, 2⟩).markLevel := by
  refine ⟨by unfold Passing; decide +kernel, ?_, by decide, by decide⟩
  intro i hi x hx
  interval_cases i <;> simp [seven, ent] at hx <;> subst hx <;> decide

/-- R52, R69: the marks told by the match raise a dispute in a verified segment; past pitch_max too. -/
theorem test_disputes :
    (after .lowEdge (disputing 5800 true [mark 3] [1])).index.lastDispute = some ⟨1, 0, 3⟩ ∧
      (after .lowEdge (disputing 5800 true [mark 3] [1])).index.disputeCount = 1 ∧
      (after (.capstanCount .forward) (disputing 7000 true [mark 3] [1])).index.disputeCount = 1 ∧
      (after (.capstanCount .forward) (disputing 6999 true [mark 3] [1])).index.disputeCount = 0 := by decide +kernel

theorem witness_LowEdgeTrims_passed :
    (∀ n ∈ [0, 1, 2], ∀ u ∈ [true, false], ∀ m ∈ [[], [1]], ∀ x ∈ [(3700, Direction.forward), (3100, .reverse)],
      let s := pass x.1 x.2 [] fun t =>
        { t with unmatchedRun := n, edgeUnmatched := u, matched := m, passStart := if x.2 = .forward then 3400 else 4000 }
      Passing x.2 s ∧ s.tracker.gathering = [] ∧ s.index.entries[1]? = some (ent 3400 5400 ⟨12, 40, 2⟩) ∧
        300 = max 20 (min 400 (s.tracker.p16 / 128)) ∧
        (x.2 = .forward → x.1 = 3400 + 300 ∧ s.tracker.passStart ≤ 3400) ∧
        (x.2 = .reverse → x.1 + 300 = 3400 ∧ 3400 ≤ s.tracker.passStart) ∧ s.tracker.unmatchedRun = n ∧
        s.tracker.edgeUnmatched = u ∧ s.tracker.matched = m) ∧
      (seven.map (·.low)).Nodup := by
  unfold Passing
  decide +kernel

theorem witness_LowEdgeTrims_unmatched :
    (verifyingAt 10301 .exact).tracker.mode = .verifying ∧ (verifyingAt 10301 .exact).tracker.parked = none ∧
      (∀ x ∈ (verifyingAt 10301 .exact).index.entries,
        300 < max (verifyingAt 10301 .exact).transport.position x.low -
          min (verifyingAt 10301 .exact).transport.position x.low) ∧
      (∀ x ∈ (verifyingAt 9699 .exact).index.entries,
        300 < max (verifyingAt 9699 .exact).transport.position x.low -
          min (verifyingAt 9699 .exact).transport.position x.low) := by decide +kernel

/-- R50: the third entry passed without a match loses the reference where an edge was unmatched. -/
theorem test_third_unmatched :
    let s u := pass 3700 .forward [] fun t => { t with unmatchedRun := 2, edgeUnmatched := u }
    (after (.capstanCount .forward) (s true)).transport.reference = .lost ∧
      (after (.capstanCount .forward) (s false)).transport.reference = .exact ∧
      (after (.capstanCount .forward) (s false)).tracker.unmatchedRun = 0 := by decide +kernel

/-- A search in a stage, with the lens at a step and the handshake given. -/
def focusing (stage : TrialStage) (ts : List Trial) (steps : List Nat) (n : Nat) (hs : Handshake) : State :=
  ((holding seven .growing (st fun t => { t with state := .ready, reference := .exact, tension := .taut })).onFocus fun f =>
    { f with state := .searching, lens := some n,
             search := some { srch stage with trials := ts, steps := steps } }).onCapture fun c => { c with handshake := hs }

theorem witness_LensSteps_searching :
    (∀ n ∈ [1853, 1854, 1855],
      (focusing .stepping [] [1854] n .ready).focus.lens = some n ∧
        (focusing .stepping [] [1854] n .ready).focus.state = .searching ∧
        (focusing .stepping [] [1854] n .ready).focus.search =
          some { srch .stepping with steps := 1854 :: [] }) ∧
      (∀ g ∈ [TrialStage.stepping, .waiting 250, .fired], ∀ hs ∈ [Handshake.ready, .notReady, .waitAnswer],
        (focusing g [] [1854] 1854 hs).fault.halted = false ∧ (focusing g [] [1854] 1854 hs).focus.state = .searching ∧
          (focusing g [] [1854] 1854 hs).focus.search = some { srch g with steps := 1854 :: [] } ∧
          (focusing g [] [1854] 1854 hs).transport.state = .ready ∧
          (focusing g [] [1854] 1854 hs).transport.tension = .taut ∧
          (focusing g [] [1854] 1854 hs).capture.handshake = hs) := by decide +kernel

/-- R86, R89: one step toward the trial step; at it the TRIAL is fired. -/
theorem test_search_step :
    (after (.lensStep false) (focusing .stepping [] [1854] 1852 .ready)).focus.lens = some 1853 ∧
      (after (.lensStep false) (focusing .stepping [] [1854] 1853 .ready)).capture.outstanding = some (.trial 250) ∧
      (after (.lensStep false) (focusing .stepping [] [1854] 1853 .notReady)).focus.search.map (·.stage) =
        some (.waiting 250) := by decide +kernel

theorem witness_LensSteps_homing :
    (∀ h ∈ [true, false], ∀ q ∈ [([⟨0, 2000, some 100⟩], none), ([], some (srch .stepping))],
      let s := (State.reset.onFocus fun f => { f with slew := q.1, search := q.2 }).onPins fun p =>
        { p with levels := { lv0 with homeSwitch := h } }
      s.fault.halted = false ∧ s.focus.state = .unhomed ∧ (s.focus.slew ≠ [] ∨ s.focus.search ≠ none) ∧
        s.pins.levels.homeSwitch = h) ∧
      needsSearch 0 2000 true (State.reset.onFocus fun f => { f with map := [⟨42001, 9, .master⟩] }) = true ∧
      needsSearch 0 2000 true (State.reset.onFocus fun f => { f with map := [⟨42000, 9, .master⟩] }) = false ∧
      needsSearch 0 2000 false State.reset = false := by decide +kernel

/-- A FETCH frame with policy SEARCH held at the axis, the lens in a state. -/
def atAxis (f : LensState) : State :=
  ((table [{ withBody .running (.fetch [item (some 0) .pending]) with search := true }] (holding seven .growing
    (st fun t => { t with state := .ready, reference := .exact, position := 8000, tension := .taut }))).onCapture fun c =>
      { c with holding := some { trigger := stat .stationary (some 1), attempt := 1, phase := .atAxis } }).onFocus fun x =>
        { x with state := f, lens := some 0 }

theorem witness_LensSteps_begins :
    ∀ f ∈ [LensState.idle, .slewing, .unhomed, .homing],
      (atAxis f).capture.holding = some { trigger := stat .stationary (some 1), attempt := 1, phase := .atAxis } ∧
        (atAxis f).transport.state = .ready ∧ (atAxis f).transport.reference = .exact ∧ (atAxis f).focus.search = none ∧
        findJob 1 (atAxis f) = some { withBody .running (.fetch [item (some 0) .pending]) with search := true } ∧
        needsSearch 0 (8000 - (atAxis f).transport.profile.axisOffset) true (atAxis f) = true ∧ (atAxis f).focus.state = f := by
  decide +kernel

/-- R88: the frame's search begins at its target, with the nine coarse steps. -/
theorem test_search_begins :
    (serviceStationary (atAxis .idle)).focus.search.map (fun r => (r.start, r.steps)) =
      some (2048, [1952, 1976, 2000, 2024, 2048, 2072, 2096, 2120, 2144]) ∧
      (serviceStationary (atAxis .idle)).arbiter.searchHold = true := by decide +kernel

/-- A trial at a step with a metric. -/
def trial (n v : Nat) (a : Bool) : Trial := { lens := n, metric := v, answered := a }

theorem witness_LensStalls_search :
    (∀ f ∈ [LensState.homing, .slewing, .searching], ∀ r ∈ [true, false],
      let s := (focusing .stepping [] [1854] 1850 .ready).onFocus fun x => { x with state := f, recal := r }
      (s.focus.state = .homing ∨ s.focus.state = .slewing ∨ s.focus.state = .searching) ∧ s.focus.recal = r ∧
        s.focus.search = some { srch .stepping with steps := [1854] } ∧ s.fault.halted = false ∧
        s.index.entries[0]? = some (ent 1000 3000 ⟨12, 40, 1⟩)) ∧
      (∀ ts ∈ [[], [trial 1926 0 false], [trial 1926 1999 true], [trial 1926 0 false, trial 1950 2000 true]],
        (focusing (.waiting 250) ts [1854] 1854 .notReady).focus.search =
            some { srch (.waiting 250) with trials := ts, steps := [1854] } ∧
          (focusing .stepping ts [] 1854 .ready).focus.state = .searching ∧
          (focusing .stepping ts [] 1854 .ready).focus.search = some { srch .stepping with trials := ts, steps := [] } ∧
          (focusing .stepping ts [] 1854 .ready).fault.halted = false) ∧
      bestTrial 1950 [trial 1926 0 false, trial 1950 2000 true] = some (trial 1950 2000 true) ∧
      ({} : Profile).metricFloor ≤ (trial 1950 2000 true).metric ∧ (trial 1926 1999 true).metric < ({} : Profile).metricFloor := by
  decide +kernel

/-- R77, R91, R92: a stall ends the search WEAK at its starting target; a STRONG end places a point, and the lens is IDLE. -/
theorem test_search_ends :
    (after .lensStall (focusing .stepping [] [1854] 1850 .ready)).focus.result = some ⟨0, 1950⟩ ∧
      ((after .lensStall (focusing .stepping [] [1854] 1850 .ready)).index.entries[0]?.map (·.flags.focusWeak)) = some true ∧
      (serviceLens (focusing .stepping [trial 1926 3000 true, trial 1950 2000 true] [] 1950 .ready)).focus.result =
        some ⟨0, 1926⟩ ∧
      (serviceLens (focusing .stepping [trial 1926 3000 true] [] 1950 .ready)).focus.map = [⟨2000, 1926, .search⟩] := by
  decide +kernel

theorem witness_LensStalls_trial :
    let s := (focusing .fired [] [1854] 1854 .waitAnswer).onCapture fun c => { c with outstanding := some (.trial 250) }
    s.capture.outstanding = some (.trial 250) ∧ s.focus.search = some { srch .fired with steps := [1854] } := by
  decide +kernel

/-- A search at the last step of a phase, with trials made. -/
def lastStep (p : FocusPhase) (x : Bool) (ts : List Trial) (n : Nat) : FocusSearch :=
  { srch .fired with phase := p, extensionDone := x, trials := ts, steps := [n] }

theorem witness_LensStalls_phases :
    (∀ p ∈ [FocusPhase.coarse, .extension, .fine], (lastStep p false [] 1950).steps = 1950 :: []) ∧
      bestTrial 1950 [trial 1926 10 true, trial 1950 90 true, trial 1974 20 true] = some (trial 1950 90 true) ∧
      (∃ x ∈ [trial 1926 10 true, trial 1950 90 true, trial 1974 20 true], x.lens < 1950) ∧
      (∃ x ∈ [trial 1926 10 true, trial 1950 90 true, trial 1974 20 true], 1950 < x.lens) ∧
      bestTrial 1950 [trial 1926 10 true, trial 1950 90 true] = some (trial 1950 90 true) ∧
      (∀ x ∈ [trial 1926 10 true, trial 1950 90 true], x.lens ≤ 1950) ∧
      trialSteps 1950 24 [1926, 1950] = [1854, 1878, 1902, 1974, 1998, 2022, 2046] ∧
      bestTrial 0 [trial 0 90 true, trial 24 10 true] = some (trial 0 90 true) ∧
      bestTrial 4095 [trial 4095 90 true] = some (trial 4095 90 true) ∧ trialSteps 0 24 [0] = [24, 48, 72, 96] := by
  decide +kernel

/-- R90: the best at an end of the coarse trials extends once; else the fine steps follow. -/
theorem test_phases :
    ((lastStep .coarse false [trial 1926 10 true] 1950).record 90 true).phase = .extension ∧
      ((lastStep .coarse true [trial 1926 10 true] 1950).record 90 true).phase = .fine ∧
      ((lastStep .coarse false [trial 1926 10 true, trial 1974 20 true] 1950).record 90 true).steps =
        [1930, 1935, 1940, 1945, 1955, 1960, 1965, 1970] := by decide +kernel

/-! ### Witnesses: a move from TENSIONING, the restart of a clear, and bytes taken in one row -/

/-- TENSIONING for a SEEK's record, DRIFTED, over the seven entries, at a position. -/
def tensingDrifted (target pos : Nat) : State :=
  holding seven .growing ((tensingFor (mv target)).onTransport fun t => { t with reference := .drifted, position := pos })

theorem witness_TensionReached_drifted :
    (∀ x ∈ [(5000, 17400), (17400, 17400), (17400, 17399), (17400, 17401), (17399, 17400)],
      (tensingDrifted x.1 x.2).transport.state = .tensioning ∧ (tensingDrifted x.1 x.2).pins.takeUp = .inBand ∧
        (tensingDrifted x.1 x.2).transport.roll = none ∧ (tensingDrifted x.1 x.2).transport.move = some (mv x.1) ∧
        (mv x.1).stopping = false ∧ (mv x.1).purpose ≠ .reference ∧ (tensingDrifted x.1 x.2).arbiter.current = none ∧
        (tensingDrifted x.1 x.2).tracker.parked = none ∧ (tensingDrifted x.1 x.2).transport.reference ≠ .lost ∧
        (tensingDrifted x.1 x.2).tracker.mode ≠ .indexing ∧
        (x.2 ≤ (tensingDrifted x.1 x.2).index.frontier ∨ x.1 < x.2)) := by decide +kernel

/-- R11: the move of a DRIFTED film starts toward its target. -/
theorem test_drifted_move_starts :
    (after (.tensionChange .supply .inBand) (tensingDrifted 5000 17400)).transport.drive.map (·.dir) = some .reverse ∧
      (after (.tensionChange .supply .inBand) (tensingDrifted 17400 5000)).transport.drive.map (·.dir) = some .forward := by
  decide +kernel

theorem witness_ProfileSet_budget :
    Listens .a State.reset ∧ State.reset.index.state = .empty ∧ State.reset.tracker.budget = 2 ∧
      checkProfile { defaultRecord with rescanLimit := 0 } = some { rescanLimit := 0 } ∧
      ({ rescanLimit := 0 } : Profile) ≠ State.reset.transport.profile :=
  ⟨listens .a, by decide +kernel⟩

/-- 2.1, R41: the budget is held to the new rescan_limit. -/
theorem test_budget_held :
    (after (.setProfile .a 1 { defaultRecord with rescanLimit := 0 }) State.reset).tracker.budget = 0 ∧
      (after (.setProfile .a 1 { defaultRecord with rescanLimit := 3 }) State.reset).tracker.budget = 2 := by decide +kernel

/-- Film broken over a COMPLETE index, with a job that waits for the clear. -/
def brokenComplete : State :=
  (table [{ withBody .queued (.fetch [item none .pending]) with waitClear := true }] broken).onIndex fun ix =>
    { ix with state := .complete }

theorem witness_FaultCleared_restart :
    let v := (holding seven .growing (resting [])).onTransport fun t => { t with reference := .lost }
    v.transport.state = .resting ∧ v.transport.reference = .lost ∧ v.transport.leaderMissing = false ∧
      v.arbiter.entryOf .transport = none ∧ v.arbiter.queue = [] ∧ v.transport.profile.readAhead = true ∧
      v.index.state = .growing ∧
      (v.onArbiter fun a => { a with queue := [entry 1 0 0 0 .seek] }).arbiter.queue ≠ [] ∧
      (v.onArbiter fun a => { a with queue := [entry 1 0 0 0 .seek] }).arbiter.entryOf .arbiter = none := by decide +kernel

/-- R127, R133, R169: the cut makes READ_AHEAD due, so the REFERENCE is asked and chosen before the waiting job's entry. -/
theorem test_cut_asks_reference :
    let t := after (.clearFault .a 1 { lv0 with filmPresent := true }) brokenComplete
    t.index.state = .growing ∧ t.arbiter.current.map (·.kind) = some .reference ∧
      (t.arbiter.queue.map fun e => (e.kind, e.skip)) = [(.readAhead, 0), (.reference, 0), (.index, 0)] := by decide +kernel

/-- A held link with a reply that waits, in CHECK of a frame whose check will fail. -/
def heldMidFrame (reply : Option (List Byte)) : State :=
  State.reset.onLink .a fun u =>
    { u with receiver := .check 2 body2 (some 0), transmitter := .held, hold := true, replySlot := reply }

/-- R186: mid-frame, the row's length byte is RESUME and its kind byte HOLD. The reply starts, and hold is set behind it. -/
theorem test_resume_then_hold :
    let t := after (.frameReceived .a (0x5C :: List.replicate 92 0) 0) (heldMidFrame (some body2))
    (t.link .a).transmitter = .sending .reply (frameOf body2) ∧ (t.link .a).hold = true ∧
      (t.link .a).receiver = .hunt := by decide +kernel

end Sys2Proof.Tests
end

section
/-! SUPPORT. How the film coasts: what each shared operation leaves of the link units and of the motion in flight. `coast`: the link units
but for pending flags, JOB_DONE queue and transmitter, and the transport but for what an operation that drives nothing may change: the
reference, the position and its limits, the throttle's speed, and, of a move in flight, that it is stopped. `coast.links`: the former alone. -/

namespace Sys2Proof.Machine

/-- A link unit without its pending flags, JOB_DONE queue and transmitter. -/
def LinkUnit.kept (u : LinkUnit) : LinkUnit := { u with flags := {}, jobDone := [], transmitter := .idle }

/-- The link units without pending flags, JOB_DONE queues and transmitters. -/
def Links.kept (ls : Links) : Links := { a := ls.a.kept, b := ls.b.kept, c := ls.c.kept }

/-- The transport as a stop of the move in flight, if there is one, leaves it, without reference quality, position and its limits. -/
def Transport.coast (t : Transport) : Transport :=
  { t with reference := .lost, position := 0, absorbed := 0, rollEnd := none, tailLimit := none,
           move := t.move.map fun m => { m with stopping := true },
           drive := if t.move.isSome then none else t.drive.map fun d => { d with capture := 0 },
           stallLimit := t.move.isNone && t.stallLimit }

/-- The link units and the motion, without what a coasting film may change. -/
structure Coast where
  links  : Links
  motion : Transport

/-- What an operation that drives nothing keeps. -/
def State.coast (s : State) : Coast where
  links := s.links.kept
  motion := s.transport.coast

/-! ### Updates of one block -/

@[simp] theorem onTracker_coast (f : Tracker → Tracker) (s : State) : (s.onTracker f).coast = s.coast := rfl
@[simp] theorem onIndex_coast (f : Index → Index) (s : State) : (s.onIndex f).coast = s.coast := rfl
@[simp] theorem onFocus_coast (f : Focus → Focus) (s : State) : (s.onFocus f).coast = s.coast := rfl
@[simp] theorem onCapture_coast (f : Capture → Capture) (s : State) : (s.onCapture f).coast = s.coast := rfl
@[simp] theorem onArbiter_coast (f : Arbiter → Arbiter) (s : State) : (s.onArbiter f).coast = s.coast := rfl
@[simp] theorem onJobs_coast (f : Jobs → Jobs) (s : State) : (s.onJobs f).coast = s.coast := rfl
@[simp] theorem onFault_coast (f : FaultRecord → FaultRecord) (s : State) : (s.onFault f).coast = s.coast := rfl
@[simp] theorem onPins_coast (f : Pins → Pins) (s : State) : (s.onPins f).coast = s.coast := rfl
@[simp] theorem onTransport_links (f : Transport → Transport) (s : State) : (s.onTransport f).coast.links = s.coast.links := rfl

theorem onTransport_coast {f : Transport → Transport} {s : State} (h : (f s.transport).coast = s.transport.coast) :
    (s.onTransport f).coast = s.coast := by simp [State.coast, h]

/-- A change of one link unit within what `kept` leaves out. -/
theorem onLink_coast {l : LinkId} {f : LinkUnit → LinkUnit} {s : State} (h : (f (s.link l)).kept = (s.link l).kept) :
    (s.onLink l f).coast = s.coast := by
  cases l <;> simp_all [State.coast, Links.kept, Links.modify, State.link, Links.get]

@[simp] theorem foldl_coast {α : Type} {f : State → α → State} (h : ∀ s a, (f s a).coast = s.coast)
    (xs : List α) (s : State) : (xs.foldl f s).coast = s.coast := foldl_keeps State.coast h xs s

/-! ### Operations -/

@[simp] theorem LinkUnit.raise_kept (k : NoticeKind) (u : LinkUnit) : (u.raise k).kept = u.kept := by
  unfold LinkUnit.raise; split <;> rfl
@[simp] theorem raise_coast (k : NoticeKind) (s : State) : (raise k s).coast = s.coast := by
  simp [raise, State.coast, Links.kept]
@[simp] theorem enterState_links (st : TransportState) (s : State) : (enterState st s).coast.links = s.coast.links := by
  unfold enterState; split <;> simp
@[simp] theorem putReference_coast (r : Reference) (s : State) : (putReference r s).coast = s.coast := by
  unfold putReference; split
  · rfl
  · exact (raise_coast _ _).trans (onTransport_coast rfl)
@[simp] theorem putRollEnd_coast (e : Option Nat) (s : State) : (putRollEnd e s).coast = s.coast := by
  unfold putRollEnd; split
  · rfl
  · exact (raise_coast _ _).trans (onTransport_coast rfl)
@[simp] theorem putBroken_links (v : Bool) (s : State) : (putBroken v s).coast.links = s.coast.links := by unfold putBroken; split <;> simp
@[simp] theorem putLeaderMissing_links (v : Bool) (s : State) : (putLeaderMissing v s).coast.links = s.coast.links := by
  unfold putLeaderMissing; split <;> simp
@[simp] theorem slacken_links (s : State) : (slacken s).coast.links = s.coast.links := rfl
@[simp] theorem driveOff_links (s : State) : (driveOff s).coast.links = s.coast.links := rfl
@[simp] theorem driveOn_links (dir : Direction) (sp : SpeedClass) (capture : Nat) (s : State) :
    (driveOn dir sp capture s).coast.links = s.coast.links := rfl
@[simp] theorem stopMove_coast (s : State) : (stopMove s).coast = s.coast := by
  unfold stopMove
  split
  · rfl
  · split
    · simp [driveOff, State.onTransport, State.coast, Transport.coast, *]
    · rfl
@[simp] theorem setTravel_links (d : Direction) (s : State) : (setTravel d s).coast.links = s.coast.links := by
  unfold setTravel; split <;> simp
@[simp] theorem modifyEntry_coast (n : Nat) (f : Entry → Entry) (s : State) : (modifyEntry n f s).coast = s.coast := rfl
@[simp] theorem reportFired_coast (n lens : Nat) (s : State) : (reportFired n lens s).coast = s.coast := rfl
@[simp] theorem reportDone_coast (n : Nat) (s : State) : (reportDone n s).coast = s.coast := rfl
@[simp] theorem reportFail_coast (n : Nat) (s : State) : (reportFail n s).coast = s.coast := rfl
@[simp] theorem reportMissed_coast (n : Nat) (s : State) : (reportMissed n s).coast = s.coast := rfl
@[simp] theorem reportWeak_coast (n : Nat) (s : State) : (reportWeak n s).coast = s.coast := rfl
@[simp] theorem reportDispute_coast (n observed : Nat) (s : State) : (reportDispute n observed s).coast = s.coast := by
  unfold reportDispute; (repeat' split) <;> simp
@[simp] theorem slewAppend_coast (frame mid : Nat) (s : State) : (slewAppend frame mid s).coast = s.coast := rfl
@[simp] theorem slewRemove_coast (frame : Nat) (s : State) : (slewRemove frame s).coast = s.coast := rfl
@[simp] theorem slewClear_coast (s : State) : (slewClear s).coast = s.coast := rfl
@[simp] theorem abandonSearch_coast (s : State) : (abandonSearch s).coast = s.coast := by unfold abandonSearch; split <;> simp
@[simp] theorem refreshHandshake_coast (s : State) : (refreshHandshake s).coast = s.coast := rfl
@[simp] theorem armTrigger_coast (a : Armed) (s : State) : (armTrigger a s).coast = s.coast := rfl
@[simp] theorem unarm_coast (frame : Nat) (s : State) : (unarm frame s).coast = s.coast := by simp [unarm]
@[simp] theorem disarm_coast (s : State) : (disarm s).coast = s.coast := by simp [disarm]
/-- The throttle changes the speed at which the film is driven, and nothing else of the motion. -/
@[simp] theorem throttleTest_coast (s : State) : (throttleTest s).coast = s.coast := by
  unfold throttleTest
  extract_lets n on s1 v
  split
  · rfl
  · refine (onTransport_coast ?_).trans (onCapture_coast _ s)
    have speed (o : Option Drive) : ((o.map fun d => if d.speed = .capture then { d with capture := v } else d).map
        fun d => { d with capture := 0 }) = o.map fun d => { d with capture := 0 } := by
      cases o with
      | none => rfl
      | some d => by_cases h : d.speed = .capture <;> simp [h]
    simp [Transport.coast, speed]
@[simp] theorem fileRecord_coast (r : CaptureRecord) (s : State) : (fileRecord r s).coast = s.coast := by simp [fileRecord]
@[simp] theorem removeHead_coast (s : State) : (removeHead s).coast = s.coast := by simp [removeHead]
@[simp] theorem dropHeadsN_coast (n : Nat) (s : State) : (dropHeadsN n s).coast = s.coast := by
  induction n generalizing s with
  | zero => rfl
  | succ n ih =>
    unfold dropHeadsN
    split
    · rfl
    · split <;> simp [ih]

@[simp] theorem dropHeads_coast (s : State) : (dropHeads s).coast = s.coast := dropHeadsN_coast _ s

@[simp] theorem modifyRevisit_coast (job : Nat) (f : List Nat → List Nat) (s : State) :
    (modifyRevisit job f s).coast = s.coast := rfl
@[simp] theorem discardRevisit_coast (job : Nat) (s : State) : (discardRevisit job s).coast = s.coast := rfl
@[simp] theorem setLastMiss_coast (frame : Nat) (why : MissReason) (s : State) : (setLastMiss frame why s).coast = s.coast := rfl
@[simp] theorem trimLastMiss_coast (s : State) : (trimLastMiss s).coast = s.coast := rfl
@[simp] theorem modifyJob_coast (n : Nat) (f : Job → Job) (s : State) : (modifyJob n f s).coast = s.coast := rfl
@[simp] theorem freeSlot_coast (n : Nat) (s : State) : (freeSlot n s).coast = s.coast := rfl
@[simp] theorem modifySweep_coast (n : Nat) (f : SweepRec → SweepRec) (s : State) :
    (modifySweep n f s).coast = s.coast :=
  modifyJob_coast n _ s

@[simp] theorem modifyItems_coast (n : Nat) (f : List Item → List Item) (s : State) :
    (modifyItems n f s).coast = s.coast :=
  modifyJob_coast n _ s

@[simp] theorem modifyItem_coast (n k : Nat) (f : Item → Item) (s : State) : (modifyItem n k f s).coast = s.coast := by
  simp [modifyItem]
@[simp] theorem setJobState_coast (n : Nat) (st : JobState) (s : State) : (setJobState n st s).coast = s.coast := by
  simp [setJobState]
@[simp] theorem clearCurrent_coast (s : State) : (clearCurrent s).coast = s.coast := rfl
@[simp] theorem refreshStarts_coast (s : State) : (refreshStarts s).coast = s.coast := rfl
@[simp] theorem requeueRun_coast (job : Nat) (resume : Bool) (s : State) : (requeueRun job resume s).coast = s.coast := rfl
@[simp] theorem disarmRun_coast (c : Current) (s : State) : (disarmRun c s).coast = s.coast := by unfold disarmRun; split <;> simp
@[simp] theorem askStop_coast (why : StopCause) (s : State) : (askStop why s).coast = s.coast := by
  unfold askStop; (repeat' split) <;> simp
@[simp] theorem dropCurrent_coast (s : State) : (dropCurrent s).coast = s.coast := by unfold dropCurrent; (repeat' split) <;> simp
@[simp] theorem withdraw_coast (r : Requester) (s : State) : (withdraw r s).coast = s.coast := by
  unfold withdraw; dsimp only; (repeat' split) <;> simp
@[simp] theorem suspendTest_coast (s : State) : (suspendTest s).coast = s.coast := by unfold suspendTest; (repeat' split) <;> simp
@[simp] theorem yieldTest_coast (s : State) : (yieldTest s).coast = s.coast := by unfold yieldTest; (repeat' split) <;> simp
@[simp] theorem countRun_coast (s : State) : (countRun s).coast = s.coast := by simp [countRun]
@[simp] theorem submit_coast (r : Requester) (cls : QClass) (k : QKind) (frame : Option Nat) (s : State) :
    (submit r cls k frame s).coast = s.coast := by
  unfold submit; dsimp only; (repeat' split) <;> simp
@[simp] theorem submitJob_coast (n : Nat) (k : QKind) (frame : Option Nat) (s : State) :
    (submitJob n k frame s).coast = s.coast := by
  unfold submitJob; split <;> simp
@[simp] theorem syncReadAhead_coast (s : State) : (syncReadAhead s).coast = s.coast := by unfold syncReadAhead; split <;> simp
@[simp] theorem preemptReadAhead_coast (s : State) : (preemptReadAhead s).coast = s.coast := by
  unfold preemptReadAhead; (repeat' split) <;> simp
@[simp] theorem setCaptureHold_coast (v : Bool) (s : State) : (setCaptureHold v s).coast = s.coast := rfl
@[simp] theorem setSearchHold_coast (v : Bool) (s : State) : (setSearchHold v s).coast = s.coast := rfl
@[simp] theorem setRollClaim_coast (v : Bool) (s : State) : (setRollClaim v s).coast = s.coast := rfl
@[simp] theorem setBlocked_coast (v : Bool) (s : State) : (setBlocked v s).coast = s.coast := rfl
@[simp] theorem clearInternal_coast (s : State) : (clearInternal s).coast = s.coast := by simp [clearInternal]
@[simp] theorem queueJobDone_coast (l : LinkId) (n : Nat) (s : State) : (queueJobDone l n s).coast = s.coast :=
  onLink_coast (by split <;> rfl)
@[simp] theorem endJob_coast (n : Nat) (st : JobState) (why : EndReason) (s : State) : (endJob n st why s).coast = s.coast := by
  unfold endJob; (repeat' split) <;> simp
@[simp] theorem ensureIndex_coast (n : Nat) (s : State) : (ensureIndex n s).coast = s.coast := by
  unfold ensureIndex; split <;> simp
@[simp] theorem fetchChoose_coast (n : Nat) (s : State) : (fetchChoose n s).coast = s.coast := by
  unfold fetchChoose; (repeat' split) <;> simp
@[simp] theorem seekTry_coast (n : Nat) (final : Bool) (s : State) : (seekTry n final s).coast = s.coast := by
  unfold seekTry; (repeat' split) <;> simp
@[simp] theorem indexToTry_coast (n : Nat) (final : Bool) (s : State) : (indexToTry n final s).coast = s.coast := by
  unfold indexToTry; (repeat' split) <;> simp
@[simp] theorem sweepTry_coast (n : Nat) (final : Bool) (s : State) : (sweepTry n final s).coast = s.coast := by
  unfold sweepTry; dsimp only; (repeat' split) <;> simp
@[simp] theorem startJob_coast (n : Nat) (s : State) : (startJob n s).coast = s.coast := by
  unfold startJob; (repeat' split) <;> simp
@[simp] theorem retryJob_coast (final : Bool) (n : Nat) (s : State) : (retryJob final n s).coast = s.coast := by
  unfold retryJob; (repeat' split) <;> simp
@[simp] theorem retryJobs_coast (s : State) : (retryJobs s).coast = s.coast := by simp [retryJobs]
@[simp] theorem advanceSweep_coast (n frame : Nat) (s : State) : (advanceSweep n frame s).coast = s.coast := by simp [advanceSweep]
@[simp] theorem sweepsTakeAppended_coast (k : Nat) (s : State) : (sweepsTakeAppended k s).coast = s.coast := by
  simp [sweepsTakeAppended]
@[simp] theorem endSweep_coast (n : Nat) (s : State) : (endSweep n s).coast = s.coast := by unfold endSweep; split <;> simp
@[simp] theorem revisitNext_coast (n : Nat) (s : State) : (revisitNext n s).coast = s.coast := by
  unfold revisitNext; split <;> simp
@[simp] theorem sweepChoose_coast (n : Nat) (s : State) : (sweepChoose n s).coast = s.coast := by
  unfold sweepChoose; dsimp only; (repeat' split) <;> simp
@[simp] theorem sweepDecide_coast (n : Nat) (s : State) : (sweepDecide n s).coast = s.coast := by
  unfold sweepDecide; split <;> simp
@[simp] theorem jobCaptureEnded_coast (a : Armed) (o : ItemOutcome) (s : State) : (jobCaptureEnded a o s).coast = s.coast := by
  unfold jobCaptureEnded; dsimp only; (repeat' split) <;> simp
@[simp] theorem jobUnfired_coast (a : Armed) (s : State) : (jobUnfired a s).coast = s.coast := by
  unfold jobUnfired; (repeat' split) <;> simp
@[simp] theorem jobDoneFiled_coast (a : Armed) (s : State) : (jobDoneFiled a s).coast = s.coast := by
  unfold jobDoneFiled; split <;> simp
@[simp] theorem offerRevisit_coast (job frame : Nat) (s : State) : (offerRevisit job frame s).coast = s.coast := by
  unfold offerRevisit; (repeat' split) <;> simp
@[simp] theorem endHoming_coast (s : State) : (endHoming s).coast = s.coast := rfl
@[simp] theorem startHoming_coast (s : State) : (startHoming s).coast = s.coast := by unfold startHoming; split <;> simp
@[simp] theorem serveHead_coast (s : State) : (serveHead s).coast = s.coast := by unfold serveHead; split <;> simp
@[simp] theorem finishSearch_coast (sr : FocusSearch) (s : State) : (finishSearch sr s).coast = s.coast := by
  unfold finishSearch; split <;> simp
@[simp] theorem setStage_coast (st : TrialStage) (s : State) : (setStage st s).coast = s.coast := rfl
@[simp] theorem fireTrial_coast (s : State) : (fireTrial s).coast = s.coast := rfl
@[simp] theorem serveTrial_coast (s : State) : (serveTrial s).coast = s.coast := by
  unfold serveTrial; (repeat' split) <;> simp
@[simp] theorem serveLens_coast (s : State) : (serveLens s).coast = s.coast := by unfold serveLens; split <;> simp
@[simp] theorem serviceLens_coast (s : State) : (serviceLens s).coast = s.coast := by
  unfold serviceLens; (repeat' split) <;> simp
@[simp] theorem issueStep_coast (s : State) : (issueStep s).coast = s.coast := by unfold issueStep; (repeat' split) <;> simp
@[simp] theorem beginSearch_coast (frame mid job : Nat) (s : State) : (beginSearch frame mid job s).coast = s.coast := rfl
@[simp] theorem recordTrial_coast (metric : Nat) (answered : Bool) (s : State) :
    (recordTrial metric answered s).coast = s.coast := by
  unfold recordTrial; split <;> simp
@[simp] theorem trialWaitEnds_coast (s : State) : (trialWaitEnds s).coast = s.coast := by
  unfold trialWaitEnds; (repeat' split) <;> simp
@[simp] theorem lensLosesHome_coast (s : State) : (lensLosesHome s).coast = s.coast := by unfold lensLosesHome; split <;> simp
@[simp] theorem lensFails_coast (s : State) : (lensFails s).coast = s.coast := by simp [lensFails]
@[simp] theorem fireCapture_coast (a : Armed) (s : State) : (fireCapture a s).coast = s.coast := by simp [fireCapture]
@[simp] theorem missFrame_coast (a : Armed) (why : MissReason) (s : State) : (missFrame a why s).coast = s.coast := by
  simp [missFrame]
@[simp] theorem setPhase_coast (p : StationaryPhase) (s : State) : (setPhase p s).coast = s.coast := rfl
@[simp] theorem release_coast (s : State) : (release s).coast = s.coast := rfl
@[simp] theorem countSearchFrame_coast (s : State) : (countSearchFrame s).coast = s.coast := by
  unfold countSearchFrame; split <;> simp
@[simp] theorem beginStationary_coast (a : Armed) (s : State) : (beginStationary a s).coast = s.coast := by simp [beginStationary]
@[simp] theorem endStationary_coast (a : Armed) (o : ItemOutcome) (s : State) : (endStationary a o s).coast = s.coast := by
  simp [endStationary]
@[simp] theorem returnUnfired_coast (a : Armed) (s : State) : (returnUnfired a s).coast = s.coast := by simp [returnUnfired]
@[simp] theorem missAtAxis_coast (a : Armed) (why : MissReason) (s : State) : (missAtAxis a why s).coast = s.coast := by
  simp [missAtAxis]
@[simp] theorem fireAtAxis_coast (a : Armed) (s : State) : (fireAtAxis a s).coast = s.coast := by unfold fireAtAxis; split <;> simp
@[simp] theorem awaitCamera_coast (a : Armed) (s : State) : (awaitCamera a s).coast = s.coast := by
  unfold awaitCamera; split <;> simp
@[simp] theorem awaitLens_coast (a : Armed) (s : State) : (awaitLens a s).coast = s.coast := by
  unfold awaitLens; (repeat' split) <;> simp
@[simp] theorem atAxisStep_coast (a : Armed) (s : State) : (atAxisStep a s).coast = s.coast := by
  unfold atAxisStep; dsimp only; (repeat' split) <;> simp
@[simp] theorem serviceStationary_coast (s : State) : (serviceStationary s).coast = s.coast := by
  unfold serviceStationary; dsimp only; (repeat' split) <;> simp
@[simp] theorem stationaryMoved_coast (o : MoveOutcome) (s : State) : (stationaryMoved o s).coast = s.coast := by
  unfold stationaryMoved; (repeat' split) <;> simp
@[simp] theorem retryStationary_coast (a : Armed) (s : State) : (retryStationary a s).coast = s.coast := rfl
@[simp] theorem dropCaptures_coast (job : Nat) (s : State) : (dropCaptures job s).coast = s.coast := by
  unfold dropCaptures; dsimp only; (repeat' split) <;> simp
@[simp] theorem dropSearchStop_coast (a : Armed) (s : State) : (dropSearchStop a s).coast = s.coast := rfl
@[simp] theorem dropRepeat_coast (a : Armed) (s : State) : (dropRepeat a s).coast = s.coast := by
  unfold dropRepeat; dsimp only; (repeat' split) <;> simp
@[simp] theorem captureDecides_coast (shot : CaptureShot) (o : CaptureOutcome) (s : State) :
    (captureDecides shot o s).coast = s.coast := by
  unfold captureDecides; (repeat' split) <;> simp
@[simp] theorem settleCapture_coast (shot : CaptureShot) (o : CaptureOutcome) (why : FailReason) (s : State) :
    (settleCapture shot o why s).coast = s.coast := by
  unfold settleCapture; (repeat' split) <;> simp
@[simp] theorem clearOutstanding_coast (s : State) : (clearOutstanding s).coast = s.coast := rfl
@[simp] theorem takeAnswer_coast (ans : CameraAnswer) (s : State) : (takeAnswer ans s).coast = s.coast := by
  unfold takeAnswer; (repeat' split) <;> simp
@[simp] theorem answerRunsOut_coast (s : State) : (answerRunsOut s).coast = s.coast := by
  unfold answerRunsOut; (repeat' split) <;> simp
@[simp] theorem cameraWaitRunsOut_coast (s : State) : (cameraWaitRunsOut s).coast = s.coast := by
  unfold cameraWaitRunsOut; split <;> simp
@[simp] theorem orphanOutstanding_coast (s : State) : (orphanOutstanding s).coast = s.coast := rfl
@[simp] theorem haltSequencer_coast (s : State) : (haltSequencer s).coast = s.coast := by
  unfold haltSequencer; (repeat' split) <;> simp
@[simp] theorem clearSequencer_coast (s : State) : (clearSequencer s).coast = s.coast := by
  unfold clearSequencer; dsimp only; (repeat' split) <;> simp
@[simp] theorem newPass_coast (s : State) : (newPass s).coast = s.coast := rfl
@[simp] theorem leaveIndexing_coast (s : State) : (leaveIndexing s).coast = s.coast := by unfold leaveIndexing; split <;> simp
@[simp] theorem setMode_coast (m : TrackerMode) (s : State) : (setMode m s).coast = s.coast := by
  unfold setMode; (repeat' split) <;> simp
@[simp] theorem refreshMode_coast (s : State) : (refreshMode s).coast = s.coast := by simp [refreshMode]
@[simp] theorem withdrawRescan_coast (s : State) : (withdrawRescan s).coast = s.coast := by unfold withdrawRescan; split <;> simp
@[simp] theorem askReference_coast (s : State) : (askReference s).coast = s.coast := by
  unfold askReference; dsimp only; (repeat' split) <;> simp
@[simp] theorem stopForLoss_coast (s : State) : (stopForLoss s).coast = s.coast := by unfold stopForLoss; (repeat' split) <;> simp
@[simp] theorem loseReference_coast (s : State) : (loseReference s).coast = s.coast := by
  unfold loseReference; dsimp only; (repeat' split) <;> simp
@[simp] theorem setReference_coast (r : Reference) (s : State) : (setReference r s).coast = s.coast := by
  unfold setReference; (repeat' split) <;> simp
@[simp] theorem askLoss_coast (s : State) : (askLoss s).coast = s.coast := by unfold askLoss; split <;> simp
@[simp] theorem driftReference_coast (s : State) : (driftReference s).coast = s.coast := by
  unfold driftReference; dsimp only; (repeat' split) <;> simp
@[simp] theorem armFrames_coast (job n : Nat) (s : State) : (armFrames job n s).coast = s.coast := by
  induction n generalizing s with
  | zero => rfl
  | succ n ih => unfold armFrames; (repeat' split) <;> simp [ih]

@[simp] theorem armRun_coast (s : State) : (armRun s).coast = s.coast := by unfold armRun; split <;> simp
@[simp] theorem setIndexState_coast (st : IndexState) (s : State) : (setIndexState st s).coast = s.coast := by
  unfold setIndexState; split <;> simp
@[simp] theorem completeTest_coast (s : State) : (completeTest s).coast = s.coast := by
  unfold completeTest; (repeat' split) <;> simp
@[simp] theorem raiseFrontier_coast (p : Nat) (s : State) : (raiseFrontier p s).coast = s.coast := by
  unfold raiseFrontier; dsimp only; (repeat' split) <;> simp
@[simp] theorem appendEntry_coast (e : Entry) (s : State) : (appendEntry e s).coast = s.coast := by
  unfold appendEntry; dsimp only; (repeat' split) <;> simp
@[simp] theorem setRollEnd_coast (e : Nat) (s : State) : (setRollEnd e s).coast = s.coast := by
  unfold setRollEnd
  exact (completeTest_coast _).trans ((onTransport_coast rfl).trans (putRollEnd_coast _ s))
@[simp] theorem realign_coast (s : State) : (realign s).coast = s.coast := rfl
@[simp] theorem removeEntries_coast (n : Nat) (s : State) : (removeEntries n s).coast = s.coast := rfl
@[simp] theorem filmBreakCut_coast (threshold : Int) (s : State) : (filmBreakCut threshold s).coast = s.coast := by
  unfold filmBreakCut; split <;> simp
@[simp] theorem emptyIndex_coast (s : State) : (emptyIndex s).coast = s.coast := by
  unfold emptyIndex; dsimp only; (repeat' split) <;> simp
@[simp] theorem spliceOpens_coast (s : State) : (spliceOpens s).coast = s.coast := by unfold spliceOpens; split <;> simp
@[simp] theorem spliceCloses_coast (s : State) : (spliceCloses s).coast = s.coast := by
  unfold spliceCloses; dsimp only; (repeat' split) <;> simp
@[simp] theorem modifyCandidate_coast (f : Candidate → Candidate) (s : State) : (modifyCandidate f s).coast = s.coast := rfl
@[simp] theorem freezeIndex_coast (st : IndexState) (s : State) : (freezeIndex st s).coast = s.coast := by simp [freezeIndex]
@[simp] theorem commit_coast (high : Nat) (byPitchMax : Bool) (s : State) : (commit high byPitchMax s).2.coast = s.coast := by
  unfold commit; dsimp only; (repeat' split) <;> simp
@[simp] theorem dropAtLimit_coast (s : State) : (dropAtLimit s).coast = s.coast := by
  unfold dropAtLimit; dsimp only; split <;> simp
@[simp] theorem acceptEdge_coast (k : Opening) (s : State) : (acceptEdge k s).coast = s.coast := by
  have h := commit_coast (s.transport.position - 1) false s
  unfold acceptEdge
  dsimp only
  split <;> rename_i heq <;> rw [heq] at h <;> simpa using h

@[simp] theorem classifyEdge_coast (s : State) : (classifyEdge s).coast = s.coast := by
  unfold classifyEdge; dsimp only; (repeat' split) <;> simp
@[simp] theorem pitchStep_coast (s : State) : (pitchStep s).coast = s.coast := by
  unfold pitchStep; dsimp only; (repeat' split) <;> simp
@[simp] theorem takeHighEdge_coast (s : State) : (takeHighEdge s).coast = s.coast := by
  unfold takeHighEdge; dsimp only; (repeat' split) <;> simp
@[simp] theorem dropParked_coast (s : State) : (dropParked s).coast = s.coast := rfl
@[simp] theorem parkedTest_coast (s : State) : (parkedTest s).coast = s.coast := by unfold parkedTest; (repeat' split) <;> simp
@[simp] theorem enterIndexing_coast (s : State) : (enterIndexing s).coast = s.coast := by
  unfold enterIndexing; (repeat' split) <;> simp
@[simp] theorem handover_coast (p : Parked) (s : State) : (handover p s).coast = s.coast := by unfold handover; split <;> simp
@[simp] theorem askRescan_coast (e : Nat) (s : State) : (askRescan e s).coast = s.coast := by simp [askRescan]
@[simp] theorem missTest_coast (old : Nat) (s : State) : (missTest old s).coast = s.coast := by
  unfold missTest; dsimp only; (repeat' split) <;> simp
@[simp] theorem rescanNotFound_coast (s : State) : (rescanNotFound s).coast = s.coast := rfl
@[simp] theorem rescanTest_coast (old : Nat) (s : State) : (rescanTest old s).coast = s.coast := by
  unfold rescanTest; (repeat' split) <;> simp
@[simp] theorem pitchMaxTest_coast (s : State) : (pitchMaxTest s).coast = s.coast := by
  unfold pitchMaxTest; dsimp only; (repeat' split) <;> simp
@[simp] theorem limitTest_coast (old : Nat) (s : State) : (limitTest old s).coast = s.coast := by
  unfold limitTest; dsimp only; (repeat' split) <;> simp
@[simp] theorem markOpens_coast (s : State) : (markOpens s).coast = s.coast := by unfold markOpens; split <;> simp
@[simp] theorem gatherMark_coast (mid : Nat) (m : Mark) (s : State) : (gatherMark mid m s).coast = s.coast := rfl
@[simp] theorem markCloses_coast (s : State) : (markCloses s).coast = s.coast := by
  unfold markCloses; dsimp only; (repeat' split) <;> simp
@[simp] theorem compareMarks_coast (g : Gather) (s : State) : (compareMarks g s).coast = s.coast := by
  unfold compareMarks; (repeat' split) <;> simp
@[simp] theorem closeGathering_coast (pick : Gather → Bool) (s : State) : (closeGathering pick s).coast = s.coast := by
  simp [closeGathering]
@[simp] theorem gatheringTest_coast (s : State) : (gatheringTest s).coast = s.coast := by unfold gatheringTest; split <;> simp
@[simp] theorem countPassed_coast (k : Nat) (s : State) : (countPassed k s).coast = s.coast := by
  unfold countPassed; dsimp only; (repeat' split) <;> simp
@[simp] theorem passedTest_coast (old : Nat) (d : Direction) (s : State) : (passedTest old d s).coast = s.coast := by
  unfold passedTest; split <;> simp
@[simp] theorem runReported_coast (a : Armed) (s : State) : (runReported a s).coast = s.coast := by simp [runReported]
@[simp] theorem missInRun_coast (a : Armed) (why : MissReason) (s : State) : (missInRun a why s).coast = s.coast := by
  simp [missInRun]
@[simp] theorem takeTrigger_coast (a : Armed) (s : State) : (takeTrigger a s).coast = s.coast := by
  unfold takeTrigger; (repeat' split) <;> simp
@[simp] theorem takeTriggers_coast (old n : Nat) (s : State) : (takeTriggers old n s).coast = s.coast := by
  induction n generalizing s with
  | zero => rfl
  | succ n ih => unfold takeTriggers; split <;> simp [ih]

@[simp] theorem trackerMoved_coast (old : Nat) (d : Direction) (s : State) : (trackerMoved old d s).coast = s.coast := by
  unfold trackerMoved; dsimp only; (repeat' split) <;> simp
@[simp] theorem tailTest_coast (s : State) : (tailTest s).coast = s.coast := by unfold tailTest; (repeat' split) <;> simp
@[simp] theorem positionMoved_coast (old : Nat) (d : Direction) (s : State) :
    (positionMoved old d s).coast = s.coast := by
  unfold positionMoved; (repeat' split) <;> simp
@[simp] theorem absorbCounts_coast (n : Nat) (s : State) : (absorbCounts n s).coast = s.coast := by
  have counted : (s.onTransport fun t => { t with absorbed := t.absorbed + n }).coast = s.coast := onTransport_coast rfl
  unfold absorbCounts
  dsimp only
  split <;> simp [counted]
@[simp] theorem putPosition_coast (p : Nat) (s : State) : (putPosition p s).coast = s.coast := rfl
@[simp] theorem carryPosition_coast (d : Direction) (n : Nat) (s : State) :
    (carryPosition d n s).coast = s.coast := by
  unfold carryPosition; dsimp only; (repeat' split) <;> simp
@[simp] theorem trim_coast (d : Int) (s : State) : (trim d s).coast = s.coast := by
  unfold trim; (repeat' split) <;> simp
@[simp] theorem turnTravel_links (d : Direction) (s : State) : (turnTravel d s).coast.links = s.coast.links := by
  unfold turnTravel; split <;> simp
@[simp] theorem searchTravels_links (d : Direction) (s : State) : (searchTravels d s).coast.links = s.coast.links := rfl
@[simp] theorem capstanMoves_links (d : Direction) (s : State) : (capstanMoves d s).coast.links = s.coast.links := by
  unfold capstanMoves; split <;> simp
@[simp] theorem correctPosition_coast (low : Nat) (s : State) : (correctPosition low s).coast = s.coast := by
  unfold correctPosition; dsimp only; (repeat' split) <;> simp
@[simp] theorem matchEdge_coast (s : State) : (matchEdge s).coast = s.coast := by
  unfold matchEdge; dsimp only; (repeat' split) <;> simp
@[simp] theorem takeLowEdge_coast (s : State) : (takeLowEdge s).coast = s.coast := by
  unfold takeLowEdge; (repeat' split) <;> simp
@[simp] theorem takeHigh_coast (s : State) : (takeHigh s).coast = s.coast := by unfold takeHigh; split <;> simp
@[simp] theorem startMove_links (m : MoveRecord) (s : State) : (startMove m s).coast.links = s.coast.links := by
  unfold startMove; dsimp only; (repeat' split) <;> simp
@[simp] theorem startReference_links (s : State) : (startReference s).coast.links = s.coast.links := by simp [startReference]
@[simp] theorem enterTensioning_links (s : State) : (enterTensioning s).coast.links = s.coast.links := by simp [enterTensioning]
@[simp] theorem modifyCurrent_coast (f : Current → Current) (s : State) : (modifyCurrent f s).coast = s.coast := rfl
@[simp] theorem returnRecord_coast (s : State) : (returnRecord s).coast = s.coast := by
  unfold returnRecord; dsimp only; (repeat' split) <;> simp
@[simp] theorem takeRecord_links (m : MoveRecord) (s : State) : (takeRecord m s).coast.links = s.coast.links := by
  unfold takeRecord; (repeat' split) <;> simp
@[simp] theorem handRecord_links (s : State) : (handRecord s).coast.links = s.coast.links := by unfold handRecord; (repeat' split) <;> simp
@[simp] theorem handLeg_links (s : State) : (handLeg s).coast.links = s.coast.links := by unfold handLeg; (repeat' split) <;> simp
@[simp] theorem tellCurrent_coast (r : Requester) (k : QKind) (s : State) : (tellCurrent r k s).coast = s.coast := by
  unfold tellCurrent; (repeat' split) <;> simp
@[simp] theorem makeCurrent_links (e : QEntry) (s : State) : (makeCurrent e s).coast.links = s.coast.links := by simp [makeCurrent]
@[simp] theorem ageOthers_coast (chosen : QEntry) (s : State) : (ageOthers chosen s).coast = s.coast := rfl
@[simp] theorem startOccupancy_coast (e : QEntry) (s : State) : (startOccupancy e s).coast = s.coast := rfl
@[simp] theorem selectIn_links (cls : QClass) (s : State) : (selectIn cls s).coast.links = s.coast.links := by unfold selectIn; split <;> simp
@[simp] theorem select_links (s0 : State) : (select s0).coast.links = s0.coast.links := by unfold select; dsimp only; (repeat' split) <;> simp
@[simp] theorem suspendRun_coast (job : Nat) (s : State) : (suspendRun job s).coast = s.coast := by simp [suspendRun]
@[simp] theorem legStopped_links (c : Current) (s : State) : (legStopped c s).coast.links = s.coast.links := by
  unfold legStopped; split <;> simp
@[simp] theorem indexLegDone_coast (n : Nat) (o : MoveOutcome) (s : State) : (indexLegDone n o s).coast = s.coast := by
  unfold indexLegDone; dsimp only; (repeat' split) <;> simp
@[simp] theorem seekLegDone_coast (n : Nat) (o : MoveOutcome) (s : State) : (seekLegDone n o s).coast = s.coast := by
  unfold seekLegDone; split <;> simp
@[simp] theorem runLegDone_coast (n : Nat) (o : MoveOutcome) (s : State) : (runLegDone n o s).coast = s.coast := by
  simp [runLegDone]
@[simp] theorem resumeInterrupted_links (s : State) : (resumeInterrupted s).coast.links = s.coast.links := by
  unfold resumeInterrupted; dsimp only; (repeat' split) <;> simp
@[simp] theorem dropDone_coast (c : Current) (s : State) : (dropDone c s).coast = s.coast := by
  unfold dropDone; (repeat' split) <;> simp
@[simp] theorem motionDone_links (c : Current) (o : MoveOutcome) (s : State) : (motionDone c o s).coast.links = s.coast.links := by
  unfold motionDone; dsimp only; (repeat' split) <;> simp
@[simp] theorem legDone_links (o : MoveOutcome) (s : State) : (legDone o s).coast.links = s.coast.links := by
  unfold legDone; (repeat' split) <;> simp
@[simp] theorem continueRun_links (s : State) : (continueRun s).coast.links = s.coast.links := by unfold continueRun; (repeat' split) <;> simp
@[simp] theorem releaseFrames_coast (n : Nat) (s : State) : (releaseFrames n s).coast = s.coast := by
  unfold releaseFrames; (repeat' split) <;> simp
@[simp] theorem releaseAll_coast (s : State) : (releaseAll s).coast = s.coast := by simp [releaseAll]
@[simp] theorem loseRoll_coast (n : Nat) (s : State) : (loseRoll n s).coast = s.coast := by
  unfold loseRoll; (repeat' split) <;> simp
@[simp] theorem clearContents_links (s : State) : (clearContents s).coast.links = s.coast.links := by simp [clearContents]
@[simp] theorem freshTracker_coast (s : State) : (freshTracker s).coast = s.coast := rfl
@[simp] theorem emptyTracker_coast (s : State) : (emptyTracker s).coast = s.coast := rfl
@[simp] theorem stopWork_links (s : State) : (stopWork s).coast.links = s.coast.links := rfl
@[simp] theorem enterEmpty_links (unloaded : Bool) (s : State) : (enterEmpty unloaded s).coast.links = s.coast.links := by
  unfold enterEmpty; split <;> simp
@[simp] theorem startForwardSearch_links (s : State) : (startForwardSearch s).coast.links = s.coast.links := by simp [startForwardSearch]
@[simp] theorem searchPhase_links (p : SearchPhase) (s : State) : (searchPhase p s).coast.links = s.coast.links := rfl
@[simp] theorem takeLeaderEdge_links (s : State) : (takeLeaderEdge s).coast.links = s.coast.links := by
  unfold takeLeaderEdge; (repeat' split) <;> simp
@[simp] theorem endSearch_links (s : State) : (endSearch s).coast.links = s.coast.links := rfl
@[simp] theorem endRollJob_coast (st : JobState) (why : EndReason) (s : State) : (endRollJob st why s).coast = s.coast := by
  unfold endRollJob; split <;> simp
@[simp] theorem searchArrived_links (s : State) : (searchArrived s).coast.links = s.coast.links := by
  unfold searchArrived; dsimp only; (repeat' split) <;> simp
@[simp] theorem searchFails_links (s : State) : (searchFails s).coast.links = s.coast.links := by
  unfold searchFails; dsimp only; (repeat' split) <;> simp
@[simp] theorem startLoad_links (n : Nat) (s : State) : (startLoad n s).coast.links = s.coast.links := by
  unfold startLoad; dsimp only; (repeat' split) <;> simp_all
@[simp] theorem startRewind_links (s : State) : (startRewind s).coast.links = s.coast.links := by simp [startRewind]
@[simp] theorem startUnload_links (n : Nat) (s : State) : (startUnload n s).coast.links = s.coast.links := by
  unfold startUnload; dsimp only; (repeat' split) <;> simp
@[simp] theorem startRollJob_links (s : State) : (startRollJob s).coast.links = s.coast.links := by
  unfold startRollJob; dsimp only; (repeat' split) <;> simp
@[simp] theorem threadingDone_links (s : State) : (threadingDone s).coast.links = s.coast.links := by simp [threadingDone]
@[simp] theorem threadingFails_links (s : State) : (threadingFails s).coast.links = s.coast.links := by
  simp [threadingFails]
@[simp] theorem tensionReached_links (s : State) : (tensionReached s).coast.links = s.coast.links := by
  unfold tensionReached; dsimp only; (repeat' split) <;> simp_all
@[simp] theorem completeMove_links (o : MoveOutcome) (s : State) : (completeMove o s).coast.links = s.coast.links := by
  unfold completeMove; dsimp only; (repeat' split) <;> simp
@[simp] theorem cancelledAtRest_links (s : State) : (cancelledAtRest s).coast.links = s.coast.links := by simp [cancelledAtRest]
@[simp] theorem tailReached_links (s : State) : (tailReached s).coast.links = s.coast.links := by unfold tailReached; split <;> simp
@[simp] theorem searchAtRest_links (s : State) : (searchAtRest s).coast.links = s.coast.links := by
  unfold searchAtRest; (repeat' split) <;> simp
@[simp] theorem motionStops_links (s : State) : (motionStops s).coast.links = s.coast.links := by unfold motionStops; (repeat' split) <;> simp
@[simp] theorem cancelRollWork_links (s : State) : (cancelRollWork s).coast.links = s.coast.links := by
  unfold cancelRollWork; split <;> simp
@[simp] theorem retargetMove_links (e : Nat) (s : State) : (retargetMove e s).coast.links = s.coast.links := by
  unfold retargetMove; (repeat' split) <;> simp
@[simp] theorem takeTail_links (s : State) : (takeTail s).coast.links = s.coast.links := by
  unfold takeTail; dsimp only; (repeat' split) <;> simp
@[simp] theorem syncHoldTimer_links (s : State) : (syncHoldTimer s).coast.links = s.coast.links := by
  unfold syncHoldTimer; (repeat' split) <;> simp
@[simp] theorem syncPersist_links (s : State) : (syncPersist s).coast.links = s.coast.links := rfl
@[simp] theorem syncStall_links (s : State) : (syncStall s).coast.links = s.coast.links := by unfold syncStall; split <;> simp
@[simp] theorem beginTransmission_coast (l : LinkId) (k : TxKind) (body : List Byte) (s : State) :
    (beginTransmission l k body s).coast = s.coast := onLink_coast rfl
@[simp] theorem serviceLink_coast (l : LinkId) (s : State) : (serviceLink l s).coast = s.coast := by
  have idles (v : Transmitter) : (s.onLink l fun u => { u with transmitter := v }).coast = s.coast := onLink_coast rfl
  unfold serviceLink; dsimp only; (repeat' split) <;> simp [idles]
@[simp] theorem serviceLinks_coast (s : State) : (serviceLinks s).coast = s.coast := by simp [serviceLinks]
@[simp] theorem arbitrate_links (s : State) : (arbitrate s).coast.links = s.coast.links := by simp [arbitrate]
@[simp] theorem serviceCapture_coast (s : State) : (serviceCapture s).coast = s.coast := by simp [serviceCapture]
@[simp] theorem settleBlocks_links (s : State) : (settleBlocks s).coast.links = s.coast.links := by simp [settleBlocks]
@[simp] theorem settle_links (s : State) : (settle s).coast.links = s.coast.links := by simp [settle]
@[simp] theorem haltFocus_coast (s : State) : (haltFocus s).coast = s.coast := abandonSearch_coast s
@[simp] theorem holdItem_coast (job frame : Nat) (s : State) : (holdItem job frame s).coast = s.coast := rfl
@[simp] theorem haltRun_coast (n : Nat) (c : Current) (s : State) : (haltRun n c s).coast = s.coast := by
  unfold haltRun; (repeat' split) <;> simp
@[simp] theorem haltArbiter_coast (s : State) : (haltArbiter s).coast = s.coast := by unfold haltArbiter; (repeat' split) <;> simp
@[simp] theorem haltTransport_links (c : Cause) (s : State) : (haltTransport c s).coast.links = s.coast.links := by simp [haltTransport]
@[simp] theorem failJob_coast (c : Cause) (n : Nat) (s : State) : (failJob c n s).coast = s.coast := by simp [failJob]
@[simp] theorem jobFate_coast (c : Cause) (n : Nat) (s : State) : (jobFate c n s).coast = s.coast := by
  unfold jobFate; (repeat' split) <;> simp
@[simp] theorem applyFate_coast (c : Cause) (s : State) : (applyFate c s).coast = s.coast := by simp [applyFate]
@[simp] theorem breakFilm_links (c : Cause) (s : State) : (breakFilm c s).coast.links = s.coast.links := by unfold breakFilm; split <;> simp
@[simp] theorem reportFault_links (c : Cause) (s : State) : (reportFault c s).coast.links = s.coast.links := by
  unfold reportFault; (repeat' split) <;> simp
@[simp] theorem leaveHalt_links (c : Option Cause) (s : State) : (leaveHalt c s).coast.links = s.coast.links := by
  unfold leaveHalt; split <;> simp
@[simp] theorem clearLens_coast (s : State) : (clearLens s).coast = s.coast := rfl
@[simp] theorem startWaiting_coast (n : Nat) (s : State) : (startWaiting n s).coast = s.coast := by
  unfold startWaiting; (repeat' split) <;> simp
@[simp] theorem clearCut_coast (s : State) : (clearCut s).coast = s.coast := by unfold clearCut; split <;> simp
@[simp] theorem restart_links (s : State) : (restart s).coast.links = s.coast.links := by unfold restart; dsimp only; (repeat' split) <;> simp
@[simp] theorem applyClear_links (s : State) : (applyClear s).coast.links = s.coast.links := by simp [applyClear]
@[simp] theorem putSegment_coast (n : Nat) (sg : Segment) (s : State) : (putSegment n sg s).coast = s.coast := rfl
@[simp] theorem truncateAt_coast (n : Nat) (s : State) : (truncateAt n s).coast = s.coast := by
  unfold truncateAt; dsimp only; (repeat' split) <;> simp
@[simp] theorem cancelWork_links (j : Job) (s : State) : (cancelWork j s).coast.links = s.coast.links := by
  unfold cancelWork; split <;> simp
@[simp] theorem insertJob_coast (l : LinkId) (o : JobOrder) (s : State) : (insertJob l o s).coast = s.coast := by
  unfold insertJob; split <;> rfl
@[simp] theorem beginJob_coast (n : Nat) (o : JobOrder) (s : State) : (beginJob n o s).coast = s.coast := by
  unfold beginJob; dsimp only; (repeat' split) <;> simp
@[simp] theorem tensionEffect_links (side : Side) (r : TensionReading) (s : State) :
    (tensionEffect side r s).coast.links = s.coast.links := by
  unfold tensionEffect; (repeat' split) <;> simp
@[simp] theorem tensionRunsOut_links (s : State) : (tensionRunsOut s).coast.links = s.coast.links := by
  unfold tensionRunsOut; split <;> simp
@[simp] theorem rest_links (s : State) : (rest s).coast.links = s.coast.links := by simp [rest]
@[simp] theorem rewindEnds_links (s : State) : (rewindEnds s).coast.links = s.coast.links := by
  unfold rewindEnds; split <;> simp
@[simp] theorem filmOutEffect_links (s : State) : (filmOutEffect s).coast.links = s.coast.links := by
  unfold filmOutEffect; (repeat' split) <;> simp
@[simp] theorem lensFaults_links (s : State) : (lensFaults s).coast.links = s.coast.links := by simp [lensFaults]
@[simp] theorem lensStalls_links (s : State) : (lensStalls s).coast.links = s.coast.links := by
  unfold lensStalls; split <;> simp

end Sys2Proof.Machine
end

section
/-! SUPPORT. An invariant of every step from the few operations it must survive: what the link units do with a request, a break or the
end of a transmission is taken apart once. -/

namespace Sys2Proof.Machine

/-- The operations that an invariant must survive for every step to keep it. -/
structure StepInvariant (P : State → Prop) : Prop where
  links        : ∀ {s t}, OnlyLinks s t → P s → P t
  pins         : ∀ f {s}, P s → P (s.onPins f)
  pending      : ∀ q {s}, P s → P (s.withPending q)
  reset        : ∀ lv s, P (State.powered lv s)
  fault        : ∀ c {s}, P s → P (reportFault c s)
  index        : ∀ f {s}, P s → P (s.onIndex f)
  capture      : ∀ f {s}, P s → P (s.onCapture f)
  profile      : ∀ p f {s}, P s → P ((s.onTransport fun t => { t with profile := p }).onTracker f)
  placePoint   : ∀ p {s}, P s → P (s.onFocus fun f => { f with map := placePoint p s.focus.map })
  clearMap     : ∀ {s}, P s → P (s.onFocus fun f => { f with map := [] })
  truncateAt   : ∀ n {s}, P s → P (truncateAt n s)
  applyClear   : ∀ {s}, P s → P (applyClear s)
  accept       : ∀ l o {s}, acceptCheck l o s = .ok → P s → P (beginJob (newNumber s) o (insertJob l o s))
  cancelWork   : ∀ j {s}, P s → P (cancelWork j s)
  freeSlot     : ∀ n {s}, P s → P (freeSlot n s)
  removeHead   : ∀ {s}, P s → P (removeHead s)
  settleBlocks : ∀ {s}, P s → P (settleBlocks s)
  event        : ∀ c {s t}, isMachineEvent c = true → P s → exec c s = .next t → P t

/-- A fold of an operation that keeps an invariant keeps it. -/
theorem foldl_invariant {α : Type} {P : State → Prop} {f : State → α → State} (h : ∀ s a, P s → P (f s a)) (xs : List α) {s : State}
    (hs : P s) : P (xs.foldl f s) := by
  induction xs generalizing s with
  | nil => exact hs
  | cons x xs ih => exact ih (h s x hs)

namespace StepInvariant
variable {P : State → Prop} (hP : StepInvariant P) {s : State}
include hP

theorem onLink (l : LinkId) (f : LinkUnit → LinkUnit) (h : P s) : P (s.onLink l f) := hP.links (onLink_only l f s) h
theorem serviceLinks (h : P s) : P (serviceLinks s) := hP.links (serviceLinks_only s) h
theorem settle (h : P s) : P (settle s) := hP.serviceLinks (hP.settleBlocks h)

theorem taken {test : Bool} {act : State → State} (hact : P s → P (act s)) (h : P s) : P (taken test act s) := by
  unfold Machine.taken
  split
  · exact hP.settle (hact h)
  · exact h

/-! ### Requests -/

/-- What a request leaves is the state as it was, or what its one operation makes of it. -/
theorem perform (l : LinkId) (o : Order) (h : P s) : P (perform l o s).state := by
  cases o <;> unfold Machine.perform <;> dsimp only
  case setProfile r =>
    unfold setProfile refuse
    (repeat' split)
    · exact h
    · exact h
    · exact h
    · dsimp only; exact hP.profile _ _ h
  case getEntries n count => unfold getEntries; dsimp only; split <;> exact h
  case findAddress a => unfold findAddress; dsimp only; split <;> exact h
  case setFocusPoint p q =>
    unfold setFocusPoint refuse
    split
    · exact h
    · exact hP.placePoint _ h
  case clearFocusMap => exact hP.clearMap h
  case verifySegment n =>
    unfold verifySegment refuse putSegment
    dsimp only
    (repeat' split)
    · exact h
    · exact h
    · dsimp only; exact hP.index _ h
  case unverifySegment n =>
    unfold unverifySegment refuse putSegment
    dsimp only
    (repeat' split)
    · exact h
    · exact h
    · exact h
    · dsimp only; exact hP.index _ h
  case truncateIndex n =>
    unfold truncateIndex refuse
    split <;> dsimp only
    · exact hP.settleBlocks (hP.truncateAt n h)
    · exact h
  case setNoticeMask b => exact hP.onLink l _ h
  case clearFault =>
    unfold clearFault
    split <;> dsimp only
    · exact hP.settleBlocks (hP.applyClear h)
    · exact h
  case cancelJob n =>
    unfold cancelJob refuse
    (repeat' split) <;> dsimp only
    · exact h
    · exact h
    · exact h
    · exact hP.settleBlocks (hP.cancelWork _ h)
  case getJob n => unfold getJob refuse; split <;> exact h
  case job o =>
    unfold jobRequest refuse
    split <;> dsimp only
    · next ok => exact hP.settleBlocks (hP.accept l o ok h)
    · exact h
  all_goals exact h

theorem buildReply (l : LinkId) (kind tag : Byte) (r : Result) (data : List Byte) (h : P s) : P (buildReply l kind tag r data s) :=
  hP.links (buildReply_only l kind tag r data s) h

theorem answerFrame (l : LinkId) (body : List Byte) (h : P s) : P (answerFrame l body s) := by
  unfold Machine.answerFrame
  split
  · split
    · exact hP.buildReply _ _ _ _ _ h
    · split
      · exact hP.buildReply _ _ _ _ _ h
      · exact hP.buildReply _ _ _ _ _ (hP.perform l _ h)
  · exact h

theorem takeFrame (l : LinkId) (h : P s) : P (takeFrame l s) := by
  unfold Machine.takeFrame
  split
  · exact hP.answerFrame l _ (hP.onLink l _ h)
  · exact h

theorem placeFrame (l : LinkId) (body : List Byte) (h : P s) : P (placeFrame l body s) := by
  unfold Machine.placeFrame
  split
  · exact hP.onLink l _ h
  · exact hP.takeFrame l (hP.onLink l _ h)

theorem receiveByte (l : LinkId) (b : RxByte) (h : P s) : P (receiveByte l b s) := by
  have changed (f : LinkUnit → LinkUnit) : P (s.onLink l f) := hP.onLink l f h
  have placed (body : List Byte) : P (Machine.placeFrame l body s) := hP.placeFrame l body h
  unfold Machine.receiveByte
  (repeat' split) <;> simp only [changed, placed, h]

theorem betweenBytes (l : LinkId) (h : P s) : P (betweenBytes l s) := by
  unfold Machine.betweenBytes
  split
  · exact hP.serviceLinks h
  · exact h

theorem receiveBytes (l : LinkId) (bs : List Byte) (h : P s) : P (receiveBytes l bs s) := by
  induction bs, s using receiveBytes.induct l with
  | case1 s => exact h
  | case2 s b => exact hP.receiveByte l _ h
  | case3 s b bs hbs ih =>
    rw [Machine.receiveBytes]
    · exact ih (hP.betweenBytes l (hP.receiveByte l _ h))
    · exact hbs

theorem frameArrives (l : LinkId) (body : List Byte) (h : P s) : P (frameArrives l body s) := by
  unfold Machine.frameArrives
  split
  · exact h
  · split
    · exact hP.placeFrame l body h
    · exact hP.receiveBytes l _ h
  · exact hP.receiveBytes l _ h

theorem requestArrives (l : LinkId) (tag : Byte) (r : Request) (h : P s) : P (requestArrives l tag r s) :=
  hP.serviceLinks (hP.frameArrives l _ h)

/-! ### Transmissions and breaks -/

theorem dropHeads (h : P s) : P (dropHeads s) := by
  suffices all : ∀ n s, P s → P (dropHeadsN n s) from all _ s h
  intro n
  induction n with
  | zero => exact fun _ h => h
  | succ n ih =>
    intro s h
    unfold dropHeadsN
    split
    · exact h
    · split
      · exact ih _ (hP.removeHead h)
      · exact h

theorem sentFrame (l : LinkId) (k : TxKind) (h : P s) : P (sentFrame l k s) := by
  cases k with
  | reply => exact hP.takeFrame l (hP.onLink l _ h)
  | jobDone =>
    unfold Machine.sentFrame
    dsimp only
    split
    · exact h
    · exact hP.freeSlot _ (hP.onLink l _ h)
  | captured => exact hP.removeHead h
  | notice k => exact h

theorem endTransmission (l : LinkId) (h : P s) : P (endTransmission l s) := by
  unfold Machine.endTransmission
  split
  · exact hP.serviceLinks (hP.dropHeads (hP.sentFrame l _ (hP.onLink l _ h)))
  · exact h
  · exact h

theorem breakJob (l : LinkId) (n : Nat) (h : P s) : P (breakJob l n s) := by
  unfold Machine.breakJob
  split
  · exact h
  · split
    · split
      · exact hP.freeSlot n (hP.cancelWork _ h)
      · exact hP.freeSlot n h
    · exact h

theorem beginBreak (l : LinkId) (h : P s) : P (beginBreak l s) := by
  unfold Machine.beginBreak forgetVerifier markDropped
  split
  · exact h
  · exact hP.settle (hP.index _ (hP.capture _
      (foldl_invariant (fun _ n => hP.breakJob l n) _ (hP.onLink l _ h))))

theorem endBreak (l : LinkId) (h : P s) : P (endBreak l s) := by
  unfold Machine.endBreak
  split
  · exact hP.onLink l _ h
  · exact h

theorem powerOn (lv : Levels) {t : State} (ht : exec (.powerOnReset lv) s = .next t) : P t := by
  cases ht
  split
  · exact hP.serviceLinks (hP.fault _ (hP.reset lv s))
  · exact hP.reset lv s

/-- Every command keeps the invariant. -/
theorem exec {c : Instr} {t : State} (h : P s) (ht : exec c s = .next t) : P t := by
  have request (l : LinkId) (tag : Byte) (r : Request) : P (Machine.requestArrives l tag r s) := hP.requestArrives l tag r h
  have levels (lv : Levels) (l : LinkId) (tag : Byte) (r : Request) : P (Machine.requestArrives l tag r (takeLevels lv s)) :=
    hP.requestArrives l tag r (hP.pins _ h)
  cases c with
  | powerOnReset lv => exact hP.powerOn lv ht
  | getStatus l tag lv | unverifySegment l tag seg lv | truncateIndex l tag n lv | clearFault l tag lv | loadRoll l tag lv =>
    cases ht; exact levels lv l tag _
  | getProfile l tag | setProfile l tag r | getEntries l tag n count | findAddress l tag b d p | getFocusMap l tag
  | setFocusPoint l tag position lensStep | clearFocusMap l tag | verifySegment l tag seg | setNoticeMask l tag mask
  | cancelJob l tag job | getJob l tag job | unloadRoll l tag | seekFrame l tag flags target | fetch l tag flags items
  | sweep l tag flags fromT toT | indexTo l tag flags target =>
    cases ht; exact request l tag _
  | unknownRequest l tag kind rest => cases ht; exact hP.serviceLinks (hP.frameArrives l _ h)
  | hold l | resume l | strayByte l b => cases ht; exact hP.serviceLinks (hP.receiveByte l _ h)
  | frameReceived l body check => cases ht; exact hP.serviceLinks (hP.receiveBytes l _ h)
  | linkBreak l => cases ht; exact hP.beginBreak l h
  | linkBreakEnd l => cases ht; exact hP.serviceLinks (hP.endBreak l h)
  | transmissionEnd l => cases ht; exact hP.endTransmission l h
  | _ => exact hP.event _ rfl h ht

/-- Every step keeps the invariant. -/
theorem step {t : State} (h : P s) (ht : step s = .next t) : P t := by
  unfold Machine.step at ht
  split at ht
  · cases ht; exact h
  · exact hP.exec (hP.pending _ h) ht

end StepInvariant

end Sys2Proof.Machine
end

section
/-! SUPPORT. The position count and its limits: which operations keep all three, which keep the count in range (R4, R14). -/

namespace Sys2Proof.Machine

/-- The position count, the roll's end and the tail limit. -/
structure Limits where
  position  : Nat
  rollEnd   : Option Nat
  tailLimit : Option Nat

/-- The limits in what most operations keep. -/
def Still.limits (x : Still) : Limits where
  position := x.base.position
  rollEnd := x.rollEnd
  tailLimit := x.tailLimit

/-- The position count lies in range and at or below the roll's end; the end values are positions. -/
def Limits.Sound (x : Limits) : Prop :=
  x.position ≤ 16000000 ∧ (∀ e, x.rollEnd = some e → x.position ≤ e ∧ e ≤ 16000000) ∧ ∀ e, x.tailLimit = some e → e ≤ 16000000

theorem positionSound_iff (s : State) : PositionSound s ↔ s.still.limits.Sound := Iff.rfl

/-! ### Operations that keep the limits -/

@[simp] theorem onTransport_limits {f : Transport → Transport} {s : State} (h1 : (f s.transport).position = s.transport.position)
    (h2 : (f s.transport).rollEnd = s.transport.rollEnd) (h3 : (f s.transport).tailLimit = s.transport.tailLimit) :
    (s.onTransport f).still.limits = s.still.limits := by simp [State.still, Still.limits, State.onTransport, h1, h2, h3]

@[simp] theorem onFocus_limits (f : Focus → Focus) (s : State) : (s.onFocus f).still.limits = s.still.limits := rfl
@[simp] theorem onFault_limits (f : FaultRecord → FaultRecord) (s : State) : (s.onFault f).still.limits = s.still.limits := rfl
@[simp] theorem onPins_limits (f : Pins → Pins) (s : State) : (s.onPins f).still.limits = s.still.limits := rfl
@[simp] theorem onJobs_limits (f : Jobs → Jobs) (s : State) : (s.onJobs f).still.limits = s.still.limits := rfl
@[simp] theorem finishSearch_limits (sr : FocusSearch) (s : State) : (finishSearch sr s).still.limits = s.still.limits := by
  unfold finishSearch; split <;> simp
@[simp] theorem serveTrial_limits (s : State) : (serveTrial s).still.limits = s.still.limits := by
  unfold serveTrial; (repeat' split) <;> simp
@[simp] theorem serveLens_limits (s : State) : (serveLens s).still.limits = s.still.limits := by unfold serveLens; split <;> simp
@[simp] theorem serviceLens_limits (s : State) : (serviceLens s).still.limits = s.still.limits := by
  unfold serviceLens; (repeat' split) <;> simp
@[simp] theorem trialWaitEnds_limits (s : State) : (trialWaitEnds s).still.limits = s.still.limits := by
  unfold trialWaitEnds; (repeat' split) <;> simp
@[simp] theorem serviceStationary_limits (s : State) : (serviceStationary s).still.limits = s.still.limits := by
  unfold serviceStationary; dsimp only; (repeat' split) <;> simp
@[simp] theorem serviceCapture_limits (s : State) : (serviceCapture s).still.limits = s.still.limits := by simp [serviceCapture]
@[simp] theorem filmBreakCut_limits (threshold : Int) (s : State) : (filmBreakCut threshold s).still.limits = s.still.limits := by
  unfold filmBreakCut; split <;> simp
@[simp] theorem clearCut_limits (s : State) : (clearCut s).still.limits = s.still.limits := by unfold clearCut; split <;> simp
@[simp] theorem reportFault_limits (c : Cause) (s : State) : (reportFault c s).still.limits = s.still.limits := by
  unfold reportFault; (repeat' split) <;> simp
@[simp] theorem insertJob_limits (l : LinkId) (o : JobOrder) (s : State) : (insertJob l o s).still.limits = s.still.limits := by
  unfold insertJob; split <;> simp

/-! ### Operations that keep them sound -/

theorem PositionSound.of_limits {s t : State} (h : PositionSound s) (ht : t.still.limits = s.still.limits) : PositionSound t := by
  rw [positionSound_iff] at *
  rwa [ht]

theorem PositionSound.of_still {s t : State} (h : PositionSound s) (ht : t.still = s.still) : PositionSound t :=
  h.of_limits (by rw [ht])

/-- roll_end set at or above the position count. -/
theorem setRollEnd_limits (e : Nat) (s : State) :
    (setRollEnd e s).still.limits = { s.still.limits with rollEnd := some e, tailLimit := none } := by
  have put : (putRollEnd (some e) s).transport = { s.transport with rollEnd := some e } := by
    unfold putRollEnd
    split
    · next same => rw [← same]
    · rfl
  unfold setRollEnd
  rw [completeTest_still]
  simp [Still.limits, State.still, put]

theorem setRollEnd_position {e : Nat} {s : State} (h : PositionSound s) (le : s.transport.position ≤ e) (he : e ≤ 16000000) :
    PositionSound (setRollEnd e s) := by
  rw [positionSound_iff, setRollEnd_limits]
  exact ⟨h.1, fun x hx => by cases hx; exact ⟨le, he⟩, nofun⟩

theorem tailTest_position {s : State} (h : PositionSound s) : PositionSound (tailTest s) := by
  unfold tailTest
  split
  · next e tail =>
    split
    · next le => exact setRollEnd_position h le (h.2.2 e tail)
    · exact h
  · exact h

theorem positionMoved_position (old : Nat) (d : Direction) {s : State} (h : PositionSound s) :
    PositionSound (positionMoved old d s) := by
  unfold positionMoved
  split
  · exact h
  · have moved := (tailTest_position h).of_still (trackerMoved_still old d _)
    cases d with
    | forward => exact moved.of_still (takeTriggers_still _ _ _)
    | reverse => exact moved

theorem putPosition_position {p : Nat} {s : State} (h : PositionSound s) (hp : p ≤ max s.transport.position s.transport.upperLimit) :
    PositionSound (putPosition p s) := by
  obtain ⟨inRange, ends, tail⟩ := h
  have cases_limit : p ≤ 16000000 ∧ ∀ e, s.transport.rollEnd = some e → p ≤ e := by
    unfold Transport.upperLimit Config.maxPosition at hp
    cases hr : s.transport.rollEnd with
    | none => simp only [hr, Option.getD_none] at hp; exact ⟨by omega, nofun⟩
    | some r =>
      have := ends r hr
      simp only [hr, Option.getD_some] at hp
      exact ⟨by omega, fun e he => by cases he; omega⟩
  exact ⟨cases_limit.1, fun e he => ⟨cases_limit.2 e he, (ends e he).2⟩, tail⟩

theorem carryPosition_position (d : Direction) (n : Nat) {s : State} (h : PositionSound s) : PositionSound (carryPosition d n s) := by
  unfold carryPosition
  dsimp only
  cases d with
  | forward =>
    dsimp only
    generalize hp : (if s.transport.position + n ≤ s.transport.upperLimit then s.transport.position + n
      else max s.transport.position s.transport.upperLimit) = p
    have moved := positionMoved_position s.transport.position .forward
      (putPosition_position (p := p) h (by rw [← hp]; split <;> omega))
    split
    · exact moved
    · exact moved.of_still (absorbCounts_still _ _)
  | reverse =>
    have moved := positionMoved_position s.transport.position .reverse
      (putPosition_position (p := s.transport.position - n) h (by omega))
    dsimp only
    split
    · exact moved
    · exact moved.of_still (absorbCounts_still _ _)

theorem trim_position (d : Int) {s : State} (h : PositionSound s) : PositionSound (trim d s) := by
  unfold trim
  split
  · exact h
  · split <;> exact carryPosition_position _ _ h

theorem capstanMoves_position (d : Direction) {s : State} (h : PositionSound s) : PositionSound (capstanMoves d s) := by
  unfold capstanMoves
  split
  · exact h
  · exact carryPosition_position d 1 (h.of_still (by simp))

theorem correctPosition_position (low : Nat) {s : State} (h : PositionSound s) : PositionSound (correctPosition low s) := by
  have loss := h.of_still (askLoss_still s)
  unfold correctPosition
  dsimp only
  split
  · split
    · exact h
    · split
      · exact trim_position _ h
      · exact loss
  · split
    · exact trim_position _ (h.of_still (setReference_still _ s))
    · exact loss
  · exact h

theorem matchEdge_position {s : State} (h : PositionSound s) : PositionSound (matchEdge s) := by
  unfold matchEdge
  split
  · exact h
  · exact correctPosition_position _ (h.of_still (by split <;> simp))

theorem takeLowEdge_position {s : State} (h : PositionSound s) : PositionSound (takeLowEdge s) := by
  unfold takeLowEdge
  (repeat' split)
  · exact h
  · exact h.of_still (handover_still _ s)
  · exact h.of_still (classifyEdge_still s)
  · exact h.of_still (classifyEdge_still s)
  · exact h.of_still (handover_still _ s)
  · exact matchEdge_position h
  · exact matchEdge_position h

/-- The contents cleared: no end value is left (R15, R20). -/
theorem clearContents_limits (s : State) :
    (clearContents s).still.limits = { position := s.transport.position, rollEnd := none, tailLimit := none } := by
  have put (s : State) : (putRollEnd none s).transport.rollEnd = none := by
    unfold putRollEnd
    split
    · assumption
    · rfl
  have kept (s : State) : (putLeaderMissing false (putBroken false s)).still = s.still := by simp
  have base := congrArg Base.position (clearContents_base s)
  refine (Limits.mk.injEq ..).mpr ⟨base, ?_, rfl⟩
  unfold clearContents
  exact (congrArg Still.rollEnd (kept _)).trans (put _)

theorem clearContents_position {s : State} (h : PositionSound s) : PositionSound (clearContents s) := by
  rw [positionSound_iff, clearContents_limits]
  exact ⟨h.1, nofun, nofun⟩

/-- The transport in EMPTY is at position 0 with no end value (R20). -/
theorem enterEmpty_limits (unloaded : Bool) (s : State) :
    (enterEmpty unloaded s).still.limits = { position := 0, rollEnd := none, tailLimit := none } := by
  unfold enterEmpty
  dsimp only
  generalize setReference .lost _ = s2
  have cleared := clearContents_limits (s2.onTransport fun t => { t with position := 0, absorbed := 0 })
  cases unloaded <;> simpa using cleared

theorem enterEmpty_position (unloaded : Bool) (s : State) : PositionSound (enterEmpty unloaded s) := by
  rw [positionSound_iff, enterEmpty_limits]
  exact ⟨Nat.zero_le _, nofun, nofun⟩

theorem takeLeaderEdge_position {s : State} (h : PositionSound s) : PositionSound (takeLeaderEdge s) := by
  unfold takeLeaderEdge
  (repeat' split)
  · exact h
  · exact h
  · exact h.of_still rfl
  · have atZero : PositionSound (driveOff ((searchPhase .arriving s).onTransport fun t => { t with position := 0, absorbed := 0 })) :=
      ⟨Nat.zero_le _, fun e he => ⟨Nat.zero_le _, (h.2.1 e he).2⟩, h.2.2⟩
    exact (tailTest_position atZero).of_still (by simp)
  · exact h

theorem startLoad_position (n : Nat) {s : State} (h : PositionSound s) : PositionSound (startLoad n s) := by
  have cleared : PositionSound (clearContents (setJobState n .running (clearCurrent s))) :=
    clearContents_position (h.of_still (by simp))
  have ready : PositionSound (releaseAll (freshTracker (clearContents (setJobState n .running (clearCurrent s))))) :=
    cleared.of_still (by simp)
  unfold startLoad
  generalize releaseAll _ = s1 at ready ⊢
  dsimp only
  (repeat' split)
  · exact ready.of_still (endJob_still _ _ _ s1)
  · exact ready.of_still (enterState_still _ _)
  · exact ready.of_still (startReference_still _)
  · exact ready.of_still (enterTensioning_still _)

theorem startRollJob_position {s : State} (h : PositionSound s) : PositionSound (startRollJob s) := by
  unfold startRollJob
  dsimp only
  (repeat' split)
  · exact startLoad_position _ h
  · exact h.of_still (startUnload_still _ s)
  all_goals exact h

theorem settleBlocks_position {s : State} (h : PositionSound s) : PositionSound (settleBlocks s) := by
  unfold settleBlocks
  exact (startRollJob_position h).of_limits (by simp)

theorem takeTail_position {s : State} (h : PositionSound s) : PositionSound (takeTail s) := by
  have offset : s.transport.position - Config.tailOffset ≤ 16000000 := by have := h.1; omega
  unfold takeTail
  dsimp only
  split
  · split
    · split
      · exact h.of_still (onTransport_still rfl rfl rfl rfl)
      · exact h
    all_goals
      split
      · exact h
      · split
        · next le => exact (setRollEnd_position h le offset).of_still (retargetMove_still _ _)
        · have put : PositionSound (s.onTransport fun t => { t with tailLimit := some (s.transport.position - Config.tailOffset) }) :=
            ⟨h.1, h.2.1, fun e he => Option.some.inj he ▸ offset⟩
          exact put.of_still (retargetMove_still _ _)
  · exact h

theorem threadingFails_position (s : State) : PositionSound (threadingFails s) := enterEmpty_position false _

theorem cancelRollWork_position {s : State} (h : PositionSound s) : PositionSound (cancelRollWork s) := by
  unfold cancelRollWork
  split
  · exact enterEmpty_position false s
  all_goals exact h.of_still (by simp)

theorem cancelWork_position (j : Job) {s : State} (h : PositionSound s) : PositionSound (cancelWork j s) := by
  unfold cancelWork
  dsimp only
  split
  · exact cancelRollWork_position (h.of_still (by simp))
  · exact h.of_still (by simp)

theorem leaveHalt_position (c : Option Cause) {s : State} (h : PositionSound s) : PositionSound (leaveHalt c s) := by
  unfold leaveHalt
  dsimp only
  split
  · exact h.of_still (by simp)
  · exact enterEmpty_position false _

theorem applyClear_position {s : State} (h : PositionSound s) : PositionSound (applyClear s) := by
  have left : PositionSound (leaveHalt s.fault.cause (raise .fault ((clearCut s).onFault fun _ => FaultRecord.clear))) :=
    leaveHalt_position _ (h.of_limits (by simp))
  exact left.of_still (by simp [applyClear])

theorem tensionEffect_position (side : Side) (r : TensionReading) {s : State} (h : PositionSound s) :
    PositionSound (tensionEffect side r s) := by
  unfold tensionEffect
  (repeat' split) <;> exact h.of_limits (by simp)

theorem tensionRunsOut_position {s : State} (h : PositionSound s) : PositionSound (tensionRunsOut s) := by
  unfold tensionRunsOut
  split <;> exact h.of_limits (by simp)

theorem filmOutEffect_position {s : State} (h : PositionSound s) : PositionSound (filmOutEffect s) := by
  unfold filmOutEffect
  (repeat' split)
  · exact h
  · exact threadingFails_position s
  · unfold rewindEnds; split <;> exact enterEmpty_position _ _
  · exact h
  all_goals exact h.of_limits (by simp)

theorem lensStalls_position {s : State} (h : PositionSound s) : PositionSound (lensStalls s) := by
  unfold lensStalls lensFaults
  split <;> exact h.of_limits (by simp)

theorem OnlyLinks.position {s t : State} (only : OnlyLinks s t) (h : PositionSound s) : PositionSound t := by
  rw [only]
  exact h

theorem settle_position {s : State} (h : PositionSound s) : PositionSound (settle s) :=
  (serviceLinks_only _).position (settleBlocks_position h)

theorem taken_position {test : Bool} {act : State → State} {s : State} (h : PositionSound s)
    (hact : PositionSound s → PositionSound (act s)) : PositionSound (taken test act s) := by
  unfold taken
  split
  · exact settle_position (hact h)
  · exact h

theorem event_position (c : Instr) {s t : State} (event : isMachineEvent c = true) (h : PositionSound s)
    (ht : exec c s = .next t) : PositionSound t := by
  cases c <;> cases event <;> (injection ht with ht; subst ht)
  case capstanCount d => exact taken_position h (capstanMoves_position d)
  case tensionChange side r => exact settle_position (tensionEffect_position side r h)
  case tensionLimitExpiry => exact taken_position h tensionRunsOut_position
  case threadLimitExpiry => exact taken_position h fun _ => threadingFails_position s
  case leaderEdge => exact taken_position h takeLeaderEdge_position
  case tailSeen => exact taken_position h takeTail_position
  case filmPresentClear => exact settle_position (filmOutEffect_position h)
  case stopRise => exact settle_position (PositionSound.of_limits (s := s) h (reportFault_limits _ _))
  case lowEdge => exact taken_position h takeLowEdge_position
  case lensStall => exact taken_position h lensStalls_position
  case cameraReadyRise => exact settle_position h
  case cameraReadyFall => exact h
  case homeSwitchSet => exact taken_position (s := putHomeSwitch true s) h id
  case lensStep leaves =>
    have levels : PositionSound (if leaves then putHomeSwitch false s else s) := by cases leaves <;> exact h
    exact taken_position levels fun k => k.of_still (issueStep_still _)
  case homingLimit => exact taken_position h fun k => k.of_limits (by simp [lensFaults])
  case highEdge => exact h.of_still (by simp)
  case markOn => exact h.of_still (by simp)
  case markOff => exact h.of_still (by simp)
  case spliceOn => exact h.of_still (by simp)
  case spliceOff => exact h.of_still (by simp)
  all_goals exact taken_position h fun k => k.of_limits (by simp)

theorem positionSound_invariant : StepInvariant PositionSound where
  links only h := only.position h
  pins _ _ h := h
  pending _ _ h := h
  reset _ _ := ⟨Nat.zero_le _, nofun, nofun⟩
  fault c _ h := h.of_limits (reportFault_limits c _)
  index _ _ h := h
  capture _ _ h := h
  profile _ _ _ h := h
  placePoint _ _ h := h
  clearMap h := h
  truncateAt n _ h := h.of_still (truncateAt_still n _)
  applyClear h := applyClear_position h
  accept _ _ _ _ h := h.of_limits (by simp)
  cancelWork j _ h := cancelWork_position j h
  freeSlot _ _ h := h
  removeHead h := h.of_still (removeHead_still _)
  settleBlocks h := settleBlocks_position h
  event c _ _ event h ht := event_position c event h ht

end Sys2Proof.Machine

open Sys2Proof.Machine in
/-- Settles O8: every operation that moves the count holds it between 0 and the upper limit, and roll_end is set only at or above it. -/
theorem stepKeepsPosition : Obligations.StepKeepsPosition := by
  unfold Obligations.StepKeepsPosition
  exact fun s t h ht => positionSound_invariant.step h ht

end

section
/-! SUPPORT. A HALTED part drives no film: what the operations that drive the film do while HALTED, and what the others keep (R26, R161). -/

namespace Sys2Proof.Machine

/-! ### The fault record -/

/-- The fault record, in what most operations keep. -/
theorem fault_of_still {s t : State} (h : t.still.base.fault = s.still.base.fault) : t.fault = s.fault := h

@[simp] theorem onTransport_fault (f : Transport → Transport) (s : State) :
    (s.onTransport f).still.base.fault = s.still.base.fault := rfl
@[simp] theorem putPosition_fault (p : Nat) (s : State) : (putPosition p s).still.base.fault = s.still.base.fault := rfl
@[simp] theorem carryPosition_fault (d : Direction) (n : Nat) (s : State) :
    (carryPosition d n s).still.base.fault = s.still.base.fault := by
  unfold carryPosition; dsimp only; (repeat' split) <;> simp
@[simp] theorem trim_fault (d : Int) (s : State) : (trim d s).still.base.fault = s.still.base.fault := by
  unfold trim; (repeat' split) <;> simp
@[simp] theorem capstanMoves_fault (d : Direction) (s : State) : (capstanMoves d s).still.base.fault = s.still.base.fault := by
  unfold capstanMoves; split <;> simp
@[simp] theorem correctPosition_fault (low : Nat) (s : State) :
    (correctPosition low s).still.base.fault = s.still.base.fault := by
  unfold correctPosition; dsimp only; (repeat' split) <;> simp
@[simp] theorem matchEdge_fault (s : State) : (matchEdge s).still.base.fault = s.still.base.fault := by
  unfold matchEdge; dsimp only; (repeat' split) <;> simp
@[simp] theorem takeLowEdge_fault (s : State) : (takeLowEdge s).still.base.fault = s.still.base.fault := by
  unfold takeLowEdge; (repeat' split) <;> simp
@[simp] theorem enterEmpty_fault (unloaded : Bool) (s : State) :
    (enterEmpty unloaded s).still.base.fault = s.still.base.fault := by
  unfold enterEmpty; split <;> simp
@[simp] theorem takeLeaderEdge_fault (s : State) : (takeLeaderEdge s).still.base.fault = s.still.base.fault := by
  unfold takeLeaderEdge; (repeat' split) <;> simp
@[simp] theorem threadingFails_fault (s : State) : (threadingFails s).still.base.fault = s.still.base.fault := by
  simp [threadingFails]
@[simp] theorem rewindEnds_fault (s : State) : (rewindEnds s).still.base.fault = s.still.base.fault := by
  unfold rewindEnds; split <;> simp
@[simp] theorem cancelRollWork_fault (s : State) : (cancelRollWork s).still.base.fault = s.still.base.fault := by
  unfold cancelRollWork; split <;> simp
@[simp] theorem cancelWork_fault (j : Job) (s : State) : (cancelWork j s).still.base.fault = s.still.base.fault := by
  unfold cancelWork; split <;> simp
@[simp] theorem leaveHalt_fault (c : Option Cause) (s : State) : (leaveHalt c s).still.base.fault = s.still.base.fault := by
  unfold leaveHalt; split <;> simp
@[simp] theorem insertJob_fault (l : LinkId) (o : JobOrder) (s : State) :
    (insertJob l o s).still.base.fault = s.still.base.fault := by unfold insertJob; split <;> rfl

/-! ### The transport in single changes -/

@[simp] theorem enterState_transport (st : TransportState) (s : State) :
    (enterState st s).transport = { s.transport with state := st } := by
  unfold enterState
  split
  · next same => rw [← same]
  · rfl

@[simp] theorem putBroken_transport (v : Bool) (s : State) : (putBroken v s).transport = { s.transport with broken := v } := by
  unfold putBroken
  split
  · next same => rw [← same]
  · rfl

@[simp] theorem leaveIndexing_transport (s : State) : (leaveIndexing s).transport = s.transport := by
  unfold leaveIndexing; split <;> rfl
@[simp] theorem setMode_transport (m : TrackerMode) (s : State) : (setMode m s).transport = s.transport := by
  unfold setMode; (repeat' split) <;> simp [newPass]
@[simp] theorem refreshMode_transport (s : State) : (refreshMode s).transport = s.transport := by simp [refreshMode]

@[simp] theorem turnTravel_transport (d : Direction) (s : State) :
    (turnTravel d s).transport = { s.transport with travel := d } := by
  unfold turnTravel
  split
  · next same => rw [← same]
  · next differs => simp [newPass, setTravel, differs]

/-! ### Stopped -/

/-- The transport is HALTED and moves no film, and none of its timers would begin a motion. -/
def Transport.Stopped (t : Transport) : Prop :=
  t.state = .halted ∧ t.drive = none ∧ t.move = none ∧ t.search = none ∧ t.threadLimit = false ∧ t.holdTimer = none

/-- A film that coasts stays stopped. -/
theorem Transport.Stopped.of_coast {t u : Transport} (h : t.Stopped) (hu : u.coast = t.coast) : u.Stopped := by
  obtain ⟨state, drive, move, search, thread, hold⟩ := h
  have moves := congrArg Transport.move hu
  have drives := congrArg Transport.drive hu
  simp only [Transport.coast, move, Option.map_none, Option.map_eq_none_iff] at moves
  simp only [Transport.coast, move, moves, drive, Option.isSome_none, Bool.false_eq_true, if_false, Option.map_none,
    Option.map_eq_none_iff] at drives
  exact ⟨(congrArg Transport.state hu).trans state, drives, moves, (congrArg Transport.search hu).trans search,
    (congrArg Transport.threadLimit hu).trans thread, (congrArg Transport.holdTimer hu).trans hold⟩

theorem HaltSound.of_keeps {s t : State} (h : HaltSound s) (hf : t.still.base.fault = s.still.base.fault) (hc : t.coast = s.coast) :
    HaltSound t := fun halted =>
  Transport.Stopped.of_coast (h (fault_of_still hf ▸ halted)) (congrArg Coast.motion hc)

theorem HaltSound.of_running {s t : State} (h : s.fault.halted = false) (hf : t.still.base.fault = s.still.base.fault) :
    HaltSound t := fun halted => by
  rw [fault_of_still hf, h] at halted
  cases halted

/-- An operation that begins outside HALTED alone, and reports no fault. -/
theorem HaltSound.of_state {s t : State} (h : HaltSound s) (hs : s.transport.state ≠ .halted)
    (hf : t.still.base.fault = s.still.base.fault) : HaltSound t := by
  refine HaltSound.of_running (s := s) ?_ hf
  cases halted : s.fault.halted with
  | false => rfl
  | true => exact absurd (h halted).1 hs

/-! ### The end of a step while HALTED -/

theorem startRollJob_halted {s : State} (h : s.fault.halted = true) : startRollJob s = s := by simp [startRollJob, h]

theorem select_halted {s : State} (h : s.fault.halted = true) : select s = s := by simp [select, maySelect, h]

theorem continueRun_halted {s : State} (h : s.fault.halted = true) : continueRun s = s := by
  unfold continueRun
  split
  · simp [h]
  · rfl

theorem arbitrate_halted {s : State} (h : s.fault.halted = true) : arbitrate s = preemptReadAhead s := by
  have same : (preemptReadAhead s).still.base.fault = s.still.base.fault := by simp
  have still : (preemptReadAhead s).fault.halted = true := (congrArg FaultRecord.halted same).trans h
  rw [arbitrate, continueRun_halted still, select_halted still, select_halted still]

theorem syncHoldTimer_stopped {s : State} (h : s.transport.Stopped) : (syncHoldTimer s).transport.Stopped := by
  obtain ⟨state, drive, move, search, thread, hold⟩ := h
  have : mayRest s = false := by simp [mayRest, state]
  simp [syncHoldTimer, this, hold]
  exact ⟨state, drive, move, search, thread, hold⟩

theorem syncStall_stopped {s : State} (h : s.transport.Stopped) : (syncStall s).transport.Stopped := by
  unfold syncStall
  split <;> exact h

theorem settleBlocks_halt {s : State} (h : HaltSound s) : HaltSound (settleBlocks s) := by
  cases halted : s.fault.halted with
  | false => exact .of_running halted (by simp)
  | true =>
    have same : (serviceCapture (syncReadAhead s)).still.base.fault = s.still.base.fault := by simp
    have before : (serviceCapture (syncReadAhead s)).fault.halted = true := (congrArg FaultRecord.halted same).trans halted
    suffices stopped : (settleBlocks s).transport.Stopped from fun _ => stopped
    unfold settleBlocks
    dsimp only
    rw [startRollJob_halted halted, arbitrate_halted before]
    have coasted : (dropHeads (serviceCapture (syncReadAhead (preemptReadAhead (serviceCapture (syncReadAhead s)))))).coast = s.coast := by
      simp
    have stopped := Transport.Stopped.of_coast (h halted) (congrArg Coast.motion coasted)
    exact syncHoldTimer_stopped (syncStall_stopped (s := syncPersist _) stopped)

/-! ### Faults, the halt and the clear -/

theorem haltTransport_stopped (c : Cause) (s : State) : (haltTransport c s).transport.Stopped := by
  simp [haltTransport, stopWork, Transport.Stopped]

theorem breakFilm_stopped (c : Cause) {s : State} (h : s.transport.Stopped) : (breakFilm c s).transport.Stopped := by
  unfold breakFilm
  split
  · refine Transport.Stopped.of_coast (t := (putBroken true s).transport) ?_ (congrArg Coast.motion (setReference_coast _ _))
    rw [putBroken_transport]
    exact h
  · exact h

theorem applyFate_stopped (c : Cause) {s : State} (h : s.transport.Stopped) : (applyFate c s).transport.Stopped :=
  h.of_coast (congrArg Coast.motion (applyFate_coast c s))

/-- A fault report leaves the part HALTED with the film stopped (R26). -/
theorem reportFault_halt (c : Cause) {s : State} (h : HaltSound s) : HaltSound (reportFault c s) := by
  intro _
  unfold reportFault
  dsimp only
  split
  · next halted =>
    have stopped := h halted
    split
    · refine breakFilm_stopped c ?_
      split
      · exact applyFate_stopped c stopped
      · exact applyFate_stopped c stopped
    · exact stopped
  · exact breakFilm_stopped c (applyFate_stopped c (haltTransport_stopped c _))

theorem cancelWork_halt (j : Job) {s : State} (h : HaltSound s) : HaltSound (cancelWork j s) := by
  cases halted : s.fault.halted with
  | false => exact .of_running halted (by simp)
  | true =>
    have ended : HaltSound (endJob j.number .cancelled .cancelled (dropCaptures j.number (modifyItems j.number (fun is => is.map fun i =>
      if i.outcome = .pending then { i with outcome := .cancelled, inCapture := false } else i) s))) := h.of_keeps (by simp) (by simp)
    unfold cancelWork
    dsimp only
    split
    · generalize endJob _ _ _ _ = u at ended ⊢
      unfold cancelRollWork
      split
      · next at_ => exact ended.of_state (by simp [at_]) (by simp)
      · next at_ => exact ended.of_state (by simp [at_]) (by simp)
      · next at_ => exact ended.of_state (by simp [at_]) (by simp)
      · next at_ => exact ended.of_state (by simp [at_]) (by simp)
      · exact ended
    · exact ended

theorem applyClear_halt (s : State) : HaltSound (applyClear s) := by
  refine HaltSound.of_running (s := raise .fault ((clearCut s).onFault fun _ => FaultRecord.clear)) rfl ?_
  simp [applyClear]

theorem beginJob_halt (n : Nat) (o : JobOrder) {s : State} (h : HaltSound s) : HaltSound (beginJob n o s) := by
  cases halted : s.fault.halted with
  | false => exact .of_running halted (by simp)
  | true =>
    unfold beginJob
    split
    · exact h.of_keeps (by dsimp only; split <;> simp) (by dsimp only; split <;> simp)
    · simpa [halted] using h

/-! ### The rows of the machine side -/

theorem capstanMoves_halt (d : Direction) {s : State} (h : HaltSound s) : HaltSound (capstanMoves d s) := by
  cases halted : s.fault.halted with
  | false => exact .of_running halted (by simp)
  | true =>
    intro _
    obtain ⟨state, drive, move, search, thread, hold⟩ := h halted
    have turned : (searchTravels d (turnTravel d s)).transport.Stopped := by
      simp [searchTravels, Transport.Stopped, state, drive, move, search, thread, hold]
    unfold capstanMoves
    simp only [state, reduceCtorEq, if_false]
    exact turned.of_coast (congrArg Coast.motion (carryPosition_coast d 1 _))

theorem tensionEffect_halt (side : Side) (r : TensionReading) {s : State} (h : HaltSound s) : HaltSound (tensionEffect side r s) := by
  unfold tensionEffect
  split
  · split
    · exact reportFault_halt _ h
    · exact h
  · split
    · next at_ => exact h.of_state (by simp [at_]) (by split <;> simp)
    · next at_ => exact h.of_state (by simp [at_]) (by split <;> simp)
    · exact h

theorem tensionRunsOut_halt {s : State} (h : HaltSound s) (hs : s.transport.state ≠ .halted) : HaltSound (tensionRunsOut s) := by
  unfold tensionRunsOut
  split
  · exact h.of_state hs (by simp)
  · exact reportFault_halt _ h

theorem retargetMove_stopped (e : Nat) {s : State} (h : s.transport.Stopped) : (retargetMove e s).transport.Stopped := by
  have move : s.transport.move = none := h.2.2.1
  simpa [retargetMove, move] using h

theorem takeTail_halt {s : State} (h : HaltSound s) : HaltSound (takeTail s) := by
  cases halted : s.fault.halted with
  | false => exact .of_running halted (by simp)
  | true =>
    intro _
    have stopped : s.transport.Stopped := h halted
    have state : s.transport.state = .halted := stopped.1
    unfold takeTail
    dsimp only
    split
    · split
      · rw [if_neg (by simp [state])]
        exact stopped
      all_goals
        split
        · exact stopped
        · split
          · exact retargetMove_stopped _ (stopped.of_coast (congrArg Coast.motion (setRollEnd_coast _ s)))
          · exact retargetMove_stopped _ stopped
    · exact stopped

theorem filmOutEffect_halt {s : State} (h : HaltSound s) : HaltSound (filmOutEffect s) := by
  unfold filmOutEffect
  split
  · exact h
  · next at_ => exact h.of_state (by simp [at_]) (by simp)
  · next at_ => exact h.of_state (by simp [at_]) (by simp)
  · split
    · exact h
    · exact reportFault_halt _ h
  all_goals exact reportFault_halt _ h

theorem lensFaults_halt {s : State} (h : HaltSound s) : HaltSound (lensFaults s) :=
  reportFault_halt _ (h.of_keeps (by simp) (by simp))

theorem lensStalls_halt {s : State} (h : HaltSound s) : HaltSound (lensStalls s) := by
  unfold lensStalls
  split
  · exact lensFaults_halt h
  · exact h.of_keeps (by simp) (by simp)

theorem OnlyLinks.halt {s t : State} (only : OnlyLinks s t) (h : HaltSound s) : HaltSound t := by
  rw [only]
  exact h

theorem settle_halt {s : State} (h : HaltSound s) : HaltSound (settle s) := (serviceLinks_only _).halt (settleBlocks_halt h)

theorem taken_halt {test : Bool} {act : State → State} {s : State} (h : HaltSound s)
    (hact : test = true → HaltSound s → HaltSound (act s)) : HaltSound (taken test act s) := by
  unfold taken
  split
  · next holds => exact settle_halt (hact holds h)
  · exact h

/-- A row whose test fails on a stopped transport, and that reports no fault. -/
theorem taken_halt_of_stopped {test : Bool} {act : State → State} {s : State} (h : HaltSound s)
    (ht : s.transport.Stopped → test = false) (hf : (act s).still.base.fault = s.still.base.fault) : HaltSound (taken test act s) :=
  taken_halt h fun holds _ => by
    refine HaltSound.of_running (s := s) ?_ hf
    cases halted : s.fault.halted with
    | false => rfl
    | true => exact absurd (ht (h halted)) (by simp [holds])

theorem event_halt (c : Instr) {s t : State} (event : isMachineEvent c = true) (h : HaltSound s) (ht : exec c s = .next t) :
    HaltSound t := by
  cases c <;> cases event <;> (injection ht with ht; subst ht)
  case capstanCount d => exact taken_halt h fun _ => capstanMoves_halt d
  case capstanStall => exact taken_halt h fun _ => reportFault_halt _
  case moveComplete =>
    exact taken_halt_of_stopped h (fun stopped => by simp [stopped.1, TransportState.driven]) (by simp)
  case tensionChange side r => exact settle_halt (tensionEffect_halt (s := putReading side r s) side r h)
  case tensionLimitExpiry => exact taken_halt h fun holds k => tensionRunsOut_halt k fun at_ => by simp [at_] at holds
  case tensionPersistExpiry side => exact taken_halt h fun _ => reportFault_halt _
  case threadLimitExpiry => exact taken_halt_of_stopped h (fun stopped => stopped.2.2.2.2.1) (by simp)
  case holdTimerExpiry => exact taken_halt_of_stopped h (fun stopped => by simp [stopped.2.2.2.2.2]) (by simp)
  case leaderSearchLimit => exact taken_halt_of_stopped h (fun stopped => by simp [searchSpent, stopped.2.2.2.1]) (by simp)
  case leaderEdge => exact taken_halt_of_stopped h (fun stopped => by simp [stopped.2.2.2.1]) (by simp)
  case tailSeen => exact taken_halt h fun _ => takeTail_halt
  case filmPresentClear => exact settle_halt (filmOutEffect_halt (s := filmOut s) h)
  case stopRise => exact settle_halt (reportFault_halt (s := stopIn s) _ h)
  case homeSwitchSet => exact taken_halt (s := putHomeSwitch true s) h fun _ k => k
  case lensStep leaves =>
    have levels : HaltSound (if leaves then putHomeSwitch false s else s) := by cases leaves <;> exact h
    exact taken_halt levels fun _ k => k.of_keeps (by simp) (by simp)
  case homingLimit => exact taken_halt h fun _ => lensFaults_halt
  case lensStall => exact taken_halt h fun _ => lensStalls_halt
  case cameraReadyRise => exact settle_halt h
  case cameraReadyFall => exact h
  case highEdge => exact h.of_keeps (by simp) (by simp)
  case markOn => exact h.of_keeps (by simp) (by simp)
  case markOff => exact h.of_keeps (by simp) (by simp)
  case spliceOn => exact h.of_keeps (by simp) (by simp)
  case spliceOff => exact h.of_keeps (by simp) (by simp)
  all_goals exact taken_halt h fun _ k => k.of_keeps (by simp) (by simp)

theorem haltSound_invariant : StepInvariant HaltSound where
  links only h := only.halt h
  pins _ _ h := h
  pending _ _ h := h
  reset _ _ := nofun
  fault c _ h := reportFault_halt c h
  index _ _ h := h
  capture _ _ h := h
  profile _ _ _ h := h
  placePoint _ _ h := h
  clearMap h := h
  truncateAt n _ h := h.of_keeps (by simp) (by simp)
  applyClear _ := applyClear_halt _
  accept l o _ _ h := beginJob_halt _ o (h.of_keeps (insertJob_fault l o _) (insertJob_coast l o _))
  cancelWork j _ h := cancelWork_halt j h
  freeSlot _ _ h := h
  removeHead h := h.of_keeps (by simp) (by simp)
  settleBlocks h := settleBlocks_halt h
  event c _ _ event h ht := event_halt c event h ht

end Sys2Proof.Machine

open Sys2Proof.Machine in
/-- Settles O9: a first fault stops the film, what drives it is not begun while HALTED, and all else keeps the motion as it is. -/
theorem stepKeepsHalt : Obligations.StepKeepsHalt := by
  unfold Obligations.StepKeepsHalt
  exact fun s t h ht => haltSound_invariant.step h ht

end

section
/-! PROOFS. Reset values, the profile's check, and counts of the capstan. -/

namespace Sys2Proof.Machine

/-! ### Reset (R1, R158) -/

theorem exec_powerOnReset_released {lv : Levels} (h : lv.stop = false) (s : State) :
    exec (.powerOnReset lv) s = .next (State.powered lv s) := by simp [exec, execPowerOnReset, h]

theorem powered_link (lv : Levels) (s : State) (l : LinkId) : (State.powered lv s).link l = LinkUnit.afterReset := by
  cases l <;> rfl

/-! ### The position count (R4) -/

/-- A count carried forward stops at the upper limit; one above it stays. -/
theorem carryPosition_forward_position (n : Nat) (s : State) :
    (carryPosition .forward n s).still.base.position =
      if s.transport.position + n ≤ s.transport.upperLimit then s.transport.position + n
      else max s.transport.position s.transport.upperLimit := by
  unfold carryPosition
  dsimp only
  generalize (if s.transport.position + n ≤ s.transport.upperLimit then s.transport.position + n
    else max s.transport.position s.transport.upperLimit) = p
  split <;> (simp; rfl)

/-- A count carried in reverse stops at 0. -/
theorem carryPosition_reverse_position (n : Nat) (s : State) :
    (carryPosition .reverse n s).still.base.position = s.transport.position - n := by
  unfold carryPosition
  dsimp only
  split <;> (simp; rfl)

/-- What a capstan count leaves before it is carried: the limits as they were. -/
theorem beforeCount_still (d : Direction) (s : State) : (searchTravels d (turnTravel d s)).still = s.still := by simp

theorem capstanMoves_taken {s : State} (h : s.transport.state ≠ .empty) (d : Direction) :
    capstanMoves d s = carryPosition d 1 (searchTravels d (turnTravel d s)) := by simp [capstanMoves, h]

theorem exec_capstanCount_taken {s : State} (h : s.transport.state ≠ .empty) (d : Direction) :
    exec (.capstanCount d) s = .next (settle (capstanMoves d s)) := by simp [exec, execCapstanCount, taken, h]

/-- A count forward: one up, held at the upper limit. -/
theorem capstanMoves_forward_position {s : State} (h : s.transport.state ≠ .empty)
    (le : s.transport.position ≤ s.transport.upperLimit) :
    (capstanMoves .forward s).still.base.position = min (s.transport.position + 1) s.transport.upperLimit := by
  have position := congrArg (fun x => x.base.position) (beforeCount_still .forward s)
  have rollEnd := congrArg Still.rollEnd (beforeCount_still .forward s)
  simp only [State.still] at position rollEnd
  rw [capstanMoves_taken h, carryPosition_forward_position]
  simp only [Transport.upperLimit, position, rollEnd] at le ⊢
  split <;> omega

/-- A count in reverse: one down, held at 0. -/
theorem capstanMoves_reverse_position {s : State} (h : s.transport.state ≠ .empty) :
    (capstanMoves .reverse s).still.base.position = s.transport.position - 1 := by
  have position := congrArg (fun x => x.base.position) (beforeCount_still .reverse s)
  rw [capstanMoves_taken h, carryPosition_reverse_position]
  exact congrArg (· - 1) position

/-- What settling keeps of the transport: the profile and the position. -/
theorem settle_position_eq (s : State) : (settle s).transport.position = s.transport.position :=
  congrArg Base.position (settle_base s)

theorem settle_fault_eq (s : State) : (settle s).fault = s.fault := congrArg Base.fault (settle_base s)

theorem settle_profile_eq (s : State) : (settle s).transport.profile = s.transport.profile :=
  congrArg (fun x => x.core.profile) (settle_base s)

end Sys2Proof.Machine

open Sys2Proof Sys2Proof.Machine

/-- Settles O3: with STOP released the row leaves every block at its after-reset values. -/
theorem resetValues : Obligations.ResetValues := by
  unfold Obligations.ResetValues
  intro lv s released
  refine ⟨_, exec_powerOnReset_released released s, ?_⟩
  simp only [powered_link]
  simp [State.powered, State.afterReset, Transport.afterReset, Tracker.fresh, Index.fresh, Focus.afterReset, Capture.afterReset,
    Arbiter.afterReset, Jobs.afterReset, FaultRecord.clear, LinkUnit.afterReset]

/-- Settles O25: the Boolean check is the conjunction of the ranges; the bounds it adds follow from the others or from the width of the
field. -/
theorem profileRanges : Obligations.ProfileRanges := by
  unfold Obligations.ProfileRanges
  intro r
  have batch := r.startBatch.isLt
  have document := r.startDocument.isLt
  have page := r.startPage.isLt
  have floor := r.metricFloor.isLt
  have passes : checkProfile r = some (profileOf r) ↔
      (r.readAhead = 0 ∨ r.readAhead = 1) ∧ (profileOf r).valid = true := by
    simp [checkProfile]
  have flag : (r.readAhead = 0 ∨ r.readAhead = 1) ↔ (r.readAhead.toNat = 0 ∨ r.readAhead.toNat = 1) := by
    simp [← BitVec.toNat_inj]
  rw [passes, flag]
  simp only [Profile.valid, within, Bool.and_eq_true, Bool.or_eq_true, beq_iff_eq, decide_eq_true_eq]
  simp only [profileOf, Config.maxStep]
  constructor <;> intro checks <;> and_intros <;> omega

/-- Settles O35: the count is carried by one, held at 0 and at the upper limit; what follows in the step moves it no more. -/
theorem capstanCounts : Obligations.CapstanCounts := by
  unfold Obligations.CapstanCounts
  refine fun s => ⟨fun empty d => by simp [exec, execCapstanCount, taken, empty], fun taken le => ?_⟩
  have kept (d : Direction) : (settle (capstanMoves d s)).fault = s.fault ∧
      (settle (capstanMoves d s)).transport.profile = s.transport.profile := by
    rw [settle_fault_eq, settle_profile_eq]
    exact ⟨capstanMoves_fault d s, congrArg Fixed.profile (capstanMoves_core d s)⟩
  constructor
  · exact ⟨_, exec_capstanCount_taken taken .forward, (kept _).1, (kept _).2,
      (settle_position_eq _).trans (capstanMoves_forward_position taken le)⟩
  · exact ⟨_, exec_capstanCount_taken taken .reverse, (kept _).1, (kept _).2,
      (settle_position_eq _).trans (capstanMoves_reverse_position taken)⟩

end

section
/-! SUPPORT. A request taken at a link unit at rest: the frame is placed, taken and answered within the row (R174 to R176). -/

namespace Sys2Proof.Machine

theorem State.onLink_onLink (l : LinkId) (f g : LinkUnit → LinkUnit) (s : State) :
    (s.onLink l f).onLink l g = s.onLink l (g ∘ f) := by cases l <;> rfl

theorem State.onLink_self {l : LinkId} {f : LinkUnit → LinkUnit} {s : State} (h : f (s.link l) = s.link l) : s.onLink l f = s := by
  cases l <;> simp_all [State.onLink, Links.modify, State.link, Links.get]

/-- A frame that comes to a unit at rest is answered on the state as it stands: receiver and input buffer are as they were. -/
theorem frameArrives_listens {l : LinkId} {body : List Byte} {s : State} (h : Listens l s) (hlen : 2 ≤ body.length ∧ body.length ≤ 250) :
    frameArrives l body s = answerFrame l body s := by
  obtain ⟨receiver, buffer, slot⟩ := h
  have restored : (s.onLink l fun u => { u with receiver := .hunt, inputBuffer := u.inputBuffer ++ [body] }).onLink l
      (fun u => { u with inputBuffer := [] }) = s := by
    rw [State.onLink_onLink]
    refine State.onLink_self ?_
    generalize s.link l = u at receiver buffer slot
    cases u
    simp_all
  simp [frameArrives, receiver, hlen, placeFrame, buffer, Config.bufferFrames, takeFrame, slot, restored]

/-- A request whose body reads back to an order is performed on the state as it stands, and answered (R176). -/
theorem requestArrives_listens {l : LinkId} {tag : Byte} {r : Request} {o : Order} {s : State} (h : Listens l s)
    (hlen : (r.body tag).length ≤ 250) (hkind : requestKinds.contains r.kind = true) (hread : readRequest (r.body tag) = some (tag, o)) :
    requestArrives l tag r s =
      replied l (replyKind r.kind) tag (perform l o s).result (perform l o s).data (perform l o s).state := by
  have answered : answerFrame l (r.body tag) s =
      buildReply l (replyKind r.kind) tag (perform l o s).result (perform l o s).data (perform l o s).state := by
    unfold Request.body at hread ⊢
    simp only [answerFrame, hkind, hread, Bool.not_true, Bool.false_eq_true, if_false]
  rw [requestArrives, frameArrives_listens h ⟨by simp [Request.body], hlen⟩, answered, replied]

/-- SET_PROFILE's frame reads back to its record. -/
theorem readRequest_setProfile (tag : Byte) (r : ProfileRecord) :
    readRequest ((Request.setProfile r).body tag) = some (tag, .setProfile r) := by
  have record := getProfileRecord_put r []
  rw [List.append_nil] at record
  simp [readRequest, Request.body, Request.kind, Request.params, readBody, readParams, whole, record, checkRequest]

theorem exec_setProfile {l : LinkId} {s : State} (h : Listens l s) (tag : Byte) (r : ProfileRecord) :
    exec (.setProfile l tag r) s =
      .next (replied l 0x83 tag (setProfile r s).result (setProfile r s).data (setProfile r s).state) := by
  have kind : replyKind (Request.setProfile r).kind = 0x83 := rfl
  have known : requestKinds.contains (Request.setProfile r).kind = true := by rw [Request.kind]; decide
  have arrives := requestArrives_listens h (r := .setProfile r) (by simp [Request.body, Request.params]) known
    (readRequest_setProfile tag r)
  rw [kind] at arrives
  simpa only [exec, execSetProfile, perform] using congrArg Host.Outcome.next arrives

end Sys2Proof.Machine

open Sys2Proof Sys2Proof.Machine

/-- Settles O24: the request's one operation, by index state, check and whether the record repeats the profile in force. -/
theorem profileSet : Obligations.ProfileSet := by
  unfold Obligations.ProfileSet
  intro l tag r s listens
  rw [exec_setProfile listens]
  refine ⟨fun filled => ?_, fun empty fails => ?_, fun p empty passes differs => ?_, fun empty repeats => ?_⟩
  · simp [setProfile, refuse, filled]
  · simp [setProfile, refuse, empty, fails]
  · simp [setProfile, empty, passes, differs, State.onTransport, State.onTracker]
  · simp [setProfile, empty, repeats]

end

section
/-! PROOFS. What no row of the machine side touches. -/

namespace Sys2Proof.Machine

/-- What a row of the machine side leaves of the profile, the job table's numbers, the fault record, the position count and the link
units. -/
structure EventFrame (c : Instr) (s t : State) : Prop where
  profile  : t.transport.profile = s.transport.profile
  numbers  : jobNumbers t = jobNumbers s
  counter  : t.jobs.counter = s.jobs.counter
  fault    : mayFault c = false → t.fault = s.fault
  position : mayMovePosition c = false → t.transport.position = s.transport.position
  links    : t.links.kept = s.links.kept

namespace EventFrame
variable {c : Instr} {s t : State}

theorem refl (c : Instr) (s : State) : EventFrame c s s := ⟨rfl, rfl, rfl, fun _ => rfl, fun _ => rfl, rfl⟩

theorem of_keeps (core : t.still.base.core = s.still.base.core) (links : t.coast.links = s.coast.links)
    (fault : mayFault c = false → t.still.base.fault = s.still.base.fault)
    (position : mayMovePosition c = false → t.still.base.position = s.still.base.position) : EventFrame c s t :=
  ⟨congrArg Fixed.profile core, congrArg Fixed.numbers core, congrArg Fixed.counter core, fault, position, links⟩

theorem of_still (still : t.still = s.still) (links : t.coast.links = s.coast.links) : EventFrame c s t :=
  of_keeps (by rw [still]) links (fun _ => by rw [still]) fun _ => by rw [still]

theorem settle (h : EventFrame c s t) : EventFrame c s (settle t) := by
  have base := settle_base t
  exact ⟨(congrArg (fun x => x.core.profile) base).trans h.profile, (congrArg (fun x => x.core.numbers) base).trans h.numbers,
    (congrArg (fun x => x.core.counter) base).trans h.counter, fun k => (congrArg Base.fault base).trans (h.fault k),
    fun k => (congrArg Base.position base).trans (h.position k), (settle_links t).trans h.links⟩

theorem taken {test : Bool} {act : State → State} (h : EventFrame c s (act s)) : EventFrame c s (taken test act s) := by
  unfold Machine.taken
  split
  · exact h.settle
  · exact refl c s

/-- The row's report changes the input levels first, and the capture's handshake with them. -/
theorem after {s' : State} (transport : s'.transport = s.transport) (jobs : s'.jobs = s.jobs) (fault : s'.fault = s.fault)
    (links : s'.links = s.links) (h : EventFrame c s' t) : EventFrame c s t := by
  obtain ⟨profile, numbers, counter, faults, position, kept⟩ := h
  simp only [jobNumbers, transport, jobs, fault, links] at *
  exact ⟨profile, numbers, counter, faults, position, kept⟩

end EventFrame

/-! ### The position count where a fault is reported -/

@[simp] theorem reportFault_position (c : Cause) (s : State) :
    (reportFault c s).still.base.position = s.still.base.position := congrArg Limits.position (reportFault_limits c s)
@[simp] theorem lensFaults_position (s : State) : (lensFaults s).still.base.position = s.still.base.position := by
  simp [lensFaults]
@[simp] theorem lensStalls_base_position (s : State) : (lensStalls s).still.base.position = s.still.base.position := by
  unfold lensStalls; split <;> simp
@[simp] theorem tensionRunsOut_base_position (s : State) :
    (tensionRunsOut s).still.base.position = s.still.base.position := by
  unfold tensionRunsOut; split <;> simp
@[simp] theorem tensionEffect_base_position (side : Side) (r : TensionReading) (s : State) :
    (tensionEffect side r s).still.base.position = s.still.base.position := by
  unfold tensionEffect; (repeat' split) <;> simp

/-- The unit that keeps all but its pending flags, JOB_DONE queue and transmitter. -/
theorem LinkUnit.of_kept {u v : LinkUnit} (h : u.kept = v.kept) :
    u = { v with flags := u.flags, jobDone := u.jobDone, transmitter := u.transmitter } := by
  cases u
  cases v
  simp_all [LinkUnit.kept]

theorem Links.get_kept {x y : Links} (h : x.kept = y.kept) (l : LinkId) : (x.get l).kept = (y.get l).kept := by
  cases l
  · exact congrArg Links.a h
  · exact congrArg Links.b h
  · exact congrArg Links.c h

/-- Every row of the machine side has its frame: a detector may report a fault, a row that counts or empties may move the position, and
no row does more. -/
theorem event_frame (c : Instr) (s : State) (event : isMachineEvent c = true) : ∃ t, exec c s = .next t ∧ EventFrame c s t := by
  cases c <;> cases event <;> refine ⟨_, rfl, ?_⟩
  case capstanCount d => exact .taken (.of_keeps (by simp) (by simp) (fun _ => by simp) nofun)
  case leaderEdge => exact .taken (.of_keeps (by simp) (by simp) (fun _ => by simp) nofun)
  case lowEdge => exact .taken (.of_keeps (by simp) (by simp) (fun _ => by simp) nofun)
  case threadLimitExpiry => exact .taken (.of_keeps (by simp) (by simp) (fun _ => by simp) nofun)
  case filmPresentClear =>
    exact .settle (.after (s' := filmOut s) rfl rfl rfl rfl (.of_keeps (by simp) (by simp) nofun nofun))
  case stopRise =>
    exact .settle (.after (s' := stopIn s) rfl rfl rfl rfl (.of_keeps (by simp) (by simp) nofun fun _ => by simp))
  case tensionChange side r =>
    exact .settle (.after (s' := putReading side r s) rfl rfl rfl rfl (.of_keeps (by simp) (by simp) nofun fun _ => by simp))
  case capstanStall => exact .taken (.of_keeps (by simp) (by simp) nofun fun _ => by simp)
  case tensionLimitExpiry => exact .taken (.of_keeps (by simp) (by simp) nofun fun _ => by simp)
  case tensionPersistExpiry side => exact .taken (.of_keeps (by simp) (by simp) nofun fun _ => by simp)
  case homingLimit => exact .taken (.of_keeps (by simp) (by simp) nofun fun _ => by simp)
  case lensStall => exact .taken (.of_keeps (by simp) (by simp) nofun fun _ => by simp)
  case trialWaitExpiry => exact .taken (.of_keeps (by simp) (by simp) (fun _ => by simp) fun _ => by simp)
  case tailSeen => exact .taken (.of_keeps (by simp) (by simp) (fun _ => by simp) fun _ => by simp)
  case homeSwitchSet =>
    exact .after (s' := putHomeSwitch true s) rfl rfl rfl rfl (.taken (.of_still (by simp) (by simp)))
  case lensStep leaves =>
    cases leaves with
    | false => exact .taken (.of_still (by simp) (by simp))
    | true => exact .after (s' := putHomeSwitch false s) rfl rfl rfl rfl (.taken (.of_still (by simp) (by simp)))
  case cameraReadyRise => exact .settle (.after (s' := readyRises s) rfl rfl rfl rfl (.refl _ _))
  case cameraReadyFall => exact .after (s' := refreshHandshake (putCameraReady false s)) rfl rfl rfl rfl (.refl _ _)
  case highEdge => exact .of_still (by simp) (by simp)
  case markOn => exact .of_still (by simp) (by simp)
  case markOff => exact .of_still (by simp) (by simp)
  case spliceOn => exact .of_still (by simp) (by simp)
  case spliceOff => exact .of_still (by simp) (by simp)
  all_goals exact .taken (.of_still (by simp) (by simp))

end Sys2Proof.Machine

open Sys2Proof Sys2Proof.Machine

/-- Settles O10: each row's frame, the link units read off what the operations keep of them. -/
theorem machineEventsFrame : Obligations.MachineEventsFrame := by
  unfold Obligations.MachineEventsFrame
  intro c s event
  obtain ⟨t, ht, frame⟩ := event_frame c s event
  exact ⟨t, ht, frame.profile, frame.numbers, frame.counter, frame.fault, frame.position,
    fun l => LinkUnit.of_kept (Links.get_kept frame.links l)⟩

end

section
/-! PROOFS. The hold timer, and TAIL_SEEN. -/

namespace Sys2Proof.Machine

/-- A row that is taken settles what its event leaves. -/
theorem Settles.of_taken {c : Instr} {s : State} {test : Bool} {act : State → State} {P : State → Prop}
    (hc : exec c s = .next (taken test act s)) (ht : test = true) (hP : P (act s)) : Settles c s P :=
  ⟨act s, by rw [hc, taken, if_pos ht], hP⟩

/-- A row that is taken and whose event leaves the state as it was is settled alone. -/
theorem exec_taken_same {c : Instr} {s : State} {test : Bool} {act : State → State} (hc : exec c s = .next (taken test act s))
    (ht : test = true) (ha : act s = s) : exec c s = .next (settle s) := by rw [hc, taken, if_pos ht, ha]

/-- A row whose test fails has no effect. -/
theorem exec_taken_none {c : Instr} {s : State} {test : Bool} {act : State → State} (hc : exec c s = .next (taken test act s))
    (ht : test = false) : exec c s = .next s := by simp [hc, taken, ht]

/-! ### Reference quality -/

@[simp] theorem putReference_transport (r : Reference) (s : State) :
    (putReference r s).transport = { s.transport with reference := r } := by
  unfold putReference
  split
  · next same => rw [← same]
  · rfl

@[simp] theorem abandonSearch_transport (s : State) : (abandonSearch s).transport = s.transport := by
  unfold abandonSearch; split <;> rfl

/-- A quality other than LOST changes the reference and no more of the transport. -/
theorem setReference_transport {r : Reference} (hr : r ≠ .lost) (s : State) :
    (setReference r s).transport = { s.transport with reference := r } := by
  unfold setReference
  split
  · next same => rw [← same]
  · have told : ((if s.transport.reference = .exact then abandonSearch else id) (putReference r s)).transport =
        { s.transport with reference := r } := by split <;> simp
    cases r with
    | lost => exact absurd rfl hr
    | exact => exact told
    | drifted => exact told

/-- EXACT drifts, and with the tracker not INDEXING nothing asks for more. -/
theorem driftReference_transport {s : State} (h : s.tracker.mode ≠ .indexing) :
    (driftReference s).transport =
      { s.transport with reference := if s.transport.reference = .exact then .drifted else s.transport.reference } := by
  unfold driftReference
  split
  · next exact_ => simp [h, setReference_transport]
  · rfl

/-! ### Roll end and tail limit (R14) -/

theorem setRollEnd_ends (e : Nat) (s : State) :
    (setRollEnd e s).transport.rollEnd = some e ∧ (setRollEnd e s).transport.tailLimit = none ∧
      (setRollEnd e s).transport.position = s.transport.position := by
  have limits := setRollEnd_limits e s
  exact ⟨congrArg Limits.rollEnd limits, congrArg Limits.tailLimit limits, congrArg Limits.position limits⟩

/-- What a retarget keeps: the limits and the fault record. -/
theorem retargetMove_keeps (e : Nat) (s : State) :
    (retargetMove e s).still = s.still ∧ (retargetMove e s).fault = s.fault :=
  ⟨retargetMove_still e s, fault_of_still (by simp)⟩

theorem retargetMove_onlyTransport (e : Nat) (s : State) : OnlyTransport s (retargetMove e s) := by
  unfold retargetMove
  (repeat' split) <;> rfl

/-- A move whose target lies above the end value is retargeted to it. -/
theorem retargetMove_above {e : Nat} {m : MoveRecord} {s : State} (hm : s.transport.move = some m) (hp : m.purpose ≠ .reference)
    (above : e < m.target) : (retargetMove e s).transport.move = some { m with target := e, retargeted := true } := by
  simp [retargetMove, hm, hp, above]

theorem retargetMove_below {e : Nat} {m : MoveRecord} {s : State} (hm : s.transport.move = some m) (below : m.target ≤ e) :
    retargetMove e s = s := by
  simp [retargetMove, hm, Nat.not_lt.mpr below]

/-- With the reference known, no end value at or below the new one and the count above it, tail_limit takes the new one. -/
theorem takeTail_limit {e : Nat} {s : State} (taken : tailTaken s = true) (known : s.transport.reference ≠ .lost)
    (position : s.transport.position = e + 1000) (rollEnd : s.transport.rollEnd = none) (tailLimit : s.transport.tailLimit = none) :
    takeTail s = retargetMove e (s.onTransport fun t => { t with tailLimit := some e }) := by
  unfold takeTail
  cases hr : s.transport.reference with
  | lost => exact absurd hr known
  | exact => simp [taken, hr, rollEnd, tailLimit, position, Config.tailOffset]
  | drifted => simp [taken, hr, rollEnd, tailLimit, position, Config.tailOffset]

/-- At position 0 the end value is 0, and roll_end takes it at once (log 23). -/
theorem takeTail_zero {s : State} (taken : tailTaken s = true) (known : s.transport.reference ≠ .lost)
    (position : s.transport.position = 0) (rollEnd : s.transport.rollEnd ≠ some 0) (tailLimit : s.transport.tailLimit ≠ some 0) :
    takeTail s = retargetMove 0 (setRollEnd 0 s) := by
  have noEnd (o : Option Nat) (h : o ≠ some 0) : (o.any fun r => decide (r ≤ 0)) = false := by
    cases o with
    | none => rfl
    | some r => simp at h ⊢; omega
  unfold takeTail
  cases hr : s.transport.reference with
  | lost => exact absurd hr known
  | exact => simp only [taken, hr, position, noEnd _ rollEnd, noEnd _ tailLimit, Nat.zero_sub]; simp
  | drifted => simp only [taken, hr, position, noEnd _ rollEnd, noEnd _ tailLimit, Nat.zero_sub]; simp

/-- An end value at or below the new one discards the report. -/
theorem takeTail_discarded {s : State} (known : s.transport.reference ≠ .lost) {r : Nat}
    (held : s.transport.rollEnd = some r ∨ s.transport.tailLimit = some r) (le : r ≤ s.transport.position - 1000) :
    takeTail s = s := by
  unfold takeTail
  dsimp only
  split
  · cases hr : s.transport.reference with
    | lost => exact absurd hr known
    | exact => rcases held with h | h <;> simp [h, Config.tailOffset, le]
    | drifted => rcases held with h | h <;> simp [h, Config.tailOffset, le]
  · rfl

/-- With the reference LOST a forward move is retargeted to the position. -/
theorem takeTail_lost {m : MoveRecord} {s : State} (moving : s.transport.state = .moving ∨ s.transport.state = .referencing)
    (lost : s.transport.reference = .lost) (forward : s.transport.travel = .forward) (hm : s.transport.move = some m) :
    takeTail s = s.onTransport fun t => { t with move := some { m with target := t.position, retargeted := true } } := by
  have taken : tailTaken s = true := by rcases moving with h | h <;> simp [tailTaken, h]
  simp [takeTail, taken, lost, forward, moving, State.onTransport, hm]

/-- A count that comes to the tail limit makes it the roll's end. -/
theorem capstanMoves_reverse_tail {e : Nat} {s : State} (taken : s.transport.state ≠ .empty) (tail : s.transport.tailLimit = some e)
    (position : s.transport.position = e + 1) :
    (capstanMoves .reverse s).transport.rollEnd = some e ∧ (capstanMoves .reverse s).transport.tailLimit = none := by
  have before := beforeCount_still .reverse s
  have at_ : (searchTravels .reverse (turnTravel .reverse s)).transport.position = e + 1 :=
    (congrArg (fun x => x.base.position) before).trans position
  have limit : (searchTravels .reverse (turnTravel .reverse s)).transport.tailLimit = some e :=
    (congrArg Still.tailLimit before).trans tail
  rw [capstanMoves_taken taken]
  generalize searchTravels .reverse (turnTravel .reverse s) = u at at_ limit
  have carried : carryPosition .reverse 1 u = trackerMoved (e + 1) .reverse (setRollEnd e (putPosition e u)) := by
    simp [carryPosition, at_, positionMoved, putPosition, tailTest, limit]
  rw [carried]
  have still := trackerMoved_still (e + 1) .reverse (setRollEnd e (putPosition e u))
  have ends := setRollEnd_ends e (putPosition e u)
  exact ⟨(congrArg Still.rollEnd still).trans ends.1, (congrArg Still.tailLimit still).trans ends.2.1⟩

end Sys2Proof.Machine

open Sys2Proof Sys2Proof.Machine

/-- Settles O41: the timer runs, so the reels go slack, RESTING is entered, and EXACT drifts. -/
theorem holdTimerRests : Obligations.HoldTimerRests := by
  unfold Obligations.HoldTimerRests
  intro s timer ready idle
  have rests : (rest s).transport = { s.transport with
      state := .resting, tension := .slack, holdTimer := none,
      reference := if s.transport.reference = .exact then .drifted else s.transport.reference } := by
    unfold rest
    have enters : (enterState .resting ((slacken s).onTransport fun t => { t with holdTimer := none })).tracker = s.tracker := by
      unfold enterState; split <;> rfl
    rw [driftReference_transport (by rwa [enters]), enterState_transport]
    rfl
  refine .of_taken rfl (Option.isSome_iff_ne_none.mpr timer) ?_
  have fault : (rest s).fault = s.fault := fault_of_still (by simp)
  simp [rests, fault]

/-- Settles O43: the report by reference quality and by the end values present, and the count that comes to the tail limit. -/
theorem tailSeenLimits : Obligations.TailSeenLimits := by
  unfold Obligations.TailSeenLimits
  refine fun e s => ⟨fun m hm => ⟨fun moving purpose known position rollEnd tailLimit => ?_, fun moving lost forward => ?_⟩,
    fun elsewhere => ?_, fun notEmpty notThreading notRewinding known => ⟨fun ⟨r, held, le⟩ => ?_, fun zero rollEnd tailLimit => ?_⟩,
    fun notEmpty tail position => ?_⟩
  · have taken : tailTaken s = true := by simp [tailTaken, moving]
    refine .of_taken rfl taken ?_
    rw [takeTail_limit taken known position rollEnd tailLimit]
    have kept := (retargetMove_keeps e (s.onTransport fun t => { t with tailLimit := some e })).1
    refine ⟨congrArg Still.tailLimit kept, (congrArg Still.rollEnd kept).trans rollEnd, fun above => retargetMove_above hm purpose above,
      fun below => ?_, ?_, congrArg (fun x => x.base.position) kept⟩
    · rw [retargetMove_below (s := s.onTransport fun t => { t with tailLimit := some e }) hm below]
      exact hm
    · exact (retargetMove_onlyTransport e _).trans rfl
  · have taken : tailTaken s = true := by rcases moving with h | h <;> simp [tailTaken, h]
    refine .of_taken rfl taken ?_
    rw [takeTail_lost moving lost forward hm]
    exact ⟨rfl, rfl, rfl, rfl⟩
  · exact exec_taken_none rfl (by rcases elsewhere with h | h | h <;> simp [tailTaken, h])
  · exact exec_taken_same rfl (by simp [tailTaken, notEmpty, notThreading, notRewinding]) (takeTail_discarded known held le)
  · have taken : tailTaken s = true := by simp [tailTaken, notEmpty, notThreading, notRewinding]
    refine .of_taken rfl taken ?_
    rw [takeTail_zero taken known zero rollEnd tailLimit]
    have kept := retargetMove_keeps 0 (setRollEnd 0 s)
    have ends := setRollEnd_ends 0 s
    exact ⟨(congrArg Still.rollEnd kept.1).trans ends.1, (congrArg Still.tailLimit kept.1).trans ends.2.1,
      (congrArg (fun x => x.base.position) kept.1).trans (ends.2.2.trans zero), kept.2.trans (fault_of_still (by simp))⟩
  · have ends := capstanMoves_reverse_tail notEmpty tail position
    refine ⟨_, exec_capstanCount_taken notEmpty .reverse, ends.1, ends.2, ?_, capstanMoves_fault .reverse s⟩
    have := capstanMoves_reverse_position notEmpty
    rw [position] at this
    exact this

end

section
/-! SUPPORT. What jobs and the arbiter may ask of the motion in flight: that it is stopped, or nothing. A REFERENCE motion is not asked even
that. -/

namespace Sys2Proof.Machine

/-- The transport with the move in flight, if there is one, asked to stop (R9). -/
def Transport.stopped (t : Transport) : Transport :=
  match t.move with
  | none => t
  | some m => { t with move := some { m with stopping := true }, drive := none, stallLimit := false }

theorem Transport.stopped_of_none {t : Transport} (h : t.move = none) : t.stopped = t := by simp [Transport.stopped, h]

@[simp] theorem Transport.stopped_stopped (t : Transport) : t.stopped.stopped = t.stopped := by
  cases h : t.move <;> simp [Transport.stopped, h]

/-- No motion is current but the transport's own REFERENCE. -/
def State.ReferenceOnly (s : State) : Prop := ∀ c, s.arbiter.current = some c → c.requester = .transport ∧ c.kind = .reference

/-- From one state to the other the motion in flight was asked to stop at most, and a REFERENCE motion not even that; no other motion
became current. -/
structure Asks (s t : State) : Prop where
  transport : t.transport = s.transport ∨ t.transport = s.transport.stopped ∧ ¬ s.ReferenceOnly
  current   : ∀ c, t.arbiter.current = some c → ∃ c0, s.arbiter.current = some c0 ∧ c.requester = c0.requester ∧ c.kind = c0.kind

namespace Asks
variable {s t u : State}

theorem refl (s : State) : Asks s s := ⟨.inl rfl, fun c h => ⟨c, h, rfl, rfl⟩⟩

/-- Changes of the other blocks ask nothing. -/
theorem of_eq (ht : t.transport = s.transport) (hc : t.arbiter.current = s.arbiter.current) : Asks s t :=
  ⟨.inl ht, fun c h => ⟨c, hc ▸ h, rfl, rfl⟩⟩

theorem referenceOnly (h : Asks s t) (hs : s.ReferenceOnly) : t.ReferenceOnly := fun c hc => by
  obtain ⟨c0, h0, requester, kind⟩ := h.current c hc
  rw [requester, kind]
  exact hs c0 h0

theorem trans (h : Asks s t) (k : Asks t u) : Asks s u where
  current c hc := by
    obtain ⟨c1, h1, requester1, kind1⟩ := k.current c hc
    obtain ⟨c0, h0, requester0, kind0⟩ := h.current c1 h1
    exact ⟨c0, h0, requester1.trans requester0, kind1.trans kind0⟩
  transport := by
    rcases k.transport with same | ⟨stopped, asked⟩
    · rw [same]
      exact h.transport
    · refine .inr ⟨?_, fun only => asked (h.referenceOnly only)⟩
      rcases h.transport with same | ⟨stopped', _⟩
      · rw [stopped, same]
      · rw [stopped, stopped', Transport.stopped_stopped]

/-- With no move in flight nothing of the transport changes. -/
theorem transport_eq (h : Asks s t) (none_moves : s.transport.move = none) : t.transport = s.transport := by
  rcases h.transport with same | ⟨stopped, _⟩
  · exact same
  · rw [stopped, Transport.stopped_of_none none_moves]

/-- A REFERENCE motion goes on as it is. -/
theorem transport_eq_of_reference (h : Asks s t) (only : s.ReferenceOnly) : t.transport = s.transport := by
  rcases h.transport with same | ⟨_, asked⟩
  · exact same
  · exact absurd only asked

theorem current_none (h : Asks s t) (none_current : s.arbiter.current = none) : t.arbiter.current = none := by
  cases hc : t.arbiter.current with
  | none => rfl
  | some c =>
    obtain ⟨c0, h0, _⟩ := h.current c hc
    simp [none_current] at h0

/-- Drives that run are the drives that ran. -/
theorem drive (h : Asks s t) {d : Drive} (hd : t.transport.drive = some d) : s.transport.drive = some d := by
  rcases h.transport with same | ⟨stopped, _⟩
  · rw [← same, hd]
  · rw [stopped] at hd
    unfold Transport.stopped at hd
    split at hd
    · exact hd
    · cases hd

theorem foldl {α : Type} {f : State → α → State} (h : ∀ s a, Asks s (f s a)) (xs : List α) (s : State) : Asks s (xs.foldl f s) := by
  induction xs generalizing s with
  | nil => exact refl s
  | cons x xs ih => exact (h s x).trans (ih _)

end Asks

/-! ### Stops -/

/-- A stop request stops the move in flight, or finds none to stop. -/
theorem stopMove_transport (s : State) : (stopMove s).transport = s.transport ∨ (stopMove s).transport = s.transport.stopped := by
  unfold stopMove
  split
  · exact .inl rfl
  · next m hm =>
    split
    · exact .inr (by simp [driveOff, Transport.stopped, hm])
    · exact .inl rfl

@[simp] theorem disarmRun_transport (c : Current) (s : State) : (disarmRun c s).transport = s.transport := by
  unfold disarmRun; split <;> rfl

/-- A motion other than the transport's REFERENCE is stopped for a cause. -/
theorem stopCurrent_asks {c : Current} {s : State} (hc : s.arbiter.current = some c) (other : c.requester ≠ .transport ∨ c.kind ≠ .reference)
    (why : StopCause) : Asks s (stopMove (disarmRun c (s.onArbiter fun a => { a with current := some { c with stop := some why } }))) where
  transport := by
    have asked : ¬ s.ReferenceOnly := fun only => by
      obtain ⟨requester, kind⟩ := only c hc
      rcases other with h | h
      · exact h requester
      · exact h kind
    have stops := stopMove_transport (disarmRun c (s.onArbiter fun a => { a with current := some { c with stop := some why } }))
    rw [disarmRun_transport, State.onArbiter_transport] at stops
    rcases stops with same | stopped
    · exact .inl same
    · exact .inr ⟨stopped, asked⟩
  current x hx := by
    rw [stopMove_arbiter, disarmRun_arbiter] at hx
    cases hx
    exact ⟨c, hc, rfl, rfl⟩

theorem askStop_asks (why : StopCause) {s : State} (other : ∀ c, s.arbiter.current = some c → c.requester ≠ .transport ∨ c.kind ≠ .reference) :
    Asks s (askStop why s) := by
  unfold askStop
  split
  · exact .refl s
  · next c hc =>
    split
    · exact .refl s
    · cases hstop : c.stop with
      | none => simpa [hstop] using stopCurrent_asks hc (other c hc) why
      | some first => simpa [hstop] using stopCurrent_asks hc (other c hc) first

theorem clearCurrent_asks (s : State) : Asks s (clearCurrent s) where
  transport := .inl rfl
  current c hc := by cases hc

theorem dropCurrent_asks {s : State} (other : ∀ c, s.arbiter.current = some c → c.requester ≠ .transport ∨ c.kind ≠ .reference) :
    Asks s (dropCurrent s) := by
  unfold dropCurrent
  split
  · exact .refl s
  · next c hc =>
    split
    · exact clearCurrent_asks s
    · exact stopCurrent_asks hc (other c hc) .withdrawn

/-! ### Entries -/

theorem dropInterrupted_current (a : Arbiter) : a.dropInterrupted.current = a.current := by
  unfold Arbiter.dropInterrupted; split <;> rfl

theorem place_current (e : QEntry) (a : Arbiter) : (a.place e).current = a.current := by
  unfold Arbiter.place; dsimp only; split <;> rfl

/-- A requester other than the transport withdraws its entry. -/
theorem withdraw_asks {r : Requester} (hr : r ≠ .transport) (s : State) : Asks s (withdraw r s) := by
  have removed : Asks s (s.onArbiter fun a => if a.interrupted = some r then (a.remove r).dropInterrupted else a.remove r) :=
    .of_eq rfl (by
      rw [State.onArbiter_arbiter]
      split
      · exact dropInterrupted_current _
      · rfl)
  unfold withdraw
  dsimp only
  split
  · next own =>
    refine removed.trans (dropCurrent_asks fun c hc => .inl ?_)
    rw [hc] at own
    simp only [Option.any_some, beq_iff_eq] at own
    rwa [own]
  · exact removed

theorem suspendTest_asks (s : State) : Asks s (suspendTest s) := by
  unfold suspendTest
  split
  · exact .refl s
  · next c hc =>
    split
    · next run => exact askStop_asks _ fun x hx => by rw [hc] at hx; cases hx; exact .inr (by simp [run.1])
    · exact .refl s

theorem yieldTest_asks (s : State) : Asks s (yieldTest s) := by
  unfold yieldTest
  split
  · exact .refl s
  · next c hc =>
    split
    · next run => exact askStop_asks _ fun x hx => by rw [hc] at hx; cases hx; exact .inr (by simp [run.1])
    · exact .refl s

theorem submit_asks (r : Requester) (cls : QClass) (k : QKind) (frame : Option Nat) (s : State) : Asks s (submit r cls k frame s) := by
  unfold submit
  dsimp only
  split
  · refine Asks.trans ?_ (yieldTest_asks _)
    have placed (e : QEntry) : Asks s (s.onArbiter fun a => a.place e) := .of_eq rfl (place_current _ _)
    split
    · exact (placed _).trans (suspendTest_asks _)
    · exact placed _
  · refine Asks.trans ?_ (yieldTest_asks _)
    refine Asks.trans (.of_eq (t := s.onArbiter fun a => a.modifyEntry r fun e =>
      { e with cls := cls, kind := k, frame := frame, start := startPosition r k frame s }) rfl rfl) ?_
    split
    · next c hc =>
      split
      · next index =>
        split
        · exact clearCurrent_asks _
        · exact askStop_asks _ fun x hx => by rw [hc] at hx; cases hx; exact .inr (by simp [index.2.1])
      · exact .refl _
    · exact .refl _

theorem submitJob_asks (n : Nat) (k : QKind) (frame : Option Nat) (s : State) : Asks s (submitJob n k frame s) := by
  unfold submitJob
  split
  · exact .refl s
  · exact submit_asks _ _ _ _ s

theorem ensureIndex_asks (n : Nat) (s : State) : Asks s (ensureIndex n s) := by
  unfold ensureIndex
  split
  · exact .refl s
  · exact submitJob_asks n _ _ s

/-! ### Jobs -/

theorem modifyJob_asks (n : Nat) (f : Job → Job) (s : State) : Asks s (modifyJob n f s) := .of_eq rfl rfl
theorem modifySweep_asks (n : Nat) (f : SweepRec → SweepRec) (s : State) : Asks s (modifySweep n f s) := .of_eq rfl rfl
theorem modifyItems_asks (n : Nat) (f : List Item → List Item) (s : State) : Asks s (modifyItems n f s) := .of_eq rfl rfl
theorem setJobState_asks (n : Nat) (st : JobState) (s : State) : Asks s (setJobState n st s) := .of_eq rfl rfl

theorem endJob_asks (n : Nat) (st : JobState) (why : EndReason) (s : State) : Asks s (endJob n st why s) := by
  unfold endJob
  split
  · exact .refl s
  · next j hj =>
    dsimp only
    have withdrawn : Asks s (discardRevisit n (withdraw (.job n) (modifyJob n (fun j =>
        { j with state := st, endReason := why, waitClear := false, body := closeBody s j.body }) s))) :=
      (modifyJob_asks n _ s).trans ((withdraw_asks (by simp) _).trans (.of_eq rfl rfl))
    split
    · exact withdrawn.trans (.of_eq rfl rfl)
    · exact withdrawn.trans (.of_eq rfl rfl)

theorem fetchChoose_asks (n : Nat) (s : State) : Asks s (fetchChoose n s) := by
  unfold fetchChoose
  (repeat' split)
  · exact (modifyItems_asks n _ s).trans ((setJobState_asks n _ _).trans (submitJob_asks n _ _ _))
  · exact (setJobState_asks n _ s).trans (ensureIndex_asks n _)
  · exact endJob_asks n _ _ s
  · exact .refl s

theorem seekTry_asks (n : Nat) (final : Bool) (s : State) : Asks s (seekTry n final s) := by
  unfold seekTry
  (repeat' split)
  · exact (modifyJob_asks n _ s).trans (submitJob_asks n _ _ _)
  · exact (setJobState_asks n _ s).trans (ensureIndex_asks n _)
  · exact endJob_asks n _ _ s
  · exact .refl s

theorem indexToTry_asks (n : Nat) (final : Bool) (s : State) : Asks s (indexToTry n final s) := by
  unfold indexToTry
  (repeat' split)
  · exact endJob_asks n _ _ s
  · exact endJob_asks n _ _ s
  · exact endJob_asks n _ _ s
  · exact (setJobState_asks n _ s).trans (ensureIndex_asks n _)
  · exact (modifyJob_asks n _ s).trans (endJob_asks n _ _ _)
  · exact endJob_asks n _ _ s
  · exact (setJobState_asks n _ s).trans (ensureIndex_asks n _)
  · exact .refl s

theorem sweepTry_asks (n : Nat) (final : Bool) (s : State) : Asks s (sweepTry n final s) := by
  unfold sweepTry
  split
  · next r _ =>
    split
    · exact .refl s
    · dsimp only
      have bounds (f : SweepRec → SweepRec) : Asks s (modifySweep n f s) := modifySweep_asks n f s
      (repeat' split)
      · exact (bounds _).trans (endJob_asks n _ _ _)
      · exact (bounds _).trans (endJob_asks n _ _ _)
      · exact (bounds _).trans (endJob_asks n _ _ _)
      · exact (bounds _).trans ((modifySweep_asks n _ _).trans ((setJobState_asks n _ _).trans (submitJob_asks n _ _ _)))
      · exact (bounds _).trans ((setJobState_asks n _ _).trans (ensureIndex_asks n _))
  · exact .refl s

theorem retryJob_asks (final : Bool) (n : Nat) (s : State) : Asks s (retryJob final n s) := by
  unfold retryJob
  (repeat' split)
  · exact .refl s
  · exact .refl s
  · exact seekTry_asks n final s
  · exact (modifyItems_asks n _ s).trans (fetchChoose_asks n _)
  · exact modifyItems_asks n _ s
  · exact sweepTry_asks n final s
  · exact indexToTry_asks n final s
  · exact .refl s
  · exact .refl s

theorem retryJobs_asks (s : State) : Asks s (retryJobs s) := .foldl (fun s n => retryJob_asks false n s) _ s

theorem releaseFrames_asks (n : Nat) (s : State) : Asks s (releaseFrames n s) := by
  unfold releaseFrames
  split
  · exact .refl s
  · split
    · exact .refl s
    · exact (modifyJob_asks n _ s).trans (submitJob_asks n _ _ _)

theorem releaseAll_asks (s : State) : Asks s (releaseAll s) := .foldl (fun s n => releaseFrames_asks n s) _ s

/-! ### The index -/

theorem setIndexState_asks (st : IndexState) (s : State) : Asks s (setIndexState st s) := by
  unfold setIndexState
  split
  · exact .refl s
  · exact Asks.trans (.of_eq (t := raise .indexProgress (s.onIndex fun ix => { ix with state := st })) rfl rfl) (retryJobs_asks _)

theorem completeTest_asks (s : State) : Asks s (completeTest s) := by
  unfold completeTest
  (repeat' split)
  · exact setIndexState_asks _ s
  · exact .refl s
  · exact .refl s

theorem raiseFrontier_asks (p : Nat) (s : State) : Asks s (raiseFrontier p s) := by
  unfold raiseFrontier
  split
  · refine Asks.trans (.of_eq (t := s.onIndex fun ix => { ix with frontier := p }) rfl rfl) (Asks.trans ?_ (completeTest_asks _))
    split
    · exact setIndexState_asks _ _
    · exact .refl _
  · exact .refl s

end Sys2Proof.Machine
end

section
/-! SUPPORT. The transport after the reference is lost, after the contents are cleared, and in EMPTY. -/

namespace Sys2Proof.Machine

/-! ### The reference lost with no move in flight (R5) -/

theorem withdrawRescan_asks (s : State) : Asks s (withdrawRescan s) := by
  unfold withdrawRescan
  split
  · exact .refl s
  · refine Asks.trans (.of_eq (t := s.onTracker fun t => { t with rescan := none }) rfl rfl) ?_
    exact (withdraw_asks (by simp) _).trans (.of_eq rfl (dropInterrupted_current _))

theorem askReference_asks (s : State) : Asks s (askReference s) := by
  unfold askReference
  split
  · dsimp only
    refine (withdrawRescan_asks s).trans ?_
    split
    · exact .of_eq rfl rfl
    · exact (submit_asks _ _ _ _ _).trans (.of_eq rfl rfl)
  · exact .refl s

theorem stopForLoss_idle {s : State} (h : s.transport.move = none) : stopForLoss s = s := by simp [stopForLoss, h]

theorem setMode_arbiter (m : TrackerMode) (s : State) : (setMode m s).arbiter = s.arbiter := by
  unfold setMode leaveIndexing
  (repeat' split) <;> rfl

theorem setMode_asks (m : TrackerMode) (s : State) : Asks s (setMode m s) :=
  .of_eq (setMode_transport m s) (by rw [setMode_arbiter])

theorem loseReference_asks {s : State} (h : s.transport.move = none) : Asks s (loseReference s) := by
  have told : Asks s (disarm ((withdrawRescan (setMode .idle s)).onTracker fun t =>
      { t with openMark := none, openSplice := none, unmatchedRun := 0 })) :=
    (setMode_asks _ s).trans ((withdrawRescan_asks _).trans (.of_eq rfl rfl))
  have still : (disarm ((withdrawRescan (setMode .idle s)).onTracker fun t =>
      { t with openMark := none, openSplice := none, unmatchedRun := 0 })).transport.move = none := by
    rw [told.transport_eq h, h]
  unfold loseReference
  dsimp only
  rw [stopForLoss_idle still]
  split
  · exact told
  · exact told.trans (askReference_asks _)

/-- With no move in flight a change of the reference is all that becomes of the transport. -/
theorem setReference_idle_transport (r : Reference) {s : State} (h : s.transport.move = none) :
    (setReference r s).transport = { s.transport with reference := r } := by
  by_cases hr : r = .lost
  · subst hr
    have told : ((if s.transport.reference = .exact then abandonSearch else id) (putReference .lost s)).transport =
        { s.transport with reference := .lost } := by split <;> simp
    unfold setReference
    split
    · next same => rw [← same]
    · exact ((loseReference_asks (by rw [told]; exact h)).transport_eq (by rw [told]; exact h)).trans told
  · exact setReference_transport hr s

/-! ### Contents cleared with no move in flight (R15, R20) -/

theorem dropCurrent_idle {s : State} (h : s.transport.move = none) : (dropCurrent s).transport = s.transport := by
  unfold dropCurrent
  split
  · rfl
  · simp [h, clearCurrent]

theorem withdraw_idle (r : Requester) {s : State} (h : s.transport.move = none) : (withdraw r s).transport = s.transport := by
  unfold withdraw
  dsimp only
  split
  · exact dropCurrent_idle h
  · rfl

@[simp] theorem clearSequencer_transport (s : State) : (clearSequencer s).transport = s.transport := by
  unfold clearSequencer
  dsimp only
  split
  · rfl
  · simp [release, setCaptureHold, disarm, slewClear]

@[simp] theorem trimLastMiss_transport (s : State) : (trimLastMiss s).transport = s.transport := rfl

@[simp] theorem emptyIndex_transport (s : State) : (emptyIndex s).transport = s.transport := by
  unfold emptyIndex
  dsimp only
  split <;> rfl

@[simp] theorem putRollEnd_transport (e : Option Nat) (s : State) :
    (putRollEnd e s).transport = { s.transport with rollEnd := e } := by
  unfold putRollEnd
  split
  · next same => rw [← same]
  · rfl

@[simp] theorem putLeaderMissing_transport (v : Bool) (s : State) :
    (putLeaderMissing v s).transport = { s.transport with leaderMissing := v } := by
  unfold putLeaderMissing
  split
  · next same => rw [← same]
  · rfl

theorem clearInternal_idle {s : State} (h : s.transport.move = none) : (clearInternal s).transport = s.transport := by
  have first := withdraw_idle .transport h
  have second := withdraw_idle .tracker (first ▸ h : (withdraw .transport s).transport.move = none)
  have third := withdraw_idle .arbiter (s := withdraw .tracker (withdraw .transport s)) (by rw [second, first, h])
  exact third.trans (second.trans first)

theorem clearContents_transport {s : State} (h : s.transport.move = none) : (clearContents s).transport =
    { s.transport with rollEnd := none, broken := false, leaderMissing := false, tailLimit := none } := by
  simp [clearContents, clearInternal_idle h]

/-! ### EMPTY (R20) -/

/-- The transport in EMPTY: of the roll before it keeps the profile, the direction of travel, and the mark of a halt. -/
def Transport.emptied (t : Transport) : Transport where
  state          := .empty
  reference      := .lost
  position       := 0
  absorbed       := 0
  rollEnd        := none
  tailLimit      := none
  broken         := false
  leaderMissing  := false
  profile        := t.profile
  tension        := .slack
  holdTimer      := none
  move           := none
  drive          := none
  travel         := t.travel
  search         := none
  roll           := none
  cancelling     := false
  tensionLimit   := false
  threadLimit    := false
  stallLimit     := false
  persistSupply  := false
  persistTakeUp  := false
  haltedEmpty    := t.haltedEmpty

@[simp] theorem Transport.stopped_emptied (t : Transport) : t.stopped.emptied = t.emptied := by
  unfold Transport.stopped
  split <;> rfl

theorem loseRoll_asks (n : Nat) (s : State) : Asks s (loseRoll n s) := by
  unfold loseRoll
  (repeat' split)
  · exact .refl s
  · exact .refl s
  · exact endJob_asks n _ _ s
  · exact .refl s
  · exact endJob_asks n _ _ s

theorem Asks.emptied {s t : State} (h : Asks s t) : t.transport.emptied = s.transport.emptied := by
  rcases h.transport with same | ⟨stopped, _⟩
  · rw [same]
  · rw [stopped, Transport.stopped_emptied]

/-- The work that the entry to EMPTY ends, before the contents are cleared. -/
def workEnded (s : State) : State := setReference .lost (enterState .empty (slacken (stopWork (clearCurrent s))))

theorem workEnded_transport (s : State) : (workEnded s).transport =
    { s.transport.emptied with position := s.transport.position, absorbed := s.transport.absorbed, rollEnd := s.transport.rollEnd,
                               tailLimit := s.transport.tailLimit, broken := s.transport.broken,
                               leaderMissing := s.transport.leaderMissing } := by
  unfold workEnded
  rw [setReference_idle_transport .lost (by rw [enterState_transport]; rfl), enterState_transport]
  rfl

/-- The contents of EMPTY, before jobs give up their frames. -/
def contentsEmptied (s : State) : State :=
  emptyTracker (clearContents ((workEnded s).onTransport fun t => { t with position := 0, absorbed := 0 }))

theorem contentsEmptied_transport (s : State) : (contentsEmptied s).transport = s.transport.emptied := by
  have idle : ((workEnded s).onTransport fun t => { t with position := 0, absorbed := 0 }).transport.move = none := by
    rw [State.onTransport_transport, workEnded_transport]
    rfl
  refine (clearContents_transport idle).trans ?_
  rw [State.onTransport_transport, workEnded_transport]
  rfl

theorem enterEmpty_true (s : State) : enterEmpty true s = releaseAll (contentsEmptied s) := by
  simp [enterEmpty, contentsEmptied, workEnded]

theorem enterEmpty_false (s : State) :
    enterEmpty false s = contentsEmptied ((jobNumbers s).foldl (fun acc n => loseRoll n acc) s) := by
  simp [enterEmpty, contentsEmptied, workEnded]

/-- The transport enters EMPTY: every drive, limit and mark of the roll has gone. -/
theorem enterEmpty_transport (unloaded : Bool) (s : State) : (enterEmpty unloaded s).transport = s.transport.emptied := by
  cases unloaded with
  | true =>
    rw [enterEmpty_true, (releaseAll_asks _).transport_eq (by rw [contentsEmptied_transport]; rfl), contentsEmptied_transport]
  | false =>
    rw [enterEmpty_false, contentsEmptied_transport]
    exact (Asks.foldl (fun s n => loseRoll_asks n s) _ s).emptied

theorem endRollJob_asks (st : JobState) (why : EndReason) (s : State) : Asks s (endRollJob st why s) := by
  unfold endRollJob
  split
  · exact endJob_asks _ _ _ s
  · exact .refl s

/-! ### The tracker and the index while jobs ask for motions -/

/-- The tracker and the index. -/
def State.film (s : State) : Tracker × Index := (s.tracker, s.index)

@[simp] theorem onTransport_film (f : Transport → Transport) (s : State) : (s.onTransport f).film = s.film := rfl
@[simp] theorem onFocus_film (f : Focus → Focus) (s : State) : (s.onFocus f).film = s.film := rfl
@[simp] theorem onCapture_film (f : Capture → Capture) (s : State) : (s.onCapture f).film = s.film := rfl
@[simp] theorem onArbiter_film (f : Arbiter → Arbiter) (s : State) : (s.onArbiter f).film = s.film := rfl
@[simp] theorem modifyJob_film (n : Nat) (f : Job → Job) (s : State) : (modifyJob n f s).film = s.film := rfl
@[simp] theorem raise_film (k : NoticeKind) (s : State) : (raise k s).film = s.film := rfl
@[simp] theorem driveOff_film (s : State) : (driveOff s).film = s.film := rfl
@[simp] theorem stopMove_film (s : State) : (stopMove s).film = s.film := by unfold stopMove; (repeat' split) <;> simp
@[simp] theorem disarmRun_film (c : Current) (s : State) : (disarmRun c s).film = s.film := by unfold disarmRun; split <;> rfl
@[simp] theorem clearCurrent_film (s : State) : (clearCurrent s).film = s.film := rfl
@[simp] theorem askStop_film (why : StopCause) (s : State) : (askStop why s).film = s.film := by
  unfold askStop; (repeat' split) <;> simp
@[simp] theorem suspendTest_film (s : State) : (suspendTest s).film = s.film := by unfold suspendTest; (repeat' split) <;> simp
@[simp] theorem yieldTest_film (s : State) : (yieldTest s).film = s.film := by unfold yieldTest; (repeat' split) <;> simp
@[simp] theorem submit_film (r : Requester) (cls : QClass) (k : QKind) (frame : Option Nat) (s : State) :
    (submit r cls k frame s).film = s.film := by
  unfold submit; dsimp only; (repeat' split) <;> simp
@[simp] theorem submitJob_film (n : Nat) (k : QKind) (frame : Option Nat) (s : State) : (submitJob n k frame s).film = s.film := by
  unfold submitJob; split <;> simp
@[simp] theorem releaseFrames_film (n : Nat) (s : State) : (releaseFrames n s).film = s.film := by
  unfold releaseFrames; (repeat' split) <;> simp
@[simp] theorem releaseAll_film (s : State) : (releaseAll s).film = s.film :=
  foldl_keeps State.film (fun s n => releaseFrames_film n s) _ s
@[simp] theorem putRollEnd_film (e : Option Nat) (s : State) : (putRollEnd e s).film = s.film := by
  unfold putRollEnd; split <;> simp
@[simp] theorem putBroken_film (v : Bool) (s : State) : (putBroken v s).film = s.film := by unfold putBroken; split <;> simp
@[simp] theorem putLeaderMissing_film (v : Bool) (s : State) : (putLeaderMissing v s).film = s.film := by
  unfold putLeaderMissing; split <;> simp

theorem emptyIndex_index (s : State) : (emptyIndex s).index = Index.fresh := by
  unfold emptyIndex
  dsimp only
  split <;> rfl

theorem clearContents_index (s : State) : (clearContents s).index = Index.fresh := by
  have put (u : State) : ((putLeaderMissing false (putBroken false (putRollEnd none u))).onTransport fun t =>
      { t with tailLimit := none }).film = u.film := by simp
  exact (congrArg Prod.snd (put _)).trans (emptyIndex_index _)

/-- EMPTY by an UNLOAD: the index is empty, and so are the splice table and the focus map (R27, R60, R73). -/
theorem enterEmpty_true_contents (s : State) : (enterEmpty true s).index = Index.fresh ∧ (enterEmpty true s).tracker.splices = [] ∧
    (enterEmpty true s).focus.map = [] := by
  rw [enterEmpty_true]
  have film := releaseAll_film (contentsEmptied s)
  have map := congrArg Still.map (releaseAll_still (contentsEmptied s))
  refine ⟨(congrArg Prod.snd film).trans (clearContents_index _), congrArg (fun x => x.1.splices) film, map.trans ?_⟩
  unfold contentsEmptied clearContents
  generalize emptyIndex _ = u
  have put (u : State) : (emptyTracker ((putLeaderMissing false (putBroken false (putRollEnd none u))).onTransport fun t =>
      { t with tailLimit := none })).focus = u.focus := by
    have roll : (putRollEnd none u).focus = u.focus := by unfold putRollEnd; split <;> rfl
    have broken (v : State) : (putBroken false v).focus = v.focus := by unfold putBroken; split <;> rfl
    have leader (v : State) : (putLeaderMissing false v).focus = v.focus := by unfold putLeaderMissing; split <;> rfl
    exact (leader _).trans ((broken _).trans roll)
  exact congrArg Focus.map (put _)

/-! ### Which requesters wait in the queue (R116, R117) -/

/-- The requesters of the queue. -/
def Arbiter.requesters (a : Arbiter) : List Requester := a.queue.map (·.requester)

theorem Arbiter.requesters_modifyEntry (a : Arbiter) (r : Requester) (f : QEntry → QEntry) (hf : ∀ e, (f e).requester = e.requester) :
    (a.modifyEntry r f).requesters = a.requesters := by
  simp only [Arbiter.requesters, Arbiter.modifyEntry, List.map_map]
  refine List.map_congr_left fun e _ => ?_
  by_cases h : e.requester = r <;> simp [h, hf]

theorem Arbiter.requesters_place (e : QEntry) (a : Arbiter) : (a.place e).requesters = a.requesters ++ [e.requester] := by
  unfold Arbiter.place Arbiter.requesters
  dsimp only
  split <;> simp [renumber, Function.comp_def]

/-- A submission brings in its own requester at most. -/
theorem submit_requesters (r : Requester) (cls : QClass) (k : QKind) (frame : Option Nat) (s : State) (x : Requester)
    (h : x ∈ (submit r cls k frame s).arbiter.requesters) : x = r ∨ x ∈ s.arbiter.requesters := by
  unfold submit at h
  dsimp only at h
  split at h
  · have placed : ∀ (e : QEntry), e.requester = r →
        x ∈ ((if cls = .urgent then suspendTest (s.onArbiter fun a => a.place e)
          else s.onArbiter fun a => a.place e)).arbiter.requesters → x = r ∨ x ∈ s.arbiter.requesters := by
      intro e he hx
      have queue : ((if cls = .urgent then suspendTest (s.onArbiter fun a => a.place e)
          else s.onArbiter fun a => a.place e)).arbiter.queue = (s.arbiter.place e).queue := by split <;> simp
      rw [Arbiter.requesters, queue, ← Arbiter.requesters, Arbiter.requesters_place, he, List.mem_append, List.mem_singleton] at hx
      exact hx.symm
    refine placed { requester := r, cls := cls, kind := k, frame := frame, start := startPosition r k frame s, arrival := 0, skip := 0,
                    resume := false } rfl ?_
    rwa [Arbiter.requesters, yieldTest_queue, ← Arbiter.requesters] at h
  · right
    have moved := Arbiter.requesters_modifyEntry s.arbiter r
      (fun e => { e with cls := cls, kind := k, frame := frame, start := startPosition r k frame s }) fun _ => rfl
    rw [← moved]
    rw [Arbiter.requesters, yieldTest_queue] at h
    rw [Arbiter.requesters]
    refine (congrArg (fun q : List QEntry => x ∈ q.map (·.requester)) ?_).mp h
    (repeat' split) <;> simp

theorem releaseFrames_requesters (n : Nat) (s : State) (x : Requester) (h : x ∈ (releaseFrames n s).arbiter.requesters) :
    (∃ m, x = .job m) ∨ x ∈ s.arbiter.requesters := by
  unfold releaseFrames at h
  split at h
  · exact .inr h
  · split at h
    · exact .inr h
    · dsimp only [submitJob] at h
      split at h
      · exact .inr h
      · exact (submit_requesters _ _ _ _ _ x h).imp (fun h => ⟨n, h⟩) id

theorem releaseAll_requesters (s : State) (x : Requester) (h : x ∈ (releaseAll s).arbiter.requesters) :
    (∃ m, x = .job m) ∨ x ∈ s.arbiter.requesters := by
  unfold releaseAll at h
  generalize jobNumbers s = ns at h
  induction ns generalizing s with
  | nil => exact .inr h
  | cons n ns ih =>
    rcases ih _ h with job | held
    · exact .inl job
    · exact releaseFrames_requesters n s x held

theorem dropCurrent_queue (s : State) : (dropCurrent s).arbiter.queue = s.arbiter.queue := by
  unfold dropCurrent
  (repeat' split) <;> simp

theorem dropInterrupted_queue (a : Arbiter) : a.dropInterrupted.queue = a.queue := by
  unfold Arbiter.dropInterrupted; split <;> rfl

/-- A withdrawal takes the requester's entry off the queue, and no other. -/
theorem withdraw_queue (r : Requester) (s : State) :
    (withdraw r s).arbiter.queue = s.arbiter.queue.filter fun e => e.requester != r := by
  have removed : (s.onArbiter fun a => if a.interrupted = some r then (a.remove r).dropInterrupted else a.remove r).arbiter.queue =
      s.arbiter.queue.filter fun e => e.requester != r := by
    rw [State.onArbiter_arbiter]
    split
    · rw [dropInterrupted_queue]; rfl
    · rfl
  unfold withdraw
  dsimp only
  split
  · rw [dropCurrent_queue]; exact removed
  · exact removed

theorem clearInternal_queue (s : State) : ∀ e ∈ (clearInternal s).arbiter.queue,
    e.requester ≠ .transport ∧ e.requester ≠ .tracker ∧ e.requester ≠ .arbiter := by
  have queue : (clearInternal s).arbiter.queue =
      (withdraw .arbiter (withdraw .tracker (withdraw .transport s))).arbiter.queue := dropInterrupted_queue _
  rw [queue, withdraw_queue, withdraw_queue, withdraw_queue]
  simp only [List.mem_filter, bne_iff_ne]
  exact fun e ⟨⟨⟨_, transport⟩, tracker⟩, arbiter⟩ => ⟨transport, tracker, arbiter⟩

theorem clearContents_queue (s : State) : (clearContents s).arbiter.queue = (clearInternal s).arbiter.queue := by
  have sequencer (u : State) : (clearSequencer u).arbiter.queue = u.arbiter.queue := by
    unfold clearSequencer abandonSearch
    dsimp only
    (repeat' split) <;> rfl
  have index (u : State) : (emptyIndex u).arbiter = u.arbiter := by unfold emptyIndex; dsimp only; split <;> rfl
  have roll (u : State) : (putRollEnd none u).arbiter = u.arbiter := by unfold putRollEnd; split <;> rfl
  have broken (u : State) : (putBroken false u).arbiter = u.arbiter := by unfold putBroken; split <;> rfl
  have leader (u : State) : (putLeaderMissing false u).arbiter = u.arbiter := by unfold putLeaderMissing; split <;> rfl
  simp [clearContents, leader, broken, roll, index, sequencer]

/-- EMPTY by an UNLOAD leaves the jobs' entries alone in the queue. -/
theorem enterEmpty_true_queue (s : State) : ∀ e ∈ (enterEmpty true s).arbiter.queue,
    e.requester ≠ .transport ∧ e.requester ≠ .tracker ∧ e.requester ≠ .arbiter := by
  intro e he
  rcases releaseAll_requesters (contentsEmptied s) e.requester (List.mem_map_of_mem he) with ⟨m, job⟩ | held
  · simp [job]
  · obtain ⟨e', he', same⟩ := List.mem_map.mp held
    rw [← same]
    exact clearInternal_queue _ e' (clearContents_queue _ ▸ he')

end Sys2Proof.Machine

open Sys2Proof Sys2Proof.Machine

/-- Settles O44: the UNLOAD ends, and the entry to EMPTY clears the roll. -/
theorem rewindEmpties : Obligations.RewindEmpties := by
  unfold Obligations.RewindEmpties
  intro s rewinding unload
  have effect : filmOutEffect (filmOut s) = enterEmpty true (endRollJob .done .none (filmOut s)) := by
    simp [filmOutEffect, rewindEnds, filmOut, rewinding, unload]
  refine ⟨filmOutEffect (filmOut s), rfl, ?_⟩
  rw [effect]
  have core := (enterEmpty_core true (endRollJob .done .none (filmOut s))).trans
    (congrArg (fun x => x.base.core) (endRollJob_still .done .none (filmOut s)))
  have fault : (enterEmpty true (endRollJob .done .none (filmOut s))).fault = s.fault :=
    fault_of_still (s := filmOut s) (by simp)
  have contents := enterEmpty_true_contents (endRollJob .done .none (filmOut s))
  obtain ⟨index, splices, map⟩ := contents
  have profile := congrArg Fixed.profile core
  have pins := congrArg (fun x => x.given.pins) core
  have levels : (enterEmpty true (endRollJob .done .none (filmOut s))).pins.levels.filmPresent = false :=
    congrArg (fun p => p.levels.filmPresent) pins
  have queue := enterEmpty_true_queue (endRollJob .done .none (filmOut s))
  have transport := enterEmpty_transport true (endRollJob .done .none (filmOut s))
  generalize enterEmpty true (endRollJob .done .none (filmOut s)) = u at *
  have profiles : u.transport.profile = s.transport.profile := profile
  refine ⟨?_, ?_, ?_, ?_, ?_, ?_, ?_, ?_, ?_, profiles, congrArg Index.entries index, congrArg Index.frontier index,
    congrArg Index.state index, splices, map, queue, levels, fault⟩
  all_goals rw [transport]; rfl

end

section
/-! PROOFS. LEADER_EDGE and the end of a leader search. -/

namespace Sys2Proof.Machine

/-! ### The tail limit as the position count is put at 0 -/

/-- The test of the tail limit changes roll end and limit alone, and what the index then asks of the jobs. -/
theorem tailTest_asks (s : State) : ∃ v, Asks v (tailTest s) ∧ v.arbiter = s.arbiter ∧
    v.transport = { s.transport with rollEnd := v.transport.rollEnd, tailLimit := v.transport.tailLimit } := by
  unfold tailTest
  split
  · next e _ =>
    split
    · refine ⟨(putRollEnd (some e) s).onTransport fun t => { t with tailLimit := none }, completeTest_asks _, ?_, by simp⟩
      unfold putRollEnd
      split <;> rfl
    · exact ⟨s, .refl s, rfl, rfl⟩
  · exact ⟨s, .refl s, rfl, rfl⟩

/-- With no drive on the test leaves position, drive and search as they were, and a REFERENCE motion as it is. -/
theorem tailTest_stopped {s : State} (h : s.transport.drive = none) :
    (tailTest s).transport.position = s.transport.position ∧ (tailTest s).transport.drive = none ∧
      (tailTest s).transport.search = s.transport.search ∧ (s.ReferenceOnly → (tailTest s).transport.move = s.transport.move) := by
  obtain ⟨v, asks, arbiter, transport⟩ := tailTest_asks s
  have search : (tailTest s).transport.search = v.transport.search := by
    rcases asks.transport with same | ⟨stopped, _⟩
    · rw [same]
    · rw [stopped]; unfold Transport.stopped; split <;> rfl
  refine ⟨congrArg Base.position (tailTest_base s), ?_, by rw [search, transport], fun only => ?_⟩
  · cases hd : (tailTest s).transport.drive with
    | none => rfl
    | some d =>
      have ran := asks.drive hd
      rw [transport] at ran
      exact absurd ran (by simp [h])
  · rw [asks.transport_eq_of_reference fun c hc => only c (arbiter ▸ hc), transport]

/-! ### The search under way -/

/-- No move of the search is being stopped, and none was retargeted. -/
theorem search_undisturbed {s : State} (h : ∀ m, s.transport.move = some m → m.stopping = false ∧ m.retargeted = false) :
    stoppingMove s = false ∧ retargetedMove s = false := by
  unfold stoppingMove retargetedMove
  cases hm : s.transport.move with
  | none => exact ⟨rfl, rfl⟩
  | some m => simpa using h m hm

/-- The forward search at the leader edge, the film braked and the position count put at 0. -/
def leaderPassed (s : State) : State :=
  driveOff ((searchPhase .arriving s).onTransport fun t => { t with position := 0, absorbed := 0 })

theorem takeLeaderEdge_forward {r : LeaderSearch} {s : State} (search : s.transport.search = some r)
    (free : ∀ m, s.transport.move = some m → m.stopping = false ∧ m.retargeted = false) (phase : r.phase = .forward)
    (travel : s.transport.travel = .forward) :
    takeLeaderEdge s = raise .rollState (setReference .exact (tailTest (leaderPassed s))) := by
  simp [takeLeaderEdge, leaderPassed, search, search_undisturbed free, phase, travel]

theorem takeLeaderEdge_reverse {r : LeaderSearch} {s : State} (search : s.transport.search = some r)
    (free : ∀ m, s.transport.move = some m → m.stopping = false ∧ m.retargeted = false) (phase : r.phase = .reverse)
    (travel : s.transport.travel = .reverse) : takeLeaderEdge s = driveOff (searchPhase .turning s) := by
  simp [takeLeaderEdge, search, search_undisturbed free, phase, travel]

/-! ### The search spent (R17) -/

@[simp] theorem raise_transport (k : NoticeKind) (s : State) : (raise k s).transport = s.transport := rfl

/-- The transport after a search that found no leader. -/
theorem searchFails_transport (s : State) : (searchFails s).transport =
    { s.transport with state := .resting, reference := .lost, leaderMissing := true, tension := .slack, drive := none,
                       stallLimit := false, search := none, roll := none, move := none } := by
  have lost : (raise .rollState (setReference .lost (enterState .resting (slacken (driveOff (putLeaderMissing true
      ((endSearch s).onTransport fun t => { t with move := none }))))))).transport =
      { s.transport with state := .resting, reference := .lost, leaderMissing := true, tension := .slack, drive := none,
                         stallLimit := false, search := none, roll := none, move := none } := by
    rw [raise_transport, setReference_idle_transport] <;> simp [slacken, driveOff, endSearch]
  unfold searchFails
  dsimp only
  split
  · rw [(endRollJob_asks _ _ _).transport_eq (by rw [lost]), lost]
  · exact lost

/-- The entry removed is gone. -/
theorem Arbiter.entryOf_remove (r : Requester) (a : Arbiter) : (a.remove r).entryOf r = none := by
  simp [Arbiter.entryOf, Arbiter.remove]

/-- With no LOAD under way the REFERENCE entry leaves the queue. -/
theorem searchFails_arbiter {s : State} (noLoad : s.transport.roll ≠ some .load) :
    (searchFails s).arbiter.current = none ∧ (searchFails s).arbiter.entryOf .transport = none := by
  have no : (s.transport.roll == some RollKind.load) = false := by simpa using noLoad
  unfold searchFails
  dsimp only
  rw [no]
  exact ⟨rfl, Arbiter.entryOf_remove _ _⟩

end Sys2Proof.Machine

open Sys2Proof Sys2Proof.Machine

/-- Settles O42: the edge by the direction of the search, and the search that has spent its travel. -/
theorem leaderSearched : Obligations.LeaderSearched := by
  unfold Obligations.LeaderSearched
  intro r s search free
  refine ⟨fun phase travel => ?_, fun phase travel => ?_, fun phase spent => ?_⟩
  · have searching : s.transport.search.isSome = true := by rw [search]; rfl
    rw [show exec .leaderEdge s = .next (taken s.transport.search.isSome takeLeaderEdge s) from rfl, taken, if_pos searching,
      takeLeaderEdge_reverse search free phase travel]
    simp [searchPhase, driveOff, State.onTransport, search]
  · refine .of_taken rfl (by rw [search]; rfl) ?_
    rw [takeLeaderEdge_forward search free phase travel]
    obtain ⟨position, drive, searches, move⟩ := tailTest_stopped (s := leaderPassed s) rfl
    rw [raise_transport, setReference_transport (by decide)]
    refine ⟨position, rfl, drive, ?_, ?_, move⟩
    · exact searches.trans (by simp [leaderPassed, driveOff, searchPhase, search])
    · exact (fault_of_still (s := leaderPassed s) (by simp))
  · have found : searchSpent s = true := by simp [searchSpent, search, phase, Config.searchLimit, spent]
    refine .of_taken rfl found ?_
    rw [searchFails_transport]
    exact ⟨rfl, rfl, rfl, rfl, rfl, rfl, rfl, fault_of_still (by simp), searchFails_arbiter⟩

end

section
/-! PROOFS. The end of TENSIONING and of THREADING. -/

namespace Sys2Proof.Machine

/-! ### A tracker that is not INDEXING (R28) -/

/-- The tracker is out of INDEXING, and neither the index nor the parked opening changed. -/
structure Elsewhere (s t : State) : Prop where
  mode   : t.tracker.mode ≠ .indexing
  index  : t.index = s.index
  parked : t.tracker.parked = s.tracker.parked

theorem Elsewhere.trans {s t u : State} (h : Elsewhere s t) (k : Elsewhere t u) : Elsewhere s u :=
  ⟨k.mode, k.index.trans h.index, k.parked.trans h.parked⟩

theorem modeNow_elsewhere {s : State} (h : s.tracker.mode ≠ .indexing) : modeNow s ≠ .indexing := by
  unfold modeNow
  dsimp only
  split
  · decide
  · simp only [beq_iff_eq, h, Bool.and_eq_true, false_and]
    rw [if_neg (by simp)]
    split <;> decide

theorem setMode_elsewhere {m : TrackerMode} (hm : m ≠ .indexing) {s : State} (h : s.tracker.mode ≠ .indexing) :
    Elsewhere s (setMode m s) := by
  by_cases same : s.tracker.mode = m
  · rw [setMode, if_pos same]
    exact ⟨h, rfl, rfl⟩
  · rw [setMode, if_neg same, if_neg h]
    exact ⟨hm, rfl, rfl⟩

theorem refreshMode_elsewhere {s : State} (h : s.tracker.mode ≠ .indexing) : Elsewhere s (refreshMode s) := by
  have first := setMode_elsewhere (modeNow_elsewhere h) h
  exact first.trans (setMode_elsewhere (modeNow_elsewhere first.mode) first.mode)

theorem turnTravel_elsewhere (d : Direction) {s : State} (h : s.tracker.mode ≠ .indexing) : Elsewhere s (turnTravel d s) := by
  unfold turnTravel
  split
  · exact ⟨h, rfl, rfl⟩
  · next turns =>
    have turned : Elsewhere s (setTravel d s) := by
      unfold setTravel
      rw [if_neg turns]
      exact ⟨h, rfl, rfl⟩
    have mode := turned.trans (refreshMode_elsewhere turned.mode)
    exact ⟨mode.mode, mode.index, mode.parked⟩

/-! ### A move starts (R7, R8) -/

theorem refreshMode_asks (s : State) : Asks s (refreshMode s) := (setMode_asks _ s).trans (setMode_asks _ _)

theorem turnTravel_arbiter (d : Direction) (s : State) : (turnTravel d s).arbiter = s.arbiter := by
  unfold turnTravel
  split
  · rfl
  · show (refreshMode (setTravel d s)).arbiter = _
    unfold refreshMode
    rw [setMode_arbiter, setMode_arbiter]
    unfold setTravel
    split <;> rfl

theorem enterState_arbiter (st : TransportState) (s : State) : (enterState st s).arbiter = s.arbiter := by
  unfold enterState; split <;> rfl

theorem parkedTest_asks (s : State) : Asks s (parkedTest s) := by
  unfold parkedTest
  (repeat' split)
  · exact .refl s
  · exact .of_eq rfl rfl
  · exact .refl s

/-- Entered with EXACT, INDEXING asks of the motion what jobs may ask. -/
theorem enterIndexing_asks {s : State} (h : s.transport.reference = .exact) : Asks s (enterIndexing s) := by
  unfold enterIndexing
  split
  · rw [h]
    refine (setMode_asks .indexing s).trans (Asks.trans ?_ ((raiseFrontier_asks _ _).trans (parkedTest_asks _)))
    exact .of_eq rfl rfl
  · exact .refl s

/-- No run's leg is in flight, so none is armed. -/
theorem armRun_idle {s : State} (h : ∀ c, s.arbiter.current = some c → c.kind ≠ .run) : armRun s = s := by
  have idle : runningLeg s = none := by
    unfold runningLeg
    split
    · next hc _ => exact absurd rfl (h _ hc)
    · rfl
  simp [armRun, idle]

/-- The direction of a move: forward where the target is the position count itself (log 56). -/
def moveDirection (m : MoveRecord) (s : State) : Direction := if s.transport.position ≤ m.target then .forward else .reverse

/-- The film is driven toward the target of a move. -/
def moveDriven (m : MoveRecord) (s : State) : State :=
  driveOn (moveDirection m s) m.speed (captureSpeed s) (enterState .moving (turnTravel (moveDirection m s) s))

/-- The drive of a move. -/
theorem moveDriven_transport (m : MoveRecord) (s : State) : ∃ d, d.speed = m.speed ∧ d.dir = moveDirection m s ∧
    (moveDriven m s).transport = { s.transport with travel := moveDirection m s, state := .moving, drive := some d, stallLimit := true } := by
  unfold moveDriven driveOn
  refine ⟨_, ?_, ?_, by rw [State.onTransport_transport, enterState_transport, turnTravel_transport]⟩ <;> rfl

theorem moveDriven_current (m : MoveRecord) (s : State) : (moveDriven m s).arbiter = s.arbiter := by
  show (enterState .moving (turnTravel _ s)).arbiter = _
  rw [enterState_arbiter, turnTravel_arbiter]

theorem startMove_eq (m : MoveRecord) (s : State) : startMove m s = armRun (parkedTest
    (if moveDirection m s = .forward ∧ (refreshMode (moveDriven m s)).index.frontier < (refreshMode (moveDriven m s)).transport.position
      then enterIndexing (refreshMode (moveDriven m s)) else refreshMode (moveDriven m s))) := rfl

/-- A move that starts coasts as its drives turn it. -/
theorem startMove_coast (m : MoveRecord) (s : State) : (startMove m s).coast = (moveDriven m s).coast := by
  rw [startMove_eq, armRun_coast, parkedTest_coast]
  split <;> simp

/-- With EXACT and no run the move starts toward its target, and jobs may have it stopped at once. -/
theorem startMove_asks {m : MoveRecord} {s : State} (h : s.transport.reference = .exact)
    (noRun : ∀ c, s.arbiter.current = some c → c.kind ≠ .run) : Asks (moveDriven m s) (startMove m s) := by
  have exact_ : (refreshMode (moveDriven m s)).transport.reference = .exact := by
    obtain ⟨d, _, _, transport⟩ := moveDriven_transport m s
    rw [refreshMode_transport, transport]
    exact h
  have asks : Asks (moveDriven m s) (parkedTest (if moveDirection m s = .forward ∧
      (refreshMode (moveDriven m s)).index.frontier < (refreshMode (moveDriven m s)).transport.position
      then enterIndexing (refreshMode (moveDriven m s)) else refreshMode (moveDriven m s))) := by
    refine (refreshMode_asks _).trans (Asks.trans ?_ (parkedTest_asks _))
    split
    · exact enterIndexing_asks exact_
    · exact .refl _
  rw [startMove_eq, armRun_idle]
  · exact asks
  · intro c hc
    obtain ⟨c0, h0, _, kind⟩ := asks.current c hc
    rw [kind]
    exact noRun c0 (moveDriven_current m s ▸ h0)

/-- A move that does not bring the tracker into INDEXING starts, and nothing asks it to stop. -/
theorem startMove_below {m : MoveRecord} {s : State} (noRun : ∀ c, s.arbiter.current = some c → c.kind ≠ .run)
    (parked : s.tracker.parked = none) (mode : s.tracker.mode ≠ .indexing)
    (below : s.transport.position ≤ s.index.frontier ∨ m.target < s.transport.position) :
    (startMove m s).transport = (moveDriven m s).transport := by
  have driven : Elsewhere s (moveDriven m s) := by
    have turned := turnTravel_elsewhere (moveDirection m s) mode
    unfold moveDriven enterState
    split
    · exact ⟨turned.mode, turned.index, turned.parked⟩
    · exact ⟨turned.mode, turned.index, turned.parked⟩
  have there := driven.trans (refreshMode_elsewhere driven.mode)
  have position : (refreshMode (moveDriven m s)).transport.position = s.transport.position := by
    obtain ⟨d, _, _, transport⟩ := moveDriven_transport m s
    rw [refreshMode_transport, transport]
  have notEntered : ¬(moveDirection m s = .forward ∧
      (refreshMode (moveDriven m s)).index.frontier < (refreshMode (moveDriven m s)).transport.position) := by
    rw [there.index, position]
    rintro ⟨forward, above⟩
    have toTarget : s.transport.position ≤ m.target := by
      by_contra far
      simp [moveDirection, far] at forward
    omega
  have current : (refreshMode (moveDriven m s)).arbiter = s.arbiter := by
    unfold refreshMode
    rw [setMode_arbiter, setMode_arbiter, moveDriven_current]
  rw [startMove_eq, if_neg notEntered, show parkedTest _ = refreshMode (moveDriven m s) by simp [parkedTest, there.parked, parked],
    armRun_idle (by rw [current]; exact noRun), refreshMode_transport]

/-! ### Searches start (R16, R17, R21) -/

theorem startReference_transport (s : State) : ∃ d, (startReference s).transport =
    { s.transport with travel := .reverse, state := .referencing, search := some { phase := .reverse, travel := 0 },
                       drive := some d, stallLimit := true } := by
  unfold startReference driveOn
  exact ⟨_, by rw [State.onTransport_transport, State.onTransport_transport, enterState_transport, turnTravel_transport]⟩

theorem startRewind_transport (s : State) : ∃ d, (startRewind s).transport =
    { s.transport with travel := .reverse, state := .rewinding, drive := some d, stallLimit := true } := by
  unfold startRewind driveOn
  exact ⟨_, by rw [State.onTransport_transport, enterState_transport, turnTravel_transport]⟩

theorem startForwardSearch_transport (s : State) : ∃ d, d.dir = .forward ∧ d.speed = .creep ∧ (startForwardSearch s).transport =
    { s.transport with travel := .forward, search := some { phase := .forward, travel := 0 }, drive := some d, stallLimit := true } := by
  unfold startForwardSearch driveOn
  refine ⟨_, ?_, ?_, by rw [State.onTransport_transport, State.onTransport_transport, turnTravel_transport]⟩ <;> rfl

/-! ### Tension (R11) -/

/-- The reels are at working tension, the limit of 1 s stopped. -/
def taut (s : State) : State := s.onTransport fun t => { t with tensionLimit := false, tension := .taut }

theorem tensionReached_load {s : State} (h : s.transport.roll = some .load) : tensionReached s = startReference (taut s) := by
  simp [tensionReached, taut, h]

theorem tensionReached_unload {s : State} (h : s.transport.roll = some .unload) : tensionReached s = startRewind (taut s) := by
  simp [tensionReached, taut, h]

theorem tensionReached_reference {s : State} {m : MoveRecord} (h : s.transport.roll = none) (hm : s.transport.move = some m)
    (stopping : m.stopping = false) (purpose : m.purpose = .reference) : tensionReached s = startReference (taut s) := by
  simp [tensionReached, taut, h, hm, stopping, purpose]

theorem two_lt_dist {a b : Nat} (h : a > b + 2 ∨ b > a + 2) : ¬ dist a b ≤ 2 := by
  unfold dist
  omega

theorem tensionReached_move {s : State} {m : MoveRecord} (h : s.transport.roll = none) (hm : s.transport.move = some m)
    (stopping : m.stopping = false) (purpose : m.purpose ≠ .reference)
    (far : ∀ c, s.arbiter.current = some c → c.leg = .runUp ∨ c.leg = .approach →
      m.target > s.transport.position + 2 ∨ s.transport.position > m.target + 2) :
    tensionReached s = startMove m (taut s) := by
  have legGoes : ((s.arbiter.current.any fun c => c.leg == .runUp || c.leg == .approach) &&
      decide (dist m.target s.transport.position ≤ 2)) = false := by
    cases hc : s.arbiter.current with
    | none => rfl
    | some c =>
      simp only [Option.any_some, Bool.and_eq_false_iff, Bool.or_eq_false_iff, decide_eq_false_iff_not]
      by_cases leg : c.leg = .runUp ∨ c.leg = .approach
      · exact .inr (two_lt_dist (far c hc leg))
      · exact .inl (by simpa [not_or] using leg)
  simp [tensionReached, taut, h, hm, stopping, purpose, legGoes]

theorem bothInBand_supply {s : State} (h : s.pins.takeUp = .inBand) : bothInBand (putReading .supply .inBand s) = true := by
  simp [bothInBand, putReading, h]

theorem bothInBand_takeUp {s : State} (h : s.pins.supply = .inBand) : bothInBand (putReading .takeUp .inBand s) = true := by
  simp [bothInBand, putReading, h]

/-- The report that completes a taut film in TENSIONING. -/
theorem tensionEffect_reached {side : Side} {s : State} (h : s.transport.state = .tensioning)
    (both : bothInBand (putReading side .inBand s) = true) :
    tensionEffect side .inBand (putReading side .inBand s) = tensionReached (putReading side .inBand s) := by
  have state : (putReading side .inBand s).transport.state = .tensioning := h
  simp [tensionEffect, state, both]

/-- What the move begun at working tension leaves of the transport. -/
theorem startMove_taut (m : MoveRecord) (s : State) : (startMove m (taut s)).transport.state = .moving ∧
    (startMove m (taut s)).transport.tension = .taut ∧ (startMove m (taut s)).transport.tensionLimit = false := by
  obtain ⟨d, _, _, transport⟩ := moveDriven_transport m (taut s)
  have motion : (startMove m (taut s)).transport.coast = (moveDriven m (taut s)).transport.coast :=
    congrArg Coast.motion (startMove_coast m (taut s))
  rw [transport] at motion
  exact ⟨congrArg Transport.state motion, congrArg Transport.tension motion, congrArg Transport.tensionLimit motion⟩

end Sys2Proof.Machine

open Sys2Proof Sys2Proof.Machine

/-- Settles O40: TENSIONING and THREADING by the work that waited, and the threading limit. -/
theorem tensionReached : Obligations.TensionReached := by
  unfold Obligations.TensionReached
  refine fun s => ⟨fun tensioning inBand load => ?_, fun tensioning inBand unload => ?_, fun m tensioning inBand noRoll hm stopping =>
    ⟨fun purpose => ?_, fun purpose far => ?_⟩, fun threading => ?_, fun limit => ?_⟩
  · refine ⟨_, rfl, ?_⟩
    rw [tensionEffect_reached tensioning (bothInBand_supply inBand), tensionReached_load (s := putReading .supply .inBand s) load]
    obtain ⟨d, transport⟩ := startReference_transport (taut (putReading .supply .inBand s))
    rw [transport]
    exact ⟨rfl, rfl, rfl, rfl, rfl, fault_of_still (s := taut (putReading .supply .inBand s)) (by simp)⟩
  · refine ⟨_, rfl, ?_⟩
    rw [tensionEffect_reached tensioning (bothInBand_takeUp inBand), tensionReached_unload (s := putReading .takeUp .inBand s) unload]
    obtain ⟨d, transport⟩ := startRewind_transport (taut (putReading .takeUp .inBand s))
    rw [transport]
    exact ⟨rfl, rfl, rfl, rfl, fault_of_still (s := taut (putReading .takeUp .inBand s)) (by simp)⟩
  · refine ⟨_, rfl, ?_⟩
    rw [tensionEffect_reached tensioning (bothInBand_supply inBand),
      tensionReached_reference (s := putReading .supply .inBand s) noRoll hm stopping purpose]
    obtain ⟨d, transport⟩ := startReference_transport (taut (putReading .supply .inBand s))
    rw [transport]
    exact ⟨rfl, rfl, rfl, rfl, hm, rfl, fault_of_still (s := taut (putReading .supply .inBand s)) (by simp)⟩
  · refine ⟨_, rfl, ?_⟩
    rw [tensionEffect_reached tensioning (bothInBand_supply inBand),
      tensionReached_move (s := putReading .supply .inBand s) noRoll hm stopping purpose far]
    have still := startMove_still m (taut (putReading .supply .inBand s))
    obtain ⟨state, tension, tensionLimit⟩ := startMove_taut m (putReading .supply .inBand s)
    obtain ⟨d, speed, dir, driven⟩ := moveDriven_transport m (taut (putReading .supply .inBand s))
    refine ⟨state, tension, tensionLimit, congrArg (fun x => x.base.position) still, congrArg (fun x => x.base.fault) still,
      fun noRun parked => ⟨fun exact_ => ?_, fun known mode below => ?_⟩⟩
    · have asks := startMove_asks (m := m) (s := taut (putReading .supply .inBand s)) exact_ noRun
      refine ⟨?_, fun d' hd' => ?_⟩
      · rcases asks.transport with same | ⟨stopped, _⟩
        · rw [same, driven]
          exact congrArg (Option.map (·.target)) hm
        · rw [stopped, driven]
          simp [Transport.stopped, taut, putReading, hm]
      · have drives := asks.drive hd'
        rw [driven] at drives
        cases drives
        exact ⟨speed, dir⟩
    · rw [startMove_below (s := taut (putReading .supply .inBand s)) noRun parked mode below, driven]
      exact ⟨rfl, hm, d, rfl, speed, dir⟩
  · have effect : tensionEffect .takeUp .inBand (putReading .takeUp .inBand s) = threadingDone (putReading .takeUp .inBand s) := by
      have state : (putReading .takeUp .inBand s).transport.state = .threading := threading
      simp [tensionEffect, state]
    refine ⟨_, rfl, ?_⟩
    rw [effect, threadingDone]
    obtain ⟨d, _, _, transport⟩ := startForwardSearch_transport (enterState .referencing ((putReading .takeUp .inBand s).onTransport
      fun t => { t with threadLimit := false, tension := .taut }))
    rw [transport, enterState_transport]
    exact ⟨rfl, rfl, rfl, rfl, rfl, fault_of_still (s := putReading .takeUp .inBand s) (by simp)⟩
  · refine .of_taken rfl limit ?_
    have core : (threadingFails s).still.base.core = s.still.base.core := threadingFails_core s
    have fault : (threadingFails s).fault = s.fault := fault_of_still (by simp [threadingFails])
    have transport : (threadingFails s).transport = (endRollJob .failed .threadFail s).transport.emptied := enterEmpty_transport _ _
    have numbers : jobNumbers (threadingFails s) = jobNumbers s := congrArg Fixed.numbers core
    have profile : (threadingFails s).transport.profile = s.transport.profile := congrArg Fixed.profile core
    refine ⟨?_, ?_, ?_, ?_, ?_, fault, numbers, profile⟩
    all_goals rw [transport]; rfl

end

section
/-! SUPPORT. Jobs by number: what a change of one job leaves of the others, how a job ends, and what leaves the job table alone
(R134, R154). -/

namespace Sys2Proof.Machine

/-! ### Jobs by number -/

theorem findJob_congr {s t : State} (h : t.jobs = s.jobs) (n : Nat) : findJob n t = findJob n s := by simp [findJob, h]

theorem findJob_number {n : Nat} {j : Job} {s : State} (h : findJob n s = some j) : j.number = n := by
  simpa using List.find?_some h

/-- The open job with a number is the job with that number, where that one is open. -/
theorem openJob_of_findJob {n : Nat} {j : Job} {s : State} (h : findJob n s = some j) (o : j.isOpen = true) : openJob n s = some j := by
  obtain ⟨number, before, after, split, others⟩ := List.find?_eq_some_iff_append.mp h
  refine List.find?_eq_some_iff_append.mpr ⟨by rw [number, o]; rfl, before, after, split, fun x hx => ?_⟩
  have other := others x hx
  cases hn : x.number == n <;> simp_all

/-- With distinct numbers a job of the table is the one its number finds. -/
theorem findJob_of_mem {j : Job} {s : State} (sound : JobsSound s) (h : j ∈ s.jobs.slots) : findJob j.number s = some j := by
  have distinct : (s.jobs.slots.map (·.number)).Nodup := sound.2.1
  unfold findJob
  generalize s.jobs.slots = slots at h distinct
  induction slots with
  | nil => cases h
  | cons x xs ih =>
    rw [List.map_cons, List.nodup_cons] at distinct
    rcases List.mem_cons.mp h with same | later
    · simp [same]
    · have differs : x.number ≠ j.number := fun same => distinct.1 (same ▸ List.mem_map_of_mem later)
      simp [differs, ih later distinct.2]

theorem findJob_mem {n : Nat} {j : Job} {s : State} (h : findJob n s = some j) : n ∈ jobNumbers s :=
  findJob_number h ▸ List.mem_map_of_mem (List.mem_of_find?_eq_some h)

/-- A change that keeps numbers changes the job with its number, and no other. -/
theorem findJob_modifyJob (m n : Nat) {f : Job → Job} (hf : ∀ j, (f j).number = j.number) (s : State) :
    findJob n (modifyJob m f s) = if n = m then (findJob n s).map f else findJob n s := by
  have kept : ((fun j : Job => j.number == n) ∘ fun j => if j.number = m then f j else j) = fun j => j.number == n := by
    funext j
    simp only [Function.comp_apply]
    split
    · rw [hf]
    · rfl
  have found : findJob n (modifyJob m f s) = (findJob n s).map fun j => if j.number = m then f j else j := by
    simp only [findJob, modifyJob, State.onJobs_jobs, List.find?_map, kept]
  rw [found]
  cases h : findJob n s with
  | none => simp
  | some j =>
    have number := findJob_number h
    split
    · next same => simp [number, same]
    · next other => simp [number, other]

theorem findJob_modifyJob_same {n : Nat} {f : Job → Job} (hf : ∀ j, (f j).number = j.number) {s : State} {j : Job}
    (h : findJob n s = some j) : findJob n (modifyJob n f s) = some (f j) := by
  rw [findJob_modifyJob n n hf, if_pos rfl, h, Option.map_some]

theorem findJob_modifyJob_other {m n : Nat} (hmn : n ≠ m) {f : Job → Job} (hf : ∀ j, (f j).number = j.number) (s : State) :
    findJob n (modifyJob m f s) = findJob n s := by
  rw [findJob_modifyJob m n hf, if_neg hmn]

/-- A job with its state changed. -/
theorem findJob_setJobState {n : Nat} {s : State} {j : Job} (st : JobState) (h : findJob n s = some j) :
    findJob n (setJobState n st s) = some { j with state := st } :=
  findJob_modifyJob_same (f := fun j => { j with state := st }) (fun _ => rfl) h

/-- An open FETCH with its items changed; any other job as it is. -/
def Job.mapItems (f : List Item → List Item) (j : Job) : Job :=
  match j.body with
  | .fetch is => if j.isOpen then { j with body := .fetch (f is) } else j
  | _ => j

theorem Job.mapItems_fetch (f : List Item → List Item) {j : Job} {is : List Item} (body : j.body = .fetch is) (o : j.isOpen = true) :
    j.mapItems f = { j with body := .fetch (f is) } := by
  simp only [Job.mapItems, body, o, if_true]

theorem modifyItems_eq (n : Nat) (f : List Item → List Item) (s : State) : modifyItems n f s = modifyJob n (Job.mapItems f) s := rfl

/-- What a change of a job's items keeps of the job. -/
theorem Job.mapItems_keeps (f : List Item → List Item) (j : Job) : (j.mapItems f).number = j.number ∧ (j.mapItems f).link = j.link ∧
    (j.mapItems f).isOpen = j.isOpen ∧ (j.mapItems f).body.isRoll = j.body.isRoll := by
  unfold Job.mapItems
  split
  · next is body =>
    split
    · exact ⟨rfl, rfl, rfl, by simp [body, JobBody.isRoll]⟩
    · exact ⟨rfl, rfl, rfl, rfl⟩
  · exact ⟨rfl, rfl, rfl, rfl⟩

theorem findJob_modifyItems_same {n : Nat} (f : List Item → List Item) {s : State} {j : Job} (h : findJob n s = some j) :
    findJob n (modifyItems n f s) = some (j.mapItems f) := by
  rw [modifyItems_eq]
  exact findJob_modifyJob_same (fun j => (j.mapItems_keeps f).1) h

theorem findJob_modifyItems_other {m n : Nat} (hmn : n ≠ m) (f : List Item → List Item) (s : State) :
    findJob n (modifyItems m f s) = findJob n s := by
  rw [modifyItems_eq]
  exact findJob_modifyJob_other hmn (fun j => (j.mapItems_keeps f).1) s

/-! ### What leaves the job table alone -/

@[simp] theorem dropCurrent_jobs (s : State) : (dropCurrent s).jobs = s.jobs := by unfold dropCurrent; (repeat' split) <;> simp
@[simp] theorem withdraw_jobs (r : Requester) (s : State) : (withdraw r s).jobs = s.jobs := by
  unfold withdraw; dsimp only; split <;> simp
@[simp] theorem enterState_jobs (st : TransportState) (s : State) : (enterState st s).jobs = s.jobs := by
  unfold enterState; split <;> rfl
@[simp] theorem putReference_jobs (r : Reference) (s : State) : (putReference r s).jobs = s.jobs := by
  unfold putReference; split <;> rfl
@[simp] theorem putBroken_jobs (v : Bool) (s : State) : (putBroken v s).jobs = s.jobs := by unfold putBroken; split <;> rfl
@[simp] theorem abandonSearch_jobs (s : State) : (abandonSearch s).jobs = s.jobs := by unfold abandonSearch; split <;> rfl
@[simp] theorem leaveIndexing_jobs (s : State) : (leaveIndexing s).jobs = s.jobs := by unfold leaveIndexing; split <;> rfl
@[simp] theorem setMode_jobs (m : TrackerMode) (s : State) : (setMode m s).jobs = s.jobs := by
  unfold setMode newPass; (repeat' split) <;> simp
@[simp] theorem refreshMode_jobs (s : State) : (refreshMode s).jobs = s.jobs := by simp [refreshMode]
@[simp] theorem withdrawRescan_jobs (s : State) : (withdrawRescan s).jobs = s.jobs := by unfold withdrawRescan; split <;> simp
@[simp] theorem disarm_jobs (s : State) : (disarm s).jobs = s.jobs := rfl
@[simp] theorem stopForLoss_jobs (s : State) : (stopForLoss s).jobs = s.jobs := by unfold stopForLoss; (repeat' split) <;> simp
@[simp] theorem setBlocked_jobs (v : Bool) (s : State) : (setBlocked v s).jobs = s.jobs := rfl
@[simp] theorem askReference_jobs (s : State) : (askReference s).jobs = s.jobs := by
  unfold askReference; dsimp only; (repeat' split) <;> simp
@[simp] theorem loseReference_jobs (s : State) : (loseReference s).jobs = s.jobs := by
  unfold loseReference; dsimp only; split <;> simp
@[simp] theorem setReference_jobs (r : Reference) (s : State) : (setReference r s).jobs = s.jobs := by
  unfold setReference
  dsimp only
  (repeat' split) <;> simp

/-! ### The end of a job (R154) -/

/-- A job as it ends. -/
def Job.closed (st : JobState) (why : EndReason) (s : State) (j : Job) : Job :=
  { j with state := st, endReason := why, waitClear := false, body := closeBody s j.body }

/-- The end of a job, but for JOB_DONE. -/
def jobClosed (n : Nat) (st : JobState) (why : EndReason) (s : State) : State :=
  discardRevisit n (withdraw (.job n) (modifyJob n (Job.closed st why s) s))

theorem endJob_open {n : Nat} {j : Job} {s : State} (h : openJob n s = some j) (st : JobState) (why : EndReason) :
    endJob n st why s = queueJobDone j.link n
      (if j.body.isRoll then setRollClaim false (jobClosed n st why s) else jobClosed n st why s) := by
  unfold endJob
  rw [h]
  rfl

/-- A block that JOB_DONE and roll_claim are no part of. -/
theorem endJob_part {β : Type} (part : State → β) (link : ∀ l f s, part (State.onLink l f s) = part s)
    (claim : ∀ v s, part (setRollClaim v s) = part s) {n : Nat} {j : Job} {s : State} (h : openJob n s = some j) (st : JobState)
    (why : EndReason) : part (endJob n st why s) = part (jobClosed n st why s) := by
  rw [endJob_open h]
  refine (link _ _ _).trans ?_
  split
  · exact claim _ _
  · rfl

theorem endJob_jobs {n : Nat} {j : Job} {s : State} (h : openJob n s = some j) (st : JobState) (why : EndReason) :
    (endJob n st why s).jobs = (modifyJob n (Job.closed st why s) s).jobs :=
  (endJob_part State.jobs (fun _ _ _ => rfl) (fun _ _ => rfl) h st why).trans (withdraw_jobs _ _)

/-- The job that ends. -/
theorem findJob_endJob {n : Nat} {j : Job} {s : State} (h : findJob n s = some j) (o : j.isOpen = true) (st : JobState)
    (why : EndReason) : findJob n (endJob n st why s) = some (j.closed st why s) := by
  rw [findJob_congr (endJob_jobs (openJob_of_findJob h o) st why)]
  exact findJob_modifyJob_same (f := Job.closed st why s) (fun _ => rfl) h

/-- Another job than the one that ends. -/
theorem findJob_endJob_other {m n : Nat} (hmn : n ≠ m) (st : JobState) (why : EndReason) (s : State) :
    findJob n (endJob m st why s) = findJob n s := by
  cases h : openJob m s with
  | none => simp [endJob, h]
  | some j =>
    rw [findJob_congr (endJob_jobs h st why)]
    exact findJob_modifyJob_other (f := Job.closed st why s) hmn (fun _ => rfl) s

/-- An ended job holds no entry. -/
theorem endJob_queue {n : Nat} {j : Job} {s : State} (h : openJob n s = some j) (st : JobState) (why : EndReason) :
    (endJob n st why s).arbiter.queue = s.arbiter.queue.filter fun e => e.requester != .job n :=
  (endJob_part (fun s => s.arbiter.queue) (fun _ _ _ => rfl) (fun _ _ => rfl) h st why).trans (withdraw_queue _ _)

/-- A requester that has no entry. -/
theorem entryOf_eq_none {a : Arbiter} {r : Requester} : a.entryOf r = none ↔ r ∉ a.requesters := by
  simp [Arbiter.entryOf, Arbiter.requesters, List.find?_eq_none]

theorem endJob_entry {n : Nat} {j : Job} {s : State} (h : openJob n s = some j) (st : JobState) (why : EndReason) :
    (endJob n st why s).arbiter.entryOf (.job n) = none := by
  rw [entryOf_eq_none, Arbiter.requesters, endJob_queue h st why]
  simp

@[simp] theorem stopMove_capture (s : State) : (stopMove s).capture = s.capture := by unfold stopMove; (repeat' split) <;> rfl
@[simp] theorem disarmRun_revisits (c : Current) (s : State) : (disarmRun c s).capture.revisits = s.capture.revisits := by
  unfold disarmRun; split <;> rfl
@[simp] theorem dropCurrent_revisits (s : State) : (dropCurrent s).capture.revisits = s.capture.revisits := by
  unfold dropCurrent
  (repeat' split)
  · rfl
  · rfl
  · simp

theorem withdraw_revisits (r : Requester) (s : State) : (withdraw r s).capture.revisits = s.capture.revisits := by
  unfold withdraw
  dsimp only
  split
  · rw [dropCurrent_revisits]; rfl
  · rfl

/-- An ended job keeps no revisit list. -/
theorem endJob_revisits {n : Nat} {j : Job} {s : State} (h : openJob n s = some j) (st : JobState) (why : EndReason) :
    (endJob n st why s).capture.revisits = s.capture.revisits.filter fun r => r.job != n := by
  refine (endJob_part (fun s => s.capture.revisits) (fun _ _ _ => rfl) (fun _ _ => rfl) h st why).trans ?_
  exact congrArg (List.filter _) (withdraw_revisits _ _)

theorem withdraw_rollClaim (r : Requester) (s : State) : (withdraw r s).arbiter.rollClaim = s.arbiter.rollClaim := by
  have removed : (s.onArbiter fun a => if a.interrupted = some r then (a.remove r).dropInterrupted else a.remove r).arbiter.rollClaim =
      s.arbiter.rollClaim := by
    rw [State.onArbiter_arbiter]
    split
    · unfold Arbiter.dropInterrupted; split <;> rfl
    · rfl
  have dropped (u : State) : (dropCurrent u).arbiter.rollClaim = u.arbiter.rollClaim := by
    unfold dropCurrent
    (repeat' split)
    · rfl
    · simp only [clearCurrent, State.onArbiter_arbiter, Arbiter.clearCurrent]; split <;> rfl
    · simp
  unfold withdraw
  dsimp only
  split
  · rw [dropped]; exact removed
  · exact removed

/-- An ended LOAD or UNLOAD gives up roll_claim; any other end leaves it. -/
theorem endJob_rollClaim {n : Nat} {j : Job} {s : State} (h : openJob n s = some j) (st : JobState) (why : EndReason) :
    (endJob n st why s).arbiter.rollClaim = if j.body.isRoll then false else s.arbiter.rollClaim := by
  rw [endJob_open h]
  split
  · rfl
  · exact withdraw_rollClaim _ _

end Sys2Proof.Machine
end

section
/-! PROOFS. A halt: the transport, the fate of the open jobs, and the arbiter's part for a run. -/

namespace Sys2Proof.Machine

/-! ### What the fate of the other jobs leaves a job -/

/-- From one state to the other a job was left alone: its record, and that it has no entry, no revisit list and no roll claim. -/
structure Spares (n : Nat) (s t : State) : Prop where
  job      : findJob n t = findJob n s
  entry    : .job n ∉ s.arbiter.requesters → .job n ∉ t.arbiter.requesters
  revisits : n ∉ s.capture.revisits.map (·.job) → n ∉ t.capture.revisits.map (·.job)
  claim    : s.arbiter.rollClaim = false → t.arbiter.rollClaim = false

namespace Spares
variable {n : Nat} {s t u : State}

theorem refl (s : State) : Spares n s s := ⟨rfl, id, id, id⟩

theorem trans (h : Spares n s t) (k : Spares n t u) : Spares n s u :=
  ⟨k.job.trans h.job, k.entry ∘ h.entry, k.revisits ∘ h.revisits, k.claim ∘ h.claim⟩

/-- Changes of the other blocks leave the job alone. -/
theorem of_eq (jobs : t.jobs = s.jobs) (queue : t.arbiter.queue = s.arbiter.queue) (revisits : t.capture.revisits = s.capture.revisits)
    (claim : t.arbiter.rollClaim = s.arbiter.rollClaim) : Spares n s t where
  job      := findJob_congr jobs n
  entry    := by simp only [Arbiter.requesters, queue]; exact id
  revisits := by rw [revisits]; exact id
  claim    := by rw [claim]; exact id

/-- Changes of the other blocks before leave the job alone. -/
theorem after (k : Spares n t u) (jobs : t.jobs = s.jobs) (queue : t.arbiter.queue = s.arbiter.queue)
    (revisits : t.capture.revisits = s.capture.revisits) (claim : t.arbiter.rollClaim = s.arbiter.rollClaim) : Spares n s u :=
  (of_eq jobs queue revisits claim).trans k

theorem foldl {f : State → Nat → State} {ns : List Nat} (h : ∀ m ∈ ns, ∀ s, Spares n s (f s m)) (s : State) :
    Spares n s (ns.foldl f s) := by
  induction ns generalizing s with
  | nil => exact refl s
  | cons m ns ih =>
    exact (h m List.mem_cons_self s).trans (ih (fun m hm => h m (List.mem_cons_of_mem _ hm)) _)

end Spares

/-! ### The reference lost (R5) -/

theorem askStop_rollClaim (why : StopCause) (s : State) : (askStop why s).arbiter.rollClaim = s.arbiter.rollClaim := by
  unfold askStop; (repeat' split) <;> simp

theorem askStop_revisits (why : StopCause) (s : State) : (askStop why s).capture.revisits = s.capture.revisits := by
  unfold askStop; (repeat' split) <;> simp

theorem suspendTest_rollClaim (s : State) : (suspendTest s).arbiter.rollClaim = s.arbiter.rollClaim := by
  unfold suspendTest; (repeat' split) <;> simp [askStop_rollClaim]

theorem suspendTest_revisits (s : State) : (suspendTest s).capture.revisits = s.capture.revisits := by
  unfold suspendTest; (repeat' split) <;> simp [askStop_revisits]

theorem yieldTest_rollClaim (s : State) : (yieldTest s).arbiter.rollClaim = s.arbiter.rollClaim := by
  unfold yieldTest; (repeat' split) <;> simp [askStop_rollClaim]

theorem yieldTest_revisits (s : State) : (yieldTest s).capture.revisits = s.capture.revisits := by
  unfold yieldTest; (repeat' split) <;> simp [askStop_revisits]

theorem clearCurrent_rollClaim (s : State) : (clearCurrent s).arbiter.rollClaim = s.arbiter.rollClaim := by
  simp only [clearCurrent, State.onArbiter_arbiter, Arbiter.clearCurrent]; split <;> rfl

theorem place_rollClaim (e : QEntry) (a : Arbiter) : (a.place e).rollClaim = a.rollClaim := by
  unfold Arbiter.place; dsimp only; split <;> rfl

theorem submit_rollClaim (r : Requester) (cls : QClass) (k : QKind) (frame : Option Nat) (s : State) :
    (submit r cls k frame s).arbiter.rollClaim = s.arbiter.rollClaim := by
  unfold submit
  dsimp only
  split
  · rw [yieldTest_rollClaim]
    split
    · rw [suspendTest_rollClaim]; exact place_rollClaim _ _
    · exact place_rollClaim _ _
  · rw [yieldTest_rollClaim]
    (repeat' split)
    · exact clearCurrent_rollClaim _
    · exact askStop_rollClaim _ _
    all_goals rfl

theorem submit_revisits (r : Requester) (cls : QClass) (k : QKind) (frame : Option Nat) (s : State) :
    (submit r cls k frame s).capture.revisits = s.capture.revisits := by
  unfold submit
  dsimp only
  split
  · rw [yieldTest_revisits]
    split
    · rw [suspendTest_revisits]; rfl
    · rfl
  · rw [yieldTest_revisits]
    (repeat' split)
    · rfl
    · exact askStop_revisits _ _
    all_goals rfl

theorem withdraw_spares (n : Nat) (r : Requester) (s : State) : Spares n s (withdraw r s) where
  job      := findJob_congr (withdraw_jobs r s) n
  entry h  := by
    rw [Arbiter.requesters, withdraw_queue]
    exact fun held => h ((List.filter_sublist.map _).subset held)
  revisits := by rw [withdraw_revisits]; exact id
  claim    := by rw [withdraw_rollClaim]; exact id

theorem submit_spares (n : Nat) {r : Requester} (hr : r ≠ .job n) (cls : QClass) (k : QKind) (frame : Option Nat) (s : State) :
    Spares n s (submit r cls k frame s) where
  job       := findJob_congr (submit_jobs r cls k frame s) n
  entry h k := (submit_requesters _ _ _ _ _ _ k).elim (fun same => hr same.symm) h
  revisits  := by rw [submit_revisits]; exact id
  claim     := by rw [submit_rollClaim]; exact id

theorem dropInterrupted_rollClaim (a : Arbiter) : a.dropInterrupted.rollClaim = a.rollClaim := by
  unfold Arbiter.dropInterrupted; split <;> rfl

theorem withdrawRescan_spares (n : Nat) (s : State) : Spares n s (withdrawRescan s) := by
  unfold withdrawRescan
  split
  · exact .refl s
  · refine Spares.trans (t := withdraw .tracker (s.onTracker fun t => { t with rescan := none })) ?_ ?_
    · exact (withdraw_spares n .tracker _).after rfl rfl rfl rfl
    · exact .of_eq rfl (dropInterrupted_queue _) rfl (dropInterrupted_rollClaim _)

theorem setMode_capture (m : TrackerMode) (s : State) : (setMode m s).capture = s.capture := by
  unfold setMode newPass leaveIndexing
  (repeat' split) <;> rfl

theorem setMode_spares (n : Nat) (m : TrackerMode) (s : State) : Spares n s (setMode m s) :=
  .of_eq (setMode_jobs m s) (by rw [setMode_arbiter]) (by rw [setMode_capture]) (by rw [setMode_arbiter])

theorem stopForLoss_spares (n : Nat) (s : State) : Spares n s (stopForLoss s) := by
  unfold stopForLoss
  split
  · exact .refl s
  · split
    · exact .refl s
    · exact .of_eq (by simp) (by simp) (by simp) (by simp)

theorem askReference_spares (n : Nat) (s : State) : Spares n s (askReference s) := by
  unfold askReference
  split
  · dsimp only
    refine (withdrawRescan_spares n s).trans ?_
    split
    · exact .of_eq rfl rfl rfl rfl
    · exact (submit_spares n (by simp) _ _ _ _).trans (.of_eq rfl rfl rfl rfl)
  · exact .refl s

theorem loseReference_spares (n : Nat) (s : State) : Spares n s (loseReference s) := by
  have told : Spares n s (stopForLoss (disarm ((withdrawRescan (setMode .idle s)).onTracker fun t =>
      { t with openMark := none, openSplice := none, unmatchedRun := 0 }))) :=
    (setMode_spares n .idle s).trans ((withdrawRescan_spares n _).trans ((stopForLoss_spares n _).after rfl rfl rfl rfl))
  unfold loseReference
  dsimp only
  split
  · exact told
  · exact told.trans (askReference_spares n _)

theorem setReference_spares (n : Nat) (r : Reference) (s : State) : Spares n s (setReference r s) := by
  have told : Spares n s ((if s.transport.reference = .exact then abandonSearch else id) (putReference r s)) := by
    have put : Spares n s (putReference r s) := by unfold putReference; split <;> exact .of_eq rfl rfl rfl rfl
    refine put.trans ?_
    split
    · unfold abandonSearch; split <;> exact .of_eq rfl rfl rfl rfl
    · exact .refl _
  unfold setReference
  split
  · exact .refl s
  · cases r with
    | lost => exact told.trans (loseReference_spares n _)
    | exact => exact told.trans (.of_eq rfl rfl rfl rfl)
    | drifted => exact told.trans (.of_eq rfl rfl rfl rfl)

/-! ### The fate of one job (R162, R163, R165) -/

theorem endJob_spares {n m : Nat} (hmn : n ≠ m) (st : JobState) (why : EndReason) (s : State) : Spares n s (endJob m st why s) := by
  cases h : openJob m s with
  | none => simp [endJob, h, Spares.refl]
  | some j =>
    refine ⟨findJob_endJob_other hmn st why s, fun held k => held ?_, fun held k => held ?_, fun held => ?_⟩
    · rw [Arbiter.requesters, endJob_queue h] at k
      exact (List.filter_sublist.map _).subset k
    · rw [endJob_revisits h] at k
      exact (List.filter_sublist.map _).subset k
    · rw [endJob_rollClaim h, held]
      split <;> rfl

theorem modifyItems_spares {n m : Nat} (hmn : n ≠ m) (f : List Item → List Item) (s : State) : Spares n s (modifyItems m f s) :=
  ⟨findJob_modifyItems_other hmn f s, id, id, id⟩

theorem failJob_spares {n m : Nat} (hmn : n ≠ m) (c : Cause) (s : State) : Spares n s (failJob c m s) :=
  (modifyItems_spares hmn _ s).trans (endJob_spares hmn _ _ _)

theorem jobFate_spares {n m : Nat} (hmn : n ≠ m) (c : Cause) (s : State) : Spares n s (jobFate c m s) := by
  unfold jobFate
  (repeat' split)
  · exact .refl s
  · exact failJob_spares hmn c s
  · exact .refl s
  · exact (failJob_spares hmn c s).trans (setReference_spares n _ _)
  · exact .refl s
  · exact failJob_spares hmn c s
  · exact ⟨findJob_modifyJob_other (f := fun j => { j with state := .suspended }) hmn (fun _ => rfl) s, id, id, id⟩
  · exact .refl s
  · exact .refl s

/-- An item as a fault leaves it. -/
def Item.failed (i : Item) : Item := if i.outcome = .pending then { i with outcome := .failed, inCapture := false } else i

/-- A job that fails by a fault. -/
def Job.failed (c : Cause) (s : State) (j : Job) : Job := (j.mapItems fun is => is.map Item.failed).closed .failed (.fault c) s

theorem failJob_eq (c : Cause) (n : Nat) (s : State) :
    failJob c n s = endJob n .failed (.fault c) (modifyItems n (fun is => is.map Item.failed) s) := rfl

theorem findJob_failJob {c : Cause} {n : Nat} {j : Job} {s : State} (h : findJob n s = some j) (o : j.isOpen = true) :
    findJob n (failJob c n s) = some (j.failed c s) := by
  have items := findJob_modifyItems_same (fun is => is.map Item.failed) h
  have opened : (j.mapItems fun is => is.map Item.failed).isOpen = true := (j.mapItems_keeps _).2.2.1.trans o
  exact findJob_endJob items opened _ _

/-- A job that failed by a fault holds no entry and no revisit list. -/
theorem failJob_forgotten {c : Cause} {n : Nat} {j : Job} {s : State} (h : findJob n s = some j) (o : j.isOpen = true) :
    .job n ∉ (failJob c n s).arbiter.requesters ∧ n ∉ (failJob c n s).capture.revisits.map (·.job) ∧
      (j.body.isRoll = true → (failJob c n s).arbiter.rollClaim = false) := by
  have items := findJob_modifyItems_same (fun is => is.map Item.failed) h
  obtain ⟨_, _, opened, roll⟩ := j.mapItems_keeps fun is => is.map Item.failed
  have found := openJob_of_findJob items (opened.trans o)
  refine ⟨entryOf_eq_none.mp (endJob_entry found _ _), ?_, fun isRoll => ?_⟩
  · rw [failJob_eq, endJob_revisits found]
    simp
  · rw [failJob_eq, endJob_rollClaim found, roll, isRoll, if_pos rfl]

theorem Item.failed_outcome (i : Item) : i.failed.outcome = if i.outcome = .pending then .failed else i.outcome := by
  unfold Item.failed; split <;> rfl

/-- The items of a FETCH that fails. -/
theorem Job.failed_items {c : Cause} {s : State} {j : Job} {is is' : List Item} (o : j.isOpen = true) (body : j.body = .fetch is)
    (body' : (j.failed c s).body = .fetch is') : is' = is.map Item.failed := by
  rw [Job.failed, Job.mapItems_fetch _ body o] at body'
  cases body'
  rfl

/-- A job as a cause leaves it. -/
def Job.fate (c : Cause) (s : State) (j : Job) : Job :=
  if c = .filmBreak then j.failed c s
  else if j.body.isRoll then (if j.waitClear then j else j.failed c s)
  else if j.body.code = 5 ∧ j.state = .running then { j with state := .suspended }
  else j

theorem findJob_jobFate (c : Cause) {n : Nat} {j : Job} {s : State} (h : findJob n s = some j) (o : j.isOpen = true) :
    findJob n (jobFate c n s) = some (j.fate c s) := by
  have opened := openJob_of_findJob h o
  by_cases broken : c = .filmBreak
  · simp [jobFate, opened, broken, Job.fate, findJob_failJob h o]
  · cases body : j.body with
    | load =>
      cases waits : j.waitClear with
      | true => simp [jobFate, opened, broken, Job.fate, body, waits, JobBody.isRoll, h]
      | false =>
        simp [jobFate, opened, broken, Job.fate, body, waits, JobBody.isRoll, (setReference_spares n _ _).job, findJob_failJob h o]
    | unload =>
      cases waits : j.waitClear with
      | true => simp [jobFate, opened, broken, Job.fate, body, waits, JobBody.isRoll, h]
      | false => simp [jobFate, opened, broken, Job.fate, body, waits, JobBody.isRoll, findJob_failJob h o]
    | sweep r =>
      by_cases running : j.state = .running
      · simp [jobFate, opened, broken, Job.fate, body, running, JobBody.isRoll, JobBody.code, findJob_setJobState _ h]
      · simp [jobFate, opened, broken, Job.fate, body, running, JobBody.isRoll, h]
    | seek => simp [jobFate, opened, broken, Job.fate, body, JobBody.isRoll, JobBody.code, h]
    | fetch => simp [jobFate, opened, broken, Job.fate, body, JobBody.isRoll, JobBody.code, h]
    | indexTo => simp [jobFate, opened, broken, Job.fate, body, JobBody.isRoll, JobBody.code, h]

/-! ### The fate of all jobs -/

/-- With no move in flight the reference was lost at most. -/
def AtMostLost (s t : State) : Prop :=
  s.transport.move = none → t.transport = s.transport ∨ t.transport = { s.transport with reference := .lost }

namespace AtMostLost
variable {s t u : State}

theorem trans (h : AtMostLost s t) (k : AtMostLost t u) : AtMostLost s u := fun idle => by
  rcases h idle with same | lost
  · rcases k (by rw [same]; exact idle) with same' | lost'
    · exact .inl (same'.trans same)
    · exact .inr (by rw [lost', same])
  · rcases k (by rw [lost]; exact idle) with same' | lost'
    · exact .inr (same'.trans lost)
    · exact .inr (by rw [lost', lost])

theorem of_asks (h : Asks s t) : AtMostLost s t := fun idle => .inl (h.transport_eq idle)

theorem refl (s : State) : AtMostLost s s := fun _ => .inl rfl

theorem foldl {f : State → Nat → State} (h : ∀ s m, AtMostLost s (f s m)) (ns : List Nat) (s : State) :
    AtMostLost s (ns.foldl f s) := by
  induction ns generalizing s with
  | nil => exact refl s
  | cons m ns ih => exact (h s m).trans (ih _)

/-- A reference lost before stays lost. -/
theorem lost (h : AtMostLost s t) (idle : s.transport.move = none) (held : s.transport.reference = .lost) :
    t.transport.reference = .lost := by
  rcases h idle with same | lost
  · rw [same, held]
  · rw [lost]

end AtMostLost

theorem failJob_asks (c : Cause) (n : Nat) (s : State) : Asks s (failJob c n s) := (modifyItems_asks n _ s).trans (endJob_asks n _ _ _)

theorem setReference_atMostLost (s : State) : AtMostLost s (setReference .lost s) := fun idle =>
  .inr (setReference_idle_transport .lost idle)

theorem jobFate_atMostLost (c : Cause) (n : Nat) (s : State) : AtMostLost s (jobFate c n s) := by
  unfold jobFate
  (repeat' split)
  · exact .refl s
  · exact .of_asks (failJob_asks c n s)
  · exact .refl s
  · exact (AtMostLost.of_asks (failJob_asks c n s)).trans (setReference_atMostLost _)
  · exact .refl s
  · exact .of_asks (failJob_asks c n s)
  · exact .of_asks (setJobState_asks n _ s)
  · exact .refl s
  · exact .refl s

/-- The fate of a cause for all jobs, taken apart at one of them. -/
theorem applyFate_split {n : Nat} {s : State} (distinct : (jobNumbers s).Nodup) (h : n ∈ jobNumbers s) (c : Cause) :
    ∃ before, Spares n s before ∧ AtMostLost s before ∧ Spares n (jobFate c n before) (applyFate c s) ∧
      AtMostLost (jobFate c n before) (applyFate c s) := by
  obtain ⟨earlier, later, split⟩ := List.append_of_mem h
  rw [split, List.nodup_append, List.nodup_cons] at distinct
  obtain ⟨_, ⟨notLater, _⟩, apart⟩ := distinct
  have all : applyFate c s = later.foldl (fun acc n => jobFate c n acc)
      (jobFate c n (earlier.foldl (fun acc n => jobFate c n acc) s)) := by
    rw [applyFate, split, List.foldl_append, List.foldl_cons]
  refine ⟨earlier.foldl (fun acc n => jobFate c n acc) s, .foldl (fun m hm s => ?_) s, .foldl (fun s m => jobFate_atMostLost c m s) _ s, ?_⟩
  · exact jobFate_spares (fun same => apart m hm n List.mem_cons_self same.symm) c s
  · rw [all]
    exact ⟨.foldl (fun m hm s => jobFate_spares (fun same : n = m => notLater (same ▸ hm)) c s) _, .foldl (fun s m => jobFate_atMostLost c m s) _ _⟩

/-! ### A first fault (R26, R159) -/

/-- The part as a first fault halts it, before the fate of the jobs. -/
def halted (c : Cause) (s : State) : State :=
  haltTransport c (haltArbiter (haltFocus (haltSequencer (s.onFault fun _ =>
    { halted := true, cause := some c, position := some s.transport.position, later := false }))))

theorem reportFault_first {s : State} (h : s.fault.halted = false) (c : Cause) :
    reportFault c s = raise .fault (breakFilm c (applyFate c (halted c s))) := by
  simp [reportFault, halted, h]

/-- The transport of a part that a first fault halted. -/
theorem halted_transport (c : Cause) (s : State) : ∃ t : Transport, t.state = s.transport.state ∧ (halted c s).transport =
    { t with state := .halted, move := none, drive := none, search := none, roll := none, cancelling := false, tensionLimit := false,
             threadLimit := false, stallLimit := false, persistSupply := false, persistTakeUp := false, holdTimer := none,
             tension := if heldAtHalt s.transport.state && !c.slackens then .taut else .slack,
             haltedEmpty := s.transport.state == .empty } := by
  have state : (haltArbiter (haltFocus (haltSequencer (s.onFault fun _ =>
      { halted := true, cause := some c, position := some s.transport.position, later := false })))).transport.state =
      s.transport.state := by
    refine congrArg (fun x => x.motion.state) (?_ : State.coast _ = s.coast)
    simp
  refine ⟨_, state, ?_⟩
  rw [← state]
  unfold halted haltTransport
  rw [refreshMode_transport, State.onTracker_transport, enterState_transport]
  rfl

theorem breakFilm_transport (c : Cause) {s : State} (idle : s.transport.move = none) : (breakFilm c s).transport =
    if c = .filmBreak then { s.transport with broken := true, reference := .lost } else s.transport := by
  unfold breakFilm
  split
  · rw [setReference_idle_transport .lost (by simpa using idle), putBroken_transport]
  · rfl

/-- The transport after a first fault: of what the halt leaves, the reference may be lost and broken be set, by FILM_BREAK always. -/
theorem reportFault_transport {s : State} (h : s.fault.halted = false) (c : Cause) : ∃ r b,
    (reportFault c s).transport = { (halted c s).transport with reference := r, broken := b } ∧
      (c = .filmBreak → r = .lost ∧ b = true) := by
  have idle : (halted c s).transport.move = none := by
    obtain ⟨t, _, transport⟩ := halted_transport c s
    rw [transport]
  have fates : AtMostLost (halted c s) (applyFate c (halted c s)) := .foldl (fun s m => jobFate_atMostLost c m s) _ _
  have fate : ∃ r, (applyFate c (halted c s)).transport = { (halted c s).transport with reference := r } := by
    rcases fates idle with same | lost
    · exact ⟨_, same⟩
    · exact ⟨_, lost⟩
  obtain ⟨r, fate⟩ := fate
  rw [reportFault_first h, raise_transport, breakFilm_transport c (by rw [fate]; exact idle), fate]
  split
  · exact ⟨.lost, true, rfl, fun _ => ⟨rfl, rfl⟩⟩
  · next other => exact ⟨r, _, rfl, fun same => absurd same other⟩

/-! ### The jobs at a first fault -/

theorem haltArbiter_jobs (s : State) : (haltArbiter s).jobs = s.jobs := by
  unfold haltArbiter haltRun
  dsimp only
  (repeat' split) <;> simp [setCaptureHold, setSearchHold, requeueRun, holdItem]

/-- With no capture held the halt itself changes no job. -/
theorem halted_jobs (c : Cause) {s : State} (free : s.capture.holding = none) : (halted c s).jobs = s.jobs := by
  have sequencer (u : State) (h : u.capture.holding = none) : (haltSequencer u).jobs = u.jobs := by simp [haltSequencer, h]
  have focus (u : State) : (haltFocus u).jobs = u.jobs := abandonSearch_jobs u
  have transport (u : State) : (haltTransport c u).jobs = u.jobs := by simp [haltTransport, stopWork]
  unfold halted
  rw [transport, haltArbiter_jobs, focus]
  exact sequencer _ free

theorem raise_spares (n : Nat) (k : NoticeKind) (s : State) : Spares n s (raise k s) := .of_eq rfl rfl rfl rfl

theorem raise_atMostLost (k : NoticeKind) (s : State) : AtMostLost s (raise k s) := fun _ => .inl rfl

theorem breakFilm_spares (n : Nat) (c : Cause) (s : State) : Spares n s (breakFilm c s) := by
  unfold breakFilm
  split
  · have broken : Spares n s (putBroken true s) := by unfold putBroken; split <;> exact .of_eq rfl rfl rfl rfl
    exact broken.trans (setReference_spares n _ _)
  · exact .refl s

/-- A first fault at one job: its own fate, before which and after which it was left alone. -/
theorem reportFault_job {n : Nat} {j : Job} {s : State} (h : s.fault.halted = false) (c : Cause) (sound : JobsSound s)
    (free : s.capture.holding = none) (found : findJob n s = some j) : ∃ before, findJob n before = some j ∧
      before.transport.move = none ∧ Spares n (jobFate c n before) (reportFault c s) ∧
      (c ≠ .filmBreak → AtMostLost (jobFate c n before) (reportFault c s)) := by
  have jobs := halted_jobs c free
  have numbers : jobNumbers (halted c s) = jobNumbers s := congrArg (fun t : Jobs => t.slots.map Job.number) jobs
  have here : findJob n (halted c s) = some j := (findJob_congr jobs n).trans found
  obtain ⟨before, spared, lost, after, lost'⟩ := applyFate_split (numbers ▸ sound.2.1) (findJob_mem here) c
  have idle : (halted c s).transport.move = none := by
    obtain ⟨t, _, transport⟩ := halted_transport c s
    rw [transport]
  refine ⟨before, spared.job.trans here, ?_, ?_, fun other => ?_⟩
  · rcases lost idle with same | lost <;> simp [*]
  · rw [reportFault_first h]
    exact after.trans ((breakFilm_spares n c _).trans (raise_spares n _ _))
  · rw [reportFault_first h, breakFilm, if_neg other]
    exact lost'.trans (raise_atMostLost _ _)

theorem revisitOf_eq_none {c : Capture} {n : Nat} : c.revisitOf n = none ↔ n ∉ c.revisits.map (·.job) := by
  simp [Capture.revisitOf, List.find?_eq_none]

/-- FILM_BREAK at an open job. -/
theorem jobFate_break {n : Nat} {j : Job} {s : State} (h : findJob n s = some j) (o : j.isOpen = true) :
    jobFate .filmBreak n s = failJob .filmBreak n s := by
  simp [jobFate, openJob_of_findJob h o]

/-- Another cause at a LOAD or UNLOAD. -/
theorem jobFate_roll {c : Cause} (other : c ≠ .filmBreak) {n : Nat} {j : Job} {s : State} (h : findJob n s = some j)
    (o : j.isOpen = true) (waits : j.waitClear = false) :
    (j.body = .load → jobFate c n s = setReference .lost (failJob c n s)) ∧ (j.body = .unload → jobFate c n s = failJob c n s) := by
  have opened := openJob_of_findJob h o
  exact ⟨fun body => by simp [jobFate, opened, other, body, waits], fun body => by simp [jobFate, opened, other, body, waits]⟩

/-- Another cause at a LOAD or UNLOAD that does not wait for the clear of a halt: roll_claim is cleared, and a LOAD leaves the reference
LOST. -/
theorem jobFate_roll_claim {c : Cause} (other : c ≠ .filmBreak) {n : Nat} {j : Job} {s : State} (h : findJob n s = some j)
    (o : j.isOpen = true) (waits : j.waitClear = false) (roll : j.body.isRoll = true) (idle : s.transport.move = none) :
    (jobFate c n s).arbiter.rollClaim = false ∧ (jobFate c n s).transport.move = none ∧
      (j.body = .load → (jobFate c n s).transport.reference = .lost) := by
  have claim := (failJob_forgotten (c := c) h o).2.2 roll
  have failed := (failJob_asks c n s).transport_eq idle
  obtain ⟨load, unload⟩ := jobFate_roll other h o waits
  cases body : j.body with
  | load =>
    rw [load body]
    have transport := setReference_idle_transport .lost (s := failJob c n s) (by rw [failed]; exact idle)
    exact ⟨(setReference_spares n _ _).claim claim, by rw [transport, failed]; exact idle, fun _ => by rw [transport]⟩
  | unload =>
    rw [unload body]
    exact ⟨claim, by rw [failed]; exact idle, nofun⟩
  | seek | fetch | sweep | indexTo => simp [body, JobBody.isRoll] at roll

/-! ### The arbiter's part for a run (R132) -/

/-- A run that is current and not withdrawn is taken anew. -/
theorem haltArbiter_run {r : Current} {n : Nat} {s : State} (hc : s.arbiter.current = some r) (job : r.requester = .job n)
    (run : r.kind = .run) (kept : r.stop ≠ some .withdrawn) :
    haltArbiter s = setCaptureHold false (setSearchHold false (haltRun n r (clearCurrent s))) := by
  unfold haltArbiter
  rw [hc]
  dsimp only
  rw [job, run]
  cases stop : r.stop with
  | none => rfl
  | some why =>
    cases why with
    | withdrawn => exact absurd stop kept
    | _ => rfl

/-- What a run taken anew leaves of the arbiter but for its entry. -/
theorem haltRun_arbiter (n : Nat) (r : Current) (s : State) : (haltRun n r s).arbiter.current = s.arbiter.current ∧
    (haltRun n r s).arbiter.yieldCount = s.arbiter.yieldCount ∧ (haltRun n r s).arbiter.runImmune = s.arbiter.runImmune ∧
    (r.stop = some .rescan → (haltRun n r s).arbiter.interrupted = some (.job n)) := by
  have anew : (requeueRun n true s).arbiter.current = s.arbiter.current ∧
      (requeueRun n true s).arbiter.yieldCount = s.arbiter.yieldCount ∧
      (requeueRun n true s).arbiter.runImmune = s.arbiter.runImmune := by
    by_cases counts : s.arbiter.arrival < Config.maxCounter <;> simp [requeueRun, Arbiter.place, Arbiter.remove, counts]
  obtain ⟨current, count, immune⟩ := anew
  unfold haltRun
  dsimp only
  cases r.search <;> split <;> simp_all [holdItem, Arbiter.modifyEntry]

/-- A run that ends its being current ends its occupancy. -/
theorem clearCurrent_run {r : Current} {s : State} (hc : s.arbiter.current = some r) (run : r.kind = .run) :
    (clearCurrent s).arbiter = { s.arbiter with current := none, yieldCount := 0, runImmune := false } := by
  simp [clearCurrent, Arbiter.clearCurrent, hc, run, Arbiter.endOccupancy]

end Sys2Proof.Machine

open Sys2Proof Sys2Proof.Machine

/-- Settles O38: the transport from what the halt and the fates leave of it, each job from its own fate, the run from `haltRun_entry`. -/
theorem haltStopsTransport : Obligations.HaltStopsTransport := by
  unfold Obligations.HaltStopsTransport
  intro c s h
  obtain ⟨t, _, transport⟩ := halted_transport c s
  obtain ⟨r, b, after, break_⟩ := reportFault_transport h c
  rw [transport] at after
  refine ⟨?_, ?_, ?_, ?_, ?_, ?_, ?_, ?_, fun slack => ?_, fun notBreak notRange => ⟨fun taut => ?_, fun slack => ?_⟩, fun broken => ?_,
    fun n j sound free found o => ?_, fun r n hc job run kept arrival => ?_⟩
  · rw [after]
  · rw [after]
  · rw [after]
  · rw [after]
  · rw [after]
  · rw [after]
  · rw [after]
  · rw [after]
  · rw [after]
    rcases slack with rfl | rfl <;> simp [Cause.slackens]
  · have holds : c.slackens = false := by simp [Cause.slackens, notBreak, notRange]
    rw [after, holds]
    rcases taut with h | h | h | h | h <;> simp [h, heldAtHalt]
  · rw [after]
    rcases slack with h | h | h <;> simp [h, heldAtHalt]
  · obtain ⟨lost, broken⟩ := break_ broken
    rw [after]
    exact ⟨lost, broken⟩
  · obtain ⟨before, here, idle, spared, lost⟩ := reportFault_job h c sound free found
    refine ⟨j.fate c before, spared.job.trans (findJob_jobFate c here o), ?_, fun broken => ?_, fun other roll =>
      ⟨fun waits => ?_, fun waits => ?_⟩, fun other roll => ⟨fun sweep running => ?_, fun else_ => ?_⟩⟩
    · unfold Job.fate
      have link : (j.failed c before).link = j.link := (j.mapItems_keeps _).2.1
      (repeat' split) <;> simp [link]
    · subst broken
      obtain ⟨entry, revisits, _⟩ := failJob_forgotten (c := .filmBreak) here o
      rw [jobFate_break here o] at spared
      refine ⟨rfl, rfl, entryOf_eq_none.mpr (spared.entry entry), revisitOf_eq_none.mpr (spared.revisits revisits), ?_⟩
      intro is is' body body' i x y hx hy
      rw [Job.failed_items o body body', List.getElem?_map, hx] at hy
      cases hy
      exact x.failed_outcome
    · simp [Job.fate, other, roll, waits]
    · obtain ⟨claim, idle', load⟩ := jobFate_roll_claim other here o waits roll idle
      have fate : j.fate c before = j.failed c before := by simp [Job.fate, other, roll, waits]
      rw [fate]
      exact ⟨rfl, rfl, spared.claim claim, fun body => (lost other).lost idle' (load body)⟩
    · simp [Job.fate, other, roll, sweep, running]
    · have notSweep : ¬(j.body.code = 5 ∧ j.state = .running) := fun ⟨sweep, running⟩ => else_.elim (· sweep) (· running)
      rw [Job.fate, if_neg other, if_neg (by simp [roll]), if_neg notSweep]
  · rw [haltArbiter_run hc job run kept]
    have cleared := clearCurrent_run hc run
    obtain ⟨current, count, immune, interrupted⟩ := haltRun_arbiter n r (clearCurrent s)
    rw [cleared] at current count immune
    have entry := haltRun_entry n r (clearCurrent s) (by rw [cleared]; exact arrival)
    rw [cleared] at entry
    exact ⟨current, rfl, rfl, count, immune, interrupted, entry⟩

end

section
/-! PROOFS. MOVE_COMPLETE: what the film at rest completes. -/

namespace Sys2Proof.Machine

/-! ### The film at rest, before the arbiter is told (R10, R28, R100) -/

/-- READY with the move in flight ended, and the tracker's pass with it. -/
def passEnded (s : State) : State :=
  refreshMode ((enterState .ready ((driveOff s).onTransport fun t => { t with move := none })).onTracker fun t =>
    { t with heldIdle := false })

/-- The move in flight has completed with an outcome; of the arbiter's part nothing is done yet. -/
def atRest (o : MoveOutcome) (s : State) : State :=
  if o = .stopped ∧ (passEnded s).capture.holding.isNone then disarm (passEnded s) else passEnded s

theorem completeMove_eq (o : MoveOutcome) (s : State) : completeMove o s = legDone o (atRest o s) := rfl

theorem disarm_arbiter (s : State) : (disarm s).arbiter = s.arbiter := rfl

theorem atRest_arbiter (o : MoveOutcome) (s : State) : (atRest o s).arbiter = s.arbiter := by
  have ended : (passEnded s).arbiter = s.arbiter := by
    simp only [passEnded, refreshMode, setMode_arbiter, State.onTracker_arbiter, enterState_arbiter]
    rfl
  unfold atRest
  split
  · rw [disarm_arbiter, ended]
  · exact ended

theorem atRest_jobs (o : MoveOutcome) (s : State) : (atRest o s).jobs = s.jobs := by
  have ended : (passEnded s).jobs = s.jobs := by simp [passEnded, driveOff]
  unfold atRest
  split
  · rw [disarm_jobs, ended]
  · exact ended

theorem atRest_holding (o : MoveOutcome) (s : State) : (atRest o s).capture.holding = s.capture.holding := by
  have ended : (passEnded s).capture = s.capture := by
    simp only [passEnded, refreshMode, setMode_capture, State.onTracker_capture]
    unfold enterState
    split <;> rfl
  unfold atRest
  split
  · show (passEnded s).capture.holding = _
    rw [ended]
  · rw [ended]

/-- The transport of a completed move. -/
def Transport.rested (t : Transport) : Transport := { t with state := .ready, move := none, drive := none, stallLimit := false }

theorem atRest_transport (o : MoveOutcome) (s : State) : (atRest o s).transport = s.transport.rested := by
  have ended : (passEnded s).transport = s.transport.rested := by
    rw [passEnded, refreshMode_transport, State.onTracker_transport, enterState_transport]
    rfl
  unfold atRest
  split
  · exact ended
  · exact ended

/-! ### The last leg of a motion (R122) -/

theorem legDone_main {c : Current} {s : State} (hc : s.arbiter.current = some c) (leg : nextLeg c.leg = none) {o : MoveOutcome}
    (ho : o ≠ .stopped) : legDone o s = motionDone c o s := by
  unfold legDone
  rw [hc]
  simp only [ho, if_false, leg]

/-- A motion that ended leaves the queue to the others; one re-targeted meanwhile stays. -/
def leftQueue (c : Current) (s : State) : State := clearCurrent (dropDone c s)

/-- Leaving the queue touches the arbiter alone, and of it no hold. -/
theorem leftQueue_keeps (c : Current) (s : State) : (leftQueue c s).transport = s.transport ∧ (leftQueue c s).jobs = s.jobs ∧
    (leftQueue c s).capture = s.capture ∧ (leftQueue c s).arbiter.current = none := by
  have dropped : (dropDone c s).transport = s.transport ∧ (dropDone c s).jobs = s.jobs ∧ (dropDone c s).capture = s.capture := by
    unfold dropDone
    (repeat' split) <;> exact ⟨rfl, rfl, rfl⟩
  exact ⟨dropped.1, dropped.2.1, dropped.2.2, rfl⟩

/-- The entry of the motion that ended, as it was selected, leaves the queue. -/
theorem leftQueue_entry {c : Current} {s : State} {q : QEntry} (held : s.arbiter.entryOf c.requester = some q) (kind : q.kind = c.kind)
    (frame : q.frame = c.frame) : (leftQueue c s).arbiter.entryOf c.requester = none := by
  have dropped : dropDone c s = s.onArbiter fun a => a.remove c.requester := by simp [dropDone, held, kind, frame]
  unfold leftQueue
  rw [Arbiter.entryOf, clearCurrent_queue, ← Arbiter.entryOf, dropped]
  exact Arbiter.entryOf_remove _ _

/-! ### SEEK (R143) -/

theorem seekLegDone_open {n : Nat} {j : Job} {s : State} {t : Target} {r : Option Nat} {x : Option MoveOutcome} {y : Option Nat}
    (h : findJob n s = some j) (opened : j.isOpen = true) (body : j.body = .seek t r x y) (o : MoveOutcome) :
    seekLegDone n o s = endJob n .done .none
      (modifyJob n (fun j => { j with body := .seek t r (some o) (some s.transport.position) }) s) := by
  unfold seekLegDone
  rw [openJob_of_findJob h opened]
  cases j
  cases body
  rfl

/-- The SEEK's job ends DONE with the outcome and the position. -/
theorem seekLegDone_ends {n : Nat} {j : Job} {s : State} {t : Target} {r : Option Nat} {x : Option MoveOutcome} {y : Option Nat}
    (h : findJob n s = some j) (opened : j.isOpen = true) (body : j.body = .seek t r x y) (o : MoveOutcome) :
    Asks s (seekLegDone n o s) ∧ (seekLegDone n o s).arbiter.entryOf (.job n) = none ∧
      ∃ k, findJob n (seekLegDone n o s) = some k ∧ k.state = .done ∧ k.endReason = .none ∧
        k.body = .seek t r (some o) (some s.transport.position) := by
  have settled := findJob_modifyJob_same (f := fun j => { j with body := .seek t r (some o) (some s.transport.position) })
    (fun _ => rfl) h
  have opened' : ({ j with body := .seek t r (some o) (some s.transport.position) } : Job).isOpen = true := opened
  rw [seekLegDone_open h opened body]
  exact ⟨(modifyJob_asks n _ s).trans (endJob_asks n _ _ _), endJob_entry (openJob_of_findJob settled opened') _ _,
    _, findJob_endJob settled opened' _ _, rfl, rfl, rfl⟩

/-! ### Submissions with no motion current -/

theorem suspendTest_idle {s : State} (h : s.arbiter.current = none) : suspendTest s = s := by simp [suspendTest, h]

theorem yieldTest_idle {s : State} (h : s.arbiter.current = none) : yieldTest s = s := by simp [yieldTest, h]

theorem place_captureHold (e : QEntry) (a : Arbiter) : (a.place e).captureHold = a.captureHold := by
  unfold Arbiter.place; dsimp only; split <;> rfl

/-- A requester with no entry has one placed, and nothing is asked of the motion. -/
theorem submit_idle_new {r : Requester} {s : State} (idle : s.arbiter.current = none) (new : s.arbiter.entryOf r = none) (cls : QClass)
    (k : QKind) (frame : Option Nat) : submit r cls k frame s = s.onArbiter fun a => a.place
      { requester := r, cls := cls, kind := k, frame := frame, start := startPosition r k frame s, arrival := 0, skip := 0,
        resume := false } := by
  have idle' (e : QEntry) : (s.onArbiter fun a => a.place e).arbiter.current = none := (place_current e s.arbiter).trans idle
  simp [submit, new, suspendTest_idle (idle' _), yieldTest_idle (idle' _)]

theorem submit_idle_held {r : Requester} {s : State} (idle : s.arbiter.current = none) {q : QEntry}
    (held : s.arbiter.entryOf r = some q) (cls : QClass) (k : QKind) (frame : Option Nat) :
    submit r cls k frame s = s.onArbiter fun a => a.modifyEntry r fun e =>
      { e with cls := cls, kind := k, frame := frame, start := startPosition r k frame s } := by
  simp [submit, held, idle, Arbiter.modifyEntry, yieldTest]

/-- With no motion current a submission touches the queue alone. -/
theorem submit_idle_keeps (r : Requester) {s : State} (idle : s.arbiter.current = none) (cls : QClass) (k : QKind) (frame : Option Nat) :
    (submit r cls k frame s).capture = s.capture ∧ (submit r cls k frame s).arbiter.captureHold = s.arbiter.captureHold := by
  cases h : s.arbiter.entryOf r with
  | none =>
    rw [submit_idle_new idle h]
    exact ⟨rfl, place_captureHold _ _⟩
  | some q =>
    rw [submit_idle_held idle h]
    exact ⟨rfl, rfl⟩

/-- The entry placed for a requester that had none: with skip_count 0. -/
theorem place_entry {e : QEntry} {a : Arbiter} (new : a.entryOf e.requester = none) :
    ∃ x, (a.place e).entryOf e.requester = some x ∧ x.kind = e.kind ∧ x.cls = e.cls ∧ x.skip = 0 := by
  unfold Arbiter.entryOf at new
  unfold Arbiter.place Arbiter.entryOf
  dsimp only
  split
  · exact ⟨{ e with arrival := a.arrival, skip := 0 }, by simp [List.find?_append, new], rfl, rfl, rfl⟩
  · simp [renumber, List.find?_map, List.find?_append, new]

theorem submitJob_open {n : Nat} {j : Job} {s : State} (h : findJob n s = some j) (opened : j.isOpen = true) (k : QKind)
    (frame : Option Nat) : submitJob n k frame s = submit (.job n) (if j.urgent then .urgent else .normal) k frame s := by
  simp [submitJob, openJob_of_findJob h opened]

/-! ### INDEX (R141) -/

/-- A job that waits for a BEYOND target, or an INDEX_TO under way. -/
def Job.waits (j : Job) : Prop := j.state = .resolving ∧ j.body.code ≠ 6 ∨ j.state = .running ∧ j.body.code = 6

theorem Job.isOpen_of_waits {j : Job} (h : j.waits) : j.isOpen = true := by
  rcases h with ⟨state, _⟩ | ⟨state, _⟩ <;> simp [Job.isOpen, JobState.isOpen, state]

/-- Short of the position limit a job that waits holds an INDEX entry again. -/
theorem indexLegDone_waits {n : Nat} {j : Job} {s : State} {o : MoveOutcome} (h : findJob n s = some j) (waits : j.waits)
    (short : s.transport.rollEnd ≠ none ∨ o = .rollEnd ∨ s.transport.position + 2 < 16000000) :
    indexLegDone n o s = ensureIndex n s := by
  have within : ¬(s.transport.rollEnd.isNone ∧ o ≠ .rollEnd ∧ Config.maxPosition ≤ s.transport.position + 2) := by
    rintro ⟨noEnd, notEnd, limit⟩
    rcases short with held | end_ | below
    · exact held (Option.isNone_iff_eq_none.mp noEnd)
    · exact notEnd end_
    · exact absurd limit (by unfold Config.maxPosition; omega)
  unfold indexLegDone
  rw [if_neg within, openJob_of_findJob h (Job.isOpen_of_waits waits)]
  rcases waits with ⟨state, code⟩ | ⟨state, code⟩ <;> cases body : j.body <;> simp_all [JobBody.code]

/-- A job with no entry is given an INDEX entry. -/
theorem ensureIndex_new {n : Nat} {j : Job} {s : State} (h : findJob n s = some j) (opened : j.isOpen = true)
    (idle : s.arbiter.current = none) (new : s.arbiter.entryOf (.job n) = none) :
    ∃ x, (ensureIndex n s).arbiter.entryOf (.job n) = some x ∧ x.kind = .index ∧ x.skip = 0 ∧
      x.cls = (if j.urgent then .urgent else .normal) := by
  have placed : ensureIndex n s = submit (.job n) (if j.urgent then .urgent else .normal) .index none s := by
    simp [ensureIndex, new, submitJob_open h opened]
  rw [placed, submit_idle_new idle new]
  obtain ⟨x, entry, kind, cls, skip⟩ := place_entry (a := s.arbiter) (e :=
    { requester := .job n, cls := if j.urgent then .urgent else .normal, kind := .index, frame := none,
      start := startPosition (.job n) .index none s, arrival := 0, skip := 0, resume := false }) new
  exact ⟨x, entry, kind, skip, cls⟩

/-! ### A FETCH whose capture was given up (R108, R145) -/

/-- An item ready for its capture is chosen, or another nearer. -/
theorem nearestItem_isSome (s : State) {is : List Item} {i : Item} (h : i ∈ is) (ready : i.ready = true) (k : Nat) :
    ∃ m d, nearestItem s k is = some (m, d) := by
  induction is generalizing k with
  | nil => cases h
  | cons x xs ih =>
    unfold nearestItem
    dsimp only
    cases later : nearestItem s (k + 1) xs with
    | none =>
      rcases List.mem_cons.mp h with same | inLater
      · exact ⟨k, _, by rw [← same, if_pos ready]⟩
      · obtain ⟨m, d, found⟩ := ih inLater (k + 1)
        simp [later] at found
    | some found =>
      dsimp only
      split
      · exact ⟨_, _, rfl⟩
      · exact ⟨_, _, rfl⟩

theorem fetchChoose_ready {n : Nat} {j : Job} {s : State} {is : List Item} (h : findJob n s = some j) (opened : j.isOpen = true)
    (body : j.body = .fetch is) {k d : Nat} (chosen : nearestItem s 1 is = some (k, d)) :
    fetchChoose n s = submitJob n .item ((is[k - 1]?).bind fun i => i.resolved)
      (setJobState n .running (modifyItem n k (fun i => { i with inCapture := true }) s)) := by
  unfold fetchChoose
  rw [openJob_of_findJob h opened]
  cases j
  cases body
  dsimp only
  rw [chosen]

/-- The item is not in capture. -/
def Item.released (i : Item) : Item := { i with inCapture := false }

/-- The item is in capture. -/
def Item.chosen (i : Item) : Item := { i with inCapture := true }

theorem jobUnfired_fetch {a : Armed} {j : Job} {s : State} {is : List Item} (h : findJob a.job s = some j) (opened : j.isOpen = true)
    (body : j.body = .fetch is) :
    jobUnfired a s = fetchChoose a.job (modifyItem a.job (a.item.getD 0) Item.released s) := by
  unfold jobUnfired
  rw [openJob_of_findJob h opened]
  cases j
  cases body
  rfl

/-- A change of one item of an open FETCH. -/
theorem findJob_modifyItem {n k : Nat} {f : Item → Item} {j : Job} {s : State} {is : List Item} (h : findJob n s = some j)
    (opened : j.isOpen = true) (body : j.body = .fetch is) :
    findJob n (modifyItem n k f s) = some { j with body := .fetch (is.modify (k - 1) f) } := by
  rw [modifyItem, findJob_modifyItems_same _ h, Job.mapItems_fetch _ body opened]

/-- A change that keeps an item's outcome and frame keeps those of every item. -/
theorem getElem?_modify_item {is : List Item} {i : Item} {p : Nat} (h : is[p]? = some i) {f : Item → Item}
    (outcome : ∀ x, (f x).outcome = x.outcome) (resolved : ∀ x, (f x).resolved = x.resolved) (q : Nat) :
    ∃ i', (is.modify q f)[p]? = some i' ∧ i'.outcome = i.outcome ∧ i'.resolved = i.resolved := by
  by_cases same : q = p
  · subst same
    exact ⟨f i, by simp [h], outcome i, resolved i⟩
  · exact ⟨i, by simp [same, h], rfl, rfl⟩

/-- A FETCH whose item in capture is given up unfired chooses again: that item is still PENDING, and the job holds an ITEM entry. -/
theorem jobUnfired_chooses {a : Armed} {j : Job} {s : State} {is : List Item} {k : Nat} {i : Item} (h : findJob a.job s = some j)
    (opened : j.isOpen = true) (body : j.body = .fetch is) (item : a.item = some k) (held : is[k - 1]? = some i)
    (pending : i.outcome = .pending) (resolved : i.resolved ≠ none) (idle : s.arbiter.current = none) :
    Asks s (jobUnfired a s) ∧ (jobUnfired a s).capture = s.capture ∧
      (jobUnfired a s).arbiter.captureHold = s.arbiter.captureHold ∧
      (∃ x, (jobUnfired a s).arbiter.entryOf (.job a.job) = some x ∧ x.kind = .item) ∧
      ∃ j' is' i', findJob a.job (jobUnfired a s) = some j' ∧ j'.state = .running ∧ j'.body = .fetch is' ∧
        is'[k - 1]? = some i' ∧ i'.outcome = .pending ∧ i'.resolved = i.resolved := by
  have released := findJob_modifyItem (k := k) (f := Item.released) h opened body
  have ready : (Item.released i).ready = true := by
    simp [Item.ready, Item.released, pending, Option.isSome_iff_ne_none, resolved]
  have inList : Item.released i ∈ is.modify (k - 1) Item.released :=
    List.mem_of_getElem? (i := k - 1) (by simp [held])
  obtain ⟨m, d, chosen⟩ := nearestItem_isSome (modifyItem a.job k Item.released s) inList ready 1
  have marked := findJob_modifyItem (k := m) (f := Item.chosen) released (by exact opened) rfl
  have running := findJob_setJobState .running marked
  have unfired : jobUnfired a s = submit (.job a.job) (if j.urgent then .urgent else .normal) .item
      (((is.modify (k - 1) Item.released)[m - 1]?).bind fun i => i.resolved)
      (setJobState a.job .running (modifyItem a.job m Item.chosen (modifyItem a.job k Item.released s))) := by
    rw [jobUnfired_fetch h opened body, item, Option.getD_some, fetchChoose_ready released (by exact opened) rfl chosen]
    exact submitJob_open running rfl _ _
  rw [unfired]
  have idle' : (setJobState a.job .running (modifyItem a.job m Item.chosen (modifyItem a.job k Item.released s))).arbiter.current = none :=
    idle
  obtain ⟨capture, hold⟩ := submit_idle_keeps (.job a.job) idle' (if j.urgent then .urgent else .normal) .item
    (((is.modify (k - 1) Item.released)[m - 1]?).bind fun i => i.resolved)
  obtain ⟨x, entry, kind, _⟩ := submit_entry (.job a.job) (if j.urgent then .urgent else .normal) .item
    (((is.modify (k - 1) Item.released)[m - 1]?).bind fun i => i.resolved)
    (setJobState a.job .running (modifyItem a.job m Item.chosen (modifyItem a.job k Item.released s)))
  obtain ⟨i1, at1, outcome1, resolved1⟩ := getElem?_modify_item held (f := Item.released) (fun _ => rfl) (fun _ => rfl) (k - 1)
  obtain ⟨i2, at2, outcome2, resolved2⟩ := getElem?_modify_item at1 (f := Item.chosen) (fun _ => rfl) (fun _ => rfl) (m - 1)
  have asks : Asks s (setJobState a.job .running (modifyItem a.job m Item.chosen (modifyItem a.job k Item.released s))) := .of_eq rfl rfl
  refine ⟨asks.trans (submit_asks _ _ _ _ _), capture, hold, ⟨x, entry, kind⟩, _, _, i2,
    (findJob_congr (submit_jobs _ _ _ _ _) _).trans running, rfl, rfl, at2, ?_, ?_⟩
  · rw [outcome2, outcome1, pending]
  · rw [resolved2, resolved1]

end Sys2Proof.Machine
end

section
/-! PROOFS. The outcomes of MOVE_COMPLETE: searches at rest, and the motions of the arbiter. -/

namespace Sys2Proof.Machine

/-! ### Reference searches at rest (R17 to R19, R21) -/

theorem turnTravel_jobs (d : Direction) (s : State) : (turnTravel d s).jobs = s.jobs := by
  unfold turnTravel newPass setTravel
  (repeat' split) <;> simp

theorem startForwardSearch_jobs (s : State) : (startForwardSearch s).jobs = s.jobs := turnTravel_jobs .forward s

/-- A search under way, its move not disturbed, comes to rest by its phase. -/
theorem motionStops_search {r : LeaderSearch} {s : State} (state : s.transport.state = .referencing)
    (goes : s.transport.cancelling = false) (search : s.transport.search = some r)
    (free : ∀ m, s.transport.move = some m → m.stopping = false ∧ m.retargeted = false) :
    (r.phase = .turning → motionStops s = startForwardSearch s) ∧ (r.phase = .arriving → motionStops s = searchArrived s) := by
  obtain ⟨phase, travel⟩ := r
  obtain ⟨stopping, retargeted⟩ := search_undisturbed free
  refine ⟨fun h => ?_, fun h => ?_⟩ <;> cases h <;> simp [motionStops, state, searchAtRest, goes, stopping, retargeted, search]

/-- READY, the search and the move in flight ended. -/
def arrived (s : State) : State := enterState .ready ((endSearch s).onTransport fun t => { t with move := none })

theorem arrived_transport (s : State) :
    (arrived s).transport = { s.transport with search := none, roll := none, move := none, state := .ready } := by
  rw [arrived, enterState_transport]
  rfl

theorem arrived_jobs (s : State) : (arrived s).jobs = s.jobs := enterState_jobs .ready _

theorem arrived_arbiter (s : State) : (arrived s).arbiter = s.arbiter := enterState_arbiter .ready _

theorem searchArrived_load {s : State} (load : s.transport.roll = some .load) :
    searchArrived s = endRollJob .done .none (arrived s) := by simp [searchArrived, arrived, load]

theorem searchArrived_record {s : State} (noRoll : s.transport.roll = none) : searchArrived s = legDone .reached (arrived s) := by
  simp [searchArrived, arrived, noRoll]

/-- The job of the roll is open, is found by its number, and is a LOAD or UNLOAD. -/
theorem rollJob_found {j : Job} {s : State} (sound : JobsSound s) (h : rollJob s = some j) :
    findJob j.number s = some j ∧ j.isOpen = true ∧ j.body.isRoll = true := by
  have isRoll : j.isOpen = true ∧ j.body.isRoll = true := by simpa [rollJob] using List.find?_some h
  exact ⟨findJob_of_mem sound (List.mem_of_find?_eq_some h), isRoll.1, isRoll.2⟩

/-- The LOAD ends DONE. -/
theorem searchArrived_load_ends {j : Job} {s : State} (load : s.transport.roll = some .load) (sound : JobsSound s)
    (h : rollJob s = some j) : (searchArrived s).transport = (arrived s).transport ∧ (searchArrived s).arbiter.rollClaim = false ∧
      ∃ k, findJob j.number (searchArrived s) = some k ∧ k.state = .done ∧ k.endReason = .none ∧ k.link = j.link := by
  obtain ⟨found, opened, roll⟩ := rollJob_found sound h
  have found' := (findJob_congr (arrived_jobs s) j.number).trans found
  have same : rollJob (arrived s) = some j := by rw [← h]; simp [rollJob, arrived_jobs]
  have ends : searchArrived s = endJob j.number .done .none (arrived s) := by rw [searchArrived_load load, endRollJob, same]
  rw [ends]
  refine ⟨(endJob_asks _ _ _ _).transport_eq (by rw [arrived_transport]), ?_, _, findJob_endJob found' opened _ _, rfl, rfl, rfl⟩
  rw [endJob_rollClaim (openJob_of_findJob found' opened), if_pos roll]

/-- The REFERENCE record completes and leaves the queue. -/
theorem legDone_reference {c : Current} {s : State} (hc : s.arbiter.current = some c) (kind : c.kind = .reference)
    (leg : c.leg = .reference) : legDone .reached s = clearCurrent (s.onArbiter fun a => a.remove c.requester) := by
  rw [legDone_main hc (by rw [leg]; rfl) (by decide), motionDone, kind]

/-- Slack reels in RESTING, and nothing else. -/
theorem cancelledAtRest_transport (s : State) :
    (cancelledAtRest s).transport = { s.transport with cancelling := false, tension := .slack, state := .resting } := by
  rw [cancelledAtRest, enterState_transport]
  rfl

theorem cancelledAtRest_onlyTransport (s : State) : OnlyTransport s (cancelledAtRest s) := by
  unfold cancelledAtRest enterState
  split <;> rfl

theorem motionStops_cancelled {s : State} (state : s.transport.state = .referencing ∨ s.transport.state = .rewinding)
    (cancelling : s.transport.cancelling = true) : motionStops s = cancelledAtRest s := by
  rcases state with h | h <;> simp [motionStops, searchAtRest, h, cancelling]

/-! ### Moves at rest (R10) -/

theorem restOutcome_far {m : MoveRecord} {pos : Nat} (goes : m.stopping = false) (far : pos > m.target + 2 ∨ m.target > pos + 2) :
    restOutcome m pos = none := by
  simp [restOutcome, goes, two_lt_dist far]

theorem restOutcome_done {m : MoveRecord} {pos : Nat} {o : MoveOutcome} (h : (m.stopping = true ∧ o = .stopped) ∨
    (m.stopping = false ∧ pos ≤ m.target + 2 ∧ m.target ≤ pos + 2 ∧
      o = (if m.retargeted then .rollEnd else if m.clamped then .clamped else .reached))) : restOutcome m pos = some o := by
  rcases h with ⟨stops, rfl⟩ | ⟨goes, below, above, rfl⟩
  · simp [restOutcome, stops]
  · have near : dist pos m.target ≤ 2 := by unfold dist; omega
    simp [restOutcome, goes, near]

theorem motionStops_done {m : MoveRecord} {s : State} {o : MoveOutcome} (state : s.transport.state = .moving)
    (hm : s.transport.move = some m) (done : restOutcome m s.transport.position = some o) : motionStops s = completeMove o s := by
  simp [motionStops, state, hm, done]

theorem motionStops_under_way {m : MoveRecord} {s : State} (state : s.transport.state = .moving)
    (hm : s.transport.move = some m) (goes : restOutcome m s.transport.position = none) : motionStops s = s := by
  simp [motionStops, state, hm, goes]

theorem exec_moveComplete {s : State} (driven : s.transport.state.driven = true) :
    exec .moveComplete s = .next (settle (motionStops s)) := by
  show Host.Outcome.next (taken _ _ _) = _
  rw [taken, if_pos driven]

/-! ### Motions that a completed move ends (R122) -/

section Completed
variable {c : Current} {o : MoveOutcome} {s : State}

/-- The arbiter is told of the last leg of a motion. -/
theorem completeMove_last (hc : s.arbiter.current = some c) (leg : c.leg = .main) (ho : o ≠ .stopped) :
    completeMove o s = motionDone c o (atRest o s) := by
  rw [completeMove_eq]
  exact legDone_main (by rw [atRest_arbiter, hc]) (by rw [leg]; rfl) ho

/-- The state of a move that ended with its motion: READY, no move, no drive, no motion current. -/
def Ended (s u : State) : Prop := u.transport = s.transport.rested ∧ u.arbiter.current = none

theorem Ended.of_asks {u v : State} (h : Ended s u) (asks : Asks u v) : Ended s v :=
  ⟨(asks.transport_eq (by rw [h.1]; rfl)).trans h.1, asks.current_none h.2⟩

theorem leftQueue_ended (c : Current) (o : MoveOutcome) (s : State) : Ended s (leftQueue c (atRest o s)) := by
  obtain ⟨transport, _, _, current⟩ := leftQueue_keeps c (atRest o s)
  exact ⟨transport.trans (atRest_transport o s), current⟩

theorem findJob_leftQueue (c : Current) (o : MoveOutcome) (n : Nat) (s : State) :
    findJob n (leftQueue c (atRest o s)) = findJob n s :=
  findJob_congr ((leftQueue_keeps c (atRest o s)).2.1.trans (atRest_jobs o s)) n

/-- A SEEK motion's last leg ends its job DONE (R143). -/
theorem completeMove_seek {n : Nat} {j : Job} {t : Target} {r : Option Nat} {x : Option MoveOutcome} {y : Option Nat}
    (hc : s.arbiter.current = some c) (job : c.requester = .job n) (kind : c.kind = .seek) (leg : c.leg = .main) (ho : o ≠ .stopped)
    (found : findJob n s = some j) (opened : j.isOpen = true) (body : j.body = .seek t r x y) :
    Ended s (completeMove o s) ∧ (completeMove o s).arbiter.entryOf (.job n) = none ∧
      ∃ k, findJob n (completeMove o s) = some k ∧ k.state = .done ∧ k.endReason = .none ∧
        k.body = .seek t r (some o) (some s.transport.position) := by
  have done : completeMove o s = seekLegDone n o (leftQueue c (atRest o s)) := by
    rw [completeMove_last hc leg ho]
    unfold motionDone
    rw [kind, job]
    rfl
  have ended := leftQueue_ended c o s
  obtain ⟨asks, entry, k, found', state, why, record⟩ :=
    seekLegDone_ends ((findJob_leftQueue c o n s).trans found) opened body o
  rw [ended.1] at record
  rw [done]
  exact ⟨ended.of_asks asks, entry, k, found', state, why, record⟩

/-- A motion stopped with no capture held leaves its entry queued (R122). -/
theorem completeMove_stopped (hc : s.arbiter.current = some c) (notTracker : c.requester ≠ .tracker) (notRun : c.kind ≠ .run)
    (cause : c.stop = none ∨ c.stop = some .lossOfRef ∨ c.stop = some .rollClaim) (free : s.capture.holding = none) :
    Ended s (completeMove .stopped s) ∧ (completeMove .stopped s).arbiter.queue = s.arbiter.queue := by
  have current : (atRest .stopped s).arbiter.current = some c := by rw [atRest_arbiter, hc]
  have told : legStopped c (atRest .stopped s) = stationaryMoved .stopped (clearCurrent (atRest .stopped s)) := by
    unfold legStopped
    split
    · rfl
    · next run => exact absurd run notRun
    · next run => exact absurd run notRun
    · next run => exact absurd run notRun
    · next run => exact absurd run notRun
    · next tracker _ _ => exact absurd tracker notTracker
    · next rescan _ => rcases cause with h | h | h <;> simp [h] at rescan
    · next preempted _ => rcases cause with h | h | h <;> simp [h] at preempted
    · rfl
  have holding : (clearCurrent (atRest .stopped s)).capture.holding = none := (atRest_holding .stopped s).trans free
  have done : completeMove .stopped s = clearCurrent (atRest .stopped s) := by
    rw [completeMove_eq, legDone, current]
    simp [told, stationaryMoved, holding]
  rw [done]
  exact ⟨⟨atRest_transport .stopped s, rfl⟩, by rw [clearCurrent_queue, atRest_arbiter]⟩

/-- An ITEM motion's last leg hands its motion to the sequencer. -/
theorem completeMove_item (hc : s.arbiter.current = some c) (kind : c.kind = .item) (leg : c.leg = .main) (ho : o ≠ .stopped) :
    completeMove o s = stationaryMoved o (leftQueue c (atRest o s)) := by
  rw [completeMove_last hc leg ho]
  unfold motionDone
  rw [kind]
  rfl

theorem leftQueue_holding (c : Current) (o : MoveOutcome) (s : State) :
    (leftQueue c (atRest o s)).capture.holding = s.capture.holding :=
  (congrArg Capture.holding (leftQueue_keeps c (atRest o s)).2.2.1).trans (atRest_holding o s)

/-- The frame is at the axis: its capture begins under the capture hold (R108, R123). -/
theorem stationaryMoved_axis {h : Stationary} (held : s.capture.holding = some h) (ho : o = .reached ∨ o = .clamped) :
    stationaryMoved o s = setPhase .atAxis (setCaptureHold true s) := by
  rcases ho with rfl | rfl <;> simp [stationaryMoved, held]

/-- At the roll's end the capture is given up (R108). -/
theorem stationaryMoved_rollEnd {h : Stationary} (held : s.capture.holding = some h) :
    stationaryMoved .rollEnd s = returnUnfired h.trigger s := by simp [stationaryMoved, held]

/-- The capture held is given up, its job not yet told. -/
def givenUp (s : State) : State := release ((disarm s).onCapture fun c => { c with holding := none })

/-- Giving up a capture asks nothing, and no capture is held. -/
theorem givenUp_keeps (s : State) : Asks s (givenUp s) ∧ (givenUp s).jobs = s.jobs ∧ (givenUp s).capture.holding = none ∧
    (givenUp s).arbiter.captureHold = false := ⟨.of_eq rfl rfl, rfl, rfl, rfl⟩

theorem returnUnfired_eq (a : Armed) (s : State) : returnUnfired a s = jobUnfired a (givenUp s) := rfl

/-- An INDEX motion's last leg, short of the position limit: the job that waits submits anew (R141). -/
theorem completeMove_index {n : Nat} {j : Job} {q : QEntry} (hc : s.arbiter.current = some c) (job : c.requester = .job n)
    (kind : c.kind = .index) (leg : c.leg = .main) (ho : o ≠ .stopped) (held : s.arbiter.entryOf (.job n) = some q)
    (same : q.kind = c.kind) (frame : q.frame = c.frame) (found : findJob n s = some j) (waits : j.waits)
    (short : s.transport.rollEnd ≠ none ∨ o = .rollEnd ∨ s.transport.position + 2 < 16000000) :
    Ended s (completeMove o s) ∧ (completeMove o s).jobs = s.jobs ∧
      ∃ x, (completeMove o s).arbiter.entryOf (.job n) = some x ∧ x.kind = .index ∧ x.skip = 0 ∧
        x.cls = (if j.urgent then .urgent else .normal) := by
  have done : completeMove o s = indexLegDone n o (leftQueue c (atRest o s)) := by
    rw [completeMove_last hc leg ho]
    unfold motionDone
    rw [kind, job]
    rfl
  have ended := leftQueue_ended c o s
  have found' := (findJob_leftQueue c o n s).trans found
  have left : (leftQueue c (atRest o s)).arbiter.entryOf (.job n) = none := by
    rw [← job] at held ⊢
    exact leftQueue_entry (by rw [atRest_arbiter, held]) same frame
  rw [done, indexLegDone_waits found' waits (by rw [ended.1]; exact short)]
  refine ⟨ended.of_asks (ensureIndex_asks n _), ?_, ensureIndex_new found' (Job.isOpen_of_waits waits) ended.2 left⟩
  rw [ensureIndex_jobs, (leftQueue_keeps c _).2.1, atRest_jobs]

end Completed

end Sys2Proof.Machine

open Sys2Proof Sys2Proof.Machine

/-- Settles O39: searches at rest by their phase, and moves at rest by their outcome and by the motion that they end. -/
theorem moveOutcomes : Obligations.MoveOutcomes := by
  unfold Obligations.MoveOutcomes
  refine fun s => ⟨fun notMoving notReferencing notRewinding => ?_, fun j state goes noMove load phase roll sound => ?_,
    fun r state goes search free => ⟨fun phase => ?_, fun m c phase noRoll hm hc requester kind leg => ?_⟩, fun state cancelling => ?_,
    fun state goes => ?_, fun m state hm => ⟨fun going far => ?_, fun o => ?_, fun o outcome => ⟨?_, ?_, ?_, ?_, ?_, ?_⟩⟩⟩
  · have driven : s.transport.state.driven = false := by
      cases h : s.transport.state <;> simp_all [TransportState.driven]
    exact exec_taken_none rfl driven
  · obtain ⟨r, search, arriving⟩ := Option.map_eq_some_iff.mp phase
    have stops := (motionStops_search state goes search (by simp [noMove])).2 arriving
    obtain ⟨transport, claim, k, found, ends⟩ := searchArrived_load_ends load sound roll
    refine ⟨_, exec_moveComplete (by rw [state]; rfl), ?_⟩
    rw [stops]
    dsimp only
    rw [transport, arrived_transport]
    obtain ⟨done, why, link⟩ := ends
    exact ⟨rfl, rfl, rfl, rfl, claim, k, found, done, why, link⟩
  · refine ⟨_, exec_moveComplete (by rw [state]; rfl), ?_⟩
    rw [(motionStops_search state goes search free).1 phase]
    obtain ⟨d, dir, speed, transport⟩ := startForwardSearch_transport s
    rw [transport]
    exact ⟨state, rfl, rfl, by simp [dir, speed], rfl, rfl, startForwardSearch_jobs s⟩
  · refine ⟨_, exec_moveComplete (by rw [state]; rfl), ?_⟩
    have current : (arrived s).arbiter.current = some c := by rw [arrived_arbiter, hc]
    rw [(motionStops_search state goes search free).2 phase, searchArrived_record noRoll, legDone_reference current kind leg, requester]
    have transport : (clearCurrent ((arrived s).onArbiter fun a => a.remove .transport)).transport = _ := arrived_transport s
    dsimp only
    rw [transport]
    refine ⟨rfl, rfl, rfl, rfl, ?_, rfl, rfl, arrived_jobs s⟩
    rw [Arbiter.entryOf, clearCurrent_queue]
    exact Arbiter.entryOf_remove .transport _
  · have driven : s.transport.state.driven = true := by rcases state with h | h <;> rw [h] <;> rfl
    refine ⟨_, exec_moveComplete driven, ?_⟩
    rw [motionStops_cancelled state cancelling]
    dsimp only
    rw [cancelledAtRest_transport]
    exact ⟨rfl, rfl, rfl, rfl, rfl, cancelledAtRest_onlyTransport s⟩
  · rw [exec_moveComplete (by rw [state]; rfl)]
    simp [motionStops, state, goes]
  · rw [exec_moveComplete (by rw [state]; rfl), motionStops_under_way state hm (restOutcome_far going far)]
  · exact congrArg (fun x => x.base.position) (completeMove_still o s)
  · rw [exec_moveComplete (by rw [state]; rfl), motionStops_done state hm (restOutcome_done outcome)]
  · intro c n j t r x y hc job kind leg ho _ found opened body
    obtain ⟨⟨transport, current⟩, entry, record⟩ := completeMove_seek hc job kind leg ho found opened body
    rw [transport]
    exact ⟨rfl, rfl, rfl, current, entry, record⟩
  · rintro c hc rfl notTracker notRun cause free
    obtain ⟨⟨transport, current⟩, queue⟩ := completeMove_stopped hc notTracker notRun cause free
    rw [transport]
    exact ⟨rfl, rfl, rfl, current, queue⟩
  · intro c n h q hc job kind leg _ held _ entry item frame ho
    have notStopped : o ≠ .stopped := by rcases ho with rfl | rfl <;> decide
    obtain ⟨transport, current⟩ := leftQueue_ended c o s
    have holding := (leftQueue_holding c o s).trans held
    rw [completeMove_item hc kind leg notStopped, stationaryMoved_axis holding ho]
    have left : (leftQueue c (atRest o s)).arbiter.entryOf (.job n) = none := by
      rw [← job] at entry ⊢
      exact leftQueue_entry (by rw [atRest_arbiter, entry]) (by rw [item, kind]) frame
    refine ⟨congrArg Transport.state transport, congrArg Transport.move transport, current, left, rfl, ?_⟩
    exact congrArg (Option.map fun h : Stationary => { h with phase := .atAxis }) holding
  · rintro c n h q j is k i hc job kind leg held rfl entry item frame rfl sound found opened body hk hi pending resolved
    have ended := leftQueue_ended c .rollEnd s
    have holding := (leftQueue_holding c .rollEnd s).trans held
    obtain ⟨asks, jobs, none_held, hold⟩ := givenUp_keeps (leftQueue c (atRest .rollEnd s))
    have ended' := ended.of_asks asks
    have found' := (findJob_congr jobs h.trigger.job).trans ((findJob_leftQueue c .rollEnd _ s).trans found)
    obtain ⟨chooses, capture, captureHold, anew, record⟩ := jobUnfired_chooses found' opened body hk hi pending resolved ended'.2
    rw [completeMove_item hc kind leg (by decide), stationaryMoved_rollEnd holding, returnUnfired_eq]
    obtain ⟨transport, current⟩ := ended'.of_asks chooses
    exact ⟨congrArg Transport.state transport, congrArg Transport.move transport, current, captureHold.trans hold,
      (congrArg Capture.holding capture).trans none_held, anew, record⟩
  · intro c n q j hc job kind leg ho entry index frame _ found waits short
    obtain ⟨⟨transport, current⟩, jobs, anew⟩ :=
      completeMove_index hc job kind leg ho entry (index.trans kind.symm) frame found waits short
    exact ⟨congrArg Transport.state transport, current, jobs, anew⟩

end

section
/-! PROOFS. The address of a committed entry, and the splice table. -/

namespace Sys2Proof.Machine

/-! ### Addresses (R39) -/

theorem Address.lt_next_batch (a : Address) (d p : Nat) : a.lt ⟨a.batch + 1, d, p⟩ = true := by simp [Address.lt]
theorem Address.lt_next_document (a : Address) (p : Nat) : a.lt ⟨a.batch, a.document + 1, p⟩ = true := by simp [Address.lt]
theorem Address.lt_next_page (a : Address) : a.lt ⟨a.batch, a.document, a.page + 1⟩ = true := by simp [Address.lt]

/-- Whatever counter the level raises, the address rises. -/
theorem nextAddress_ascends {start a b : Address} {level : Nat} (h : nextAddress start (some a) level = some b) : a.lt b = true := by
  unfold nextAddress at h
  dsimp only at h
  split at h
  · split at h
    · cases h; exact a.lt_next_batch 1 1
    · cases h
  · split at h
    · split at h
      · cases h; exact a.lt_next_document 1
      · cases h
    · split at h
      · cases h; exact a.lt_next_page
      · cases h

/-! ### A span widened over those it meets (R46) -/

theorem meets_iff {a b x y : Nat} : meets a b x y = true ↔ a ≤ y ∧ x ≤ b := by simp [meets]

/-- A span is widened by one that the new span meets. -/
def widen (sp acc x : Span) : Span :=
  if meets sp.start sp.finish x.start x.finish then { start := min acc.start x.start, finish := max acc.finish x.finish } else acc

theorem absorb_eq (sp : Span) (tb : List Span) : absorb sp tb = tb.foldl (widen sp) sp := rfl

/-- `out` is `acc` widened over the spans of `tb` that `sp` meets: it covers them, and each of its ends is an end of one of them. -/
structure Widened (sp acc : Span) (tb : List Span) (out : Span) : Prop where
  start_le  : out.start ≤ acc.start
  le_finish : acc.finish ≤ out.finish
  covers    : ∀ x ∈ tb, meets sp.start sp.finish x.start x.finish = true → out.start ≤ x.start ∧ x.finish ≤ out.finish
  start_of  : out.start = acc.start ∨ ∃ x ∈ tb, meets sp.start sp.finish x.start x.finish = true ∧ out.start = x.start
  finish_of : out.finish = acc.finish ∨ ∃ x ∈ tb, meets sp.start sp.finish x.start x.finish = true ∧ out.finish = x.finish

theorem foldl_widened (sp : Span) (tb : List Span) (acc : Span) : Widened sp acc tb (tb.foldl (widen sp) acc) := by
  induction tb generalizing acc with
  | nil => exact ⟨le_rfl, le_rfl, nofun, .inl rfl, .inl rfl⟩
  | cons x xs ih =>
    obtain ⟨start_le, le_finish, covers, start_of, finish_of⟩ := ih (widen sp acc x)
    rw [List.foldl_cons]
    by_cases met : meets sp.start sp.finish x.start x.finish = true
    · have wide : widen sp acc x = { start := min acc.start x.start, finish := max acc.finish x.finish } := if_pos met
      rw [wide] at start_le le_finish start_of finish_of ⊢
      dsimp only at start_le le_finish start_of finish_of
      refine ⟨start_le.trans (min_le_left ..), (le_max_left ..).trans le_finish, ?_, ?_, ?_⟩
      · intro y hy hmet
        rcases List.mem_cons.mp hy with rfl | hy
        · exact ⟨start_le.trans (min_le_right ..), (le_max_right ..).trans le_finish⟩
        · rw [wide] at covers; exact covers y hy hmet
      · rcases start_of with same | ⟨y, hy, hmet, same⟩
        · rcases Nat.le_total acc.start x.start with le | le
          · exact .inl (same.trans (min_eq_left le))
          · exact .inr ⟨x, List.mem_cons_self, met, same.trans (min_eq_right le)⟩
        · exact .inr ⟨y, List.mem_cons_of_mem x hy, hmet, same⟩
      · rcases finish_of with same | ⟨y, hy, hmet, same⟩
        · rcases Nat.le_total acc.finish x.finish with le | le
          · exact .inr ⟨x, List.mem_cons_self, met, same.trans (max_eq_right le)⟩
          · exact .inl (same.trans (max_eq_left le))
        · exact .inr ⟨y, List.mem_cons_of_mem x hy, hmet, same⟩
    · have same : widen sp acc x = acc := if_neg met
      rw [same] at start_le le_finish covers start_of finish_of ⊢
      refine ⟨start_le, le_finish, ?_, start_of.imp_right ?_, finish_of.imp_right ?_⟩
      · intro y hy hmet
        rcases List.mem_cons.mp hy with rfl | hy
        · exact absurd hmet met
        · exact covers y hy hmet
      · exact fun ⟨y, hy, h⟩ => ⟨y, List.mem_cons_of_mem x hy, h⟩
      · exact fun ⟨y, hy, h⟩ => ⟨y, List.mem_cons_of_mem x hy, h⟩

theorem absorb_widened (sp : Span) (tb : List Span) : Widened sp sp tb (absorb sp tb) := foldl_widened sp tb sp

theorem mem_apart {sp x : Span} {tb : List Span} : x ∈ apart sp tb ↔ x ∈ tb ∧ (x.finish < sp.start ∨ sp.finish < x.start) := by
  rw [apart, List.mem_filter]
  refine and_congr_right fun _ => ?_
  rw [Bool.not_eq_true', ← Bool.not_eq_true, meets_iff]
  omega

theorem apart_sublist (sp : Span) (tb : List Span) : (apart sp tb).Sublist tb := List.filter_sublist

/-- Fewer spans are apart from a span than the table holds where it meets one of them. -/
theorem apart_length_lt {sp : Span} {tb : List Span} :
    (apart sp tb).length < tb.length ↔ ∃ x ∈ tb, meets sp.start sp.finish x.start x.finish = true := by
  simp [apart, List.length_filter_lt_length_iff_exists]

/-! ### A span put in its place -/

/-- The spans of a table follow each other with room between them. -/
def Spaced (tb : List Span) : Prop := tb.Pairwise fun x y => x.finish < y.start

@[simp] theorem mem_insertSpan {sp y : Span} {tb : List Span} : y ∈ insertSpan sp tb ↔ y = sp ∨ y ∈ tb := by
  induction tb with
  | nil => simp [insertSpan]
  | cons x xs ih =>
    unfold insertSpan
    split
    · simp
    · simp [ih, or_left_comm]

@[simp] theorem length_insertSpan (sp : Span) (tb : List Span) : (insertSpan sp tb).length = tb.length + 1 := by
  induction tb with
  | nil => rfl
  | cons x xs ih => unfold insertSpan; split <;> simp [ih]

theorem insertSpan_spaced {sp : Span} {tb : List Span} (spaced : Spaced tb) (proper : ∀ x ∈ tb, x.start ≤ x.finish)
    (own : sp.start ≤ sp.finish) (clear : ∀ x ∈ tb, x.finish < sp.start ∨ sp.finish < x.start) : Spaced (insertSpan sp tb) := by
  induction tb with
  | nil => exact List.pairwise_singleton ..
  | cons x xs ih =>
    obtain ⟨first, rest⟩ := List.pairwise_cons.mp spaced
    have hx := proper x List.mem_cons_self
    have cx := clear x List.mem_cons_self
    unfold insertSpan
    split
    · refine List.pairwise_cons.mpr ⟨fun y hy => ?_, spaced⟩
      rcases List.mem_cons.mp hy with rfl | hy
      · omega
      · have := first y hy; omega
    · refine List.pairwise_cons.mpr ⟨fun y hy => ?_, ih rest (fun y hy => proper y (List.mem_cons_of_mem x hy)) fun y hy =>
        clear y (List.mem_cons_of_mem x hy)⟩
      rcases mem_insertSpan.mp hy with rfl | hy
      · omega
      · exact first y hy

/-- Of two spans of a spaced table the one lies before the other. -/
theorem Spaced.apart_of_ne {tb : List Span} (spaced : Spaced tb) {x y : Span} (hx : x ∈ tb) (hy : y ∈ tb) (ne : x ≠ y) :
    x.finish < y.start ∨ y.finish < x.start := by
  have symmetric : Std.Symm fun x y : Span => x.finish < y.start ∨ y.finish < x.start := ⟨fun _ _ h => h.symm⟩
  have either : tb.Pairwise fun x y => x.finish < y.start ∨ y.finish < x.start := spaced.imp fun h => .inl h
  exact either.forall hx hy ne

/-- A span apart from the new one is apart from all that the new one absorbs: nothing lies between two spans that it meets. -/
theorem absorb_apart {sp x : Span} {tb : List Span} (spaced : Spaced tb) (proper : ∀ y ∈ tb, y.start ≤ y.finish)
    (hx : x ∈ apart sp tb) : x.finish < (absorb sp tb).start ∨ (absorb sp tb).finish < x.start := by
  obtain ⟨hx, clear⟩ := mem_apart.mp hx
  have side {m : Span} (hm : m ∈ tb) (met : meets sp.start sp.finish m.start m.finish = true) :
      x.finish < m.start ∨ m.finish < x.start :=
    spaced.apart_of_ne hx hm fun h => by subst h; have := meets_iff.mp met; omega
  have px := proper x hx
  obtain ⟨-, -, -, start_of, finish_of⟩ := absorb_widened sp tb
  rcases clear with before | after
  · left
    clear finish_of
    rcases start_of with same | ⟨m, hm, met, same⟩
    · omega
    · have := side hm met
      have := meets_iff.mp met
      omega
  · right
    clear start_of
    rcases finish_of with same | ⟨m, hm, met, same⟩
    · omega
    · have := side hm met
      have := meets_iff.mp met
      omega

/-- A sound splice table (R46). -/
def SplicesSound (tb : List Span) : Prop := tb.length ≤ 64 ∧ (∀ x ∈ tb, x.start ≤ x.finish) ∧ Spaced tb

/-! ### The three ways of a placement -/

theorem placeSpan_meets {sp : Span} {tb : List Span} (h : ∃ x ∈ tb, meets sp.start sp.finish x.start x.finish = true) :
    placeSpan sp tb = some (insertSpan (absorb sp tb) (apart sp tb)) := by simp [placeSpan, apart_length_lt.mpr h]

theorem placeSpan_clear {sp : Span} {tb : List Span} (h : ¬ ∃ x ∈ tb, meets sp.start sp.finish x.start x.finish = true) :
    placeSpan sp tb = if tb.length < 64 then some (insertSpan sp tb) else none := by
  rw [placeSpan, if_neg (mt apart_length_lt.mp h)]
  rfl

theorem not_meets_any {sp : Span} {tb : List Span} (h : ¬ ∃ x ∈ tb, meets sp.start sp.finish x.start x.finish = true) :
    ∀ x ∈ tb, x.finish < sp.start ∨ sp.finish < x.start := by
  intro x hx
  have := mt meets_iff.mpr fun met => h ⟨x, hx, met⟩
  omega

theorem SplicesSound.place_absorbed {sp : Span} {tb : List Span} (sound : SplicesSound tb) (own : sp.start ≤ sp.finish)
    (h : ∃ x ∈ tb, meets sp.start sp.finish x.start x.finish = true) : SplicesSound (insertSpan (absorb sp tb) (apart sp tb)) := by
  obtain ⟨room, proper, spaced⟩ := sound
  obtain ⟨start_le, le_finish, -, -, -⟩ := absorb_widened sp tb
  have fewer := apart_length_lt.mpr h
  have kept : ∀ x ∈ apart sp tb, x.start ≤ x.finish := fun x hx => proper x (mem_apart.mp hx).1
  refine ⟨by rw [length_insertSpan]; omega, fun y hy => ?_, ?_⟩
  · rcases mem_insertSpan.mp hy with rfl | hy
    · omega
    · exact kept y hy
  · exact insertSpan_spaced (spaced.sublist (apart_sublist sp tb)) kept (by omega) fun x hx => absorb_apart spaced proper hx

theorem SplicesSound.place_new {sp : Span} {tb : List Span} (sound : SplicesSound tb) (own : sp.start ≤ sp.finish)
    (room : tb.length < 64) (clear : ∀ x ∈ tb, x.finish < sp.start ∨ sp.finish < x.start) : SplicesSound (insertSpan sp tb) := by
  obtain ⟨_, proper, spaced⟩ := sound
  refine ⟨by rw [length_insertSpan]; omega, fun y hy => ?_, insertSpan_spaced spaced proper own clear⟩
  rcases mem_insertSpan.mp hy with rfl | hy
  · exact own
  · exact proper y hy

end Sys2Proof.Machine

open Sys2Proof Sys2Proof.Machine

/-- Settles O51: the address by the counter that the level raises. -/
theorem addressCounted : Obligations.AddressCounted := by
  intro start level a b _
  refine ⟨rfl, fun level3 room => ?_, fun level2 room => ?_, fun low room => ?_, nextAddress_ascends⟩
  · simp [nextAddress, Config.maxCounter, level3, show a.batch < 65535 by omega]
  · simp [nextAddress, Config.maxCounter, level2, show a.document < 65535 by omega]
  · simp [nextAddress, Config.maxCounter, show level ≠ 3 by omega, show level ≠ 2 by omega, show a.page < 65535 by omega]

/-- Settles O46: a span that meets others of the table absorbs them; one that meets none is inserted while there is room. -/
theorem spliceTablePlaced : Obligations.SpliceTablePlaced := by
  intro sp tb sound soundIff own sound_tb
  have sound_iff (xs : List Span) : sound xs ↔ SplicesSound xs := soundIff xs
  rw [sound_iff] at sound_tb
  by_cases met : ∃ x ∈ tb, meets sp.start sp.finish x.start x.finish = true
  · rw [placeSpan_meets met]
    obtain ⟨start_le, le_finish, covers, start_of, finish_of⟩ := absorb_widened sp tb
    refine ⟨fun out hout => ?_, nofun, fun ⟨_, clear⟩ => ?_⟩
    · cases hout
      refine ⟨(sound_iff _).mpr (sound_tb.place_absorbed own met), fun x hx => ?_, fun y hy => ?_⟩
      · rcases List.mem_cons.mp hx with rfl | hx
        · exact ⟨_, mem_insertSpan.mpr (.inl rfl), start_le, le_finish⟩
        · by_cases hmet : meets sp.start sp.finish x.start x.finish = true
          · exact ⟨_, mem_insertSpan.mpr (.inl rfl), covers x hx hmet⟩
          · have clear : x ∈ apart sp tb := mem_apart.mpr ⟨hx, by have := mt meets_iff.mpr hmet; omega⟩
            exact ⟨x, mem_insertSpan.mpr (.inr clear), le_rfl, le_rfl⟩
      · rcases mem_insertSpan.mp hy with rfl | hy
        · right
          have startOf : ∃ a ∈ sp :: tb, (absorb sp tb).start = a.start := by
            rcases start_of with same | ⟨x, hx, _, same⟩
            · exact ⟨sp, List.mem_cons_self, same⟩
            · exact ⟨x, List.mem_cons_of_mem sp hx, same⟩
          have finishOf : ∃ b ∈ sp :: tb, (absorb sp tb).finish = b.finish := by
            rcases finish_of with same | ⟨x, hx, _, same⟩
            · exact ⟨sp, List.mem_cons_self, same⟩
            · exact ⟨x, List.mem_cons_of_mem sp hx, same⟩
          obtain ⟨a, ha, start⟩ := startOf
          obtain ⟨b, hb, finish⟩ := finishOf
          exact ⟨a, ha, b, hb, start, finish⟩
        · exact .inl (mem_apart.mp hy).1
    · obtain ⟨x, hx, hmet⟩ := met
      have := clear x hx
      have := meets_iff.mp hmet
      omega
  · have clear := not_meets_any met
    rw [placeSpan_clear met]
    split
    · next room =>
      refine ⟨fun out hout => ?_, nofun, fun ⟨full, _⟩ => by omega⟩
      cases hout
      refine ⟨(sound_iff _).mpr (sound_tb.place_new own room clear), fun x hx => ?_, fun y hy => ?_⟩
      · exact ⟨x, mem_insertSpan.mpr (List.mem_cons.mp hx), le_rfl, le_rfl⟩
      · rcases mem_insertSpan.mp hy with rfl | hy
        · exact .inr ⟨_, List.mem_cons_self, _, List.mem_cons_self, rfl, rfl⟩
        · exact .inl hy
    · next full =>
      have := sound_tb.1
      exact ⟨nofun, fun _ => ⟨by omega, fun x hx => (clear x hx).symm⟩, fun _ => rfl⟩

end

section
/-! PROOFS. HIGH_EDGE and the pitch step. -/

namespace Sys2Proof.Machine

/-! ### The open candidate -/

/-- The state with a candidate open. -/
def State.withCandidate (c : Candidate) (s : State) : State := s.onTracker fun t => { t with candidate := some c }

/-- A change of the candidate that is open. -/
theorem modifyCandidate_open {c : Candidate} {s : State} (hc : s.tracker.candidate = some c) (f : Candidate → Candidate) :
    modifyCandidate f s = s.withCandidate (f c) := by
  simp [modifyCandidate, State.withCandidate, State.onTracker, hc]

/-- A HIGH_EDGE that ends an image long enough is recorded with the candidate, and the pitch step is considered (R34). -/
def imaged (c : Candidate) (s : State) : Candidate :=
  { c with high := some s.transport.position,
           flags := { c.flags with
             overlong := c.flags.overlong || s.transport.profile.imageMax < s.transport.position - c.low } }

theorem takeHigh_not_taken {s : State} (h : s.tracker.mode ≠ .indexing ∨ s.tracker.candidate = none) : takeHigh s = s := by
  unfold takeHigh takeHighEdge
  rcases h with mode | none_open
  · simp [mode]
  · simp [none_open]

section
variable {c : Candidate} {s : State}

theorem takeHigh_second (mode : s.tracker.mode = .indexing) (hc : s.tracker.candidate = some c) (high : c.high ≠ none) :
    takeHigh s = s.withCandidate { c with flags := { c.flags with noise := true } } := by
  have taken : c.high.isSome = true := Option.isSome_iff_ne_none.mpr high
  rw [← modifyCandidate_open hc fun c => { c with flags := { c.flags with noise := true } }]
  simp [takeHigh, takeHighEdge, mode, hc, taken]

theorem takeHigh_speck (mode : s.tracker.mode = .indexing) (hc : s.tracker.candidate = some c) (high : c.high = none)
    (short : s.transport.position - c.low < s.transport.profile.imageMin) :
    takeHigh s = { s with tracker := { s.tracker with
      candidate := none, pendingNoise := true, eLast := s.index.entries.getLast?.map fun e => e.low, missAccepted := false } } := by
  simp [takeHigh, takeHighEdge, mode, hc, high, short, State.onTracker, Index.last?]

theorem takeHigh_image (mode : s.tracker.mode = .indexing) (hc : s.tracker.candidate = some c) (high : c.high = none)
    (image : s.transport.profile.imageMin ≤ s.transport.position - c.low) :
    takeHigh s = pitchStep (s.withCandidate (imaged c s)) := by
  have long : ¬ s.transport.position - c.low < s.transport.profile.imageMin := by omega
  simp [takeHigh, takeHighEdge, mode, hc, high, long, modifyCandidate_open hc, imaged]

/-! ### The pitch step (R32) -/

theorem pitchStep_done (hc : s.tracker.candidate = some c) (done : c.estimateDone = true) : pitchStep s = s := by
  simp [pitchStep, hc, done]

/-- Deviation of the candidate's distance from the entry before it, in sixteenths of a count, from the estimate. -/
def deviation (c : Candidate) (prev : Entry) (s : State) : Int := 16 * ((c.low : Int) - prev.low) - s.tracker.p16

/-- A candidate whose step was taken, with or without the clamp (R32). -/
def Candidate.stepped (clamped : Bool) (c : Candidate) : Candidate :=
  { c with estimateDone := true, flags := { c.flags with pitchClamp := c.flags.pitchClamp || clamped } }

theorem pitchStep_skipped (hc : s.tracker.candidate = some c) (undone : c.estimateDone = false)
    (h : s.index.last? = none ∨ c.opening ≠ .inWindow ∨
      ∃ prev, s.index.last? = some prev ∧ spliceIn prev.low (c.high.getD c.low) s = true) :
    pitchStep s = s.withCandidate { c with estimateDone := true } := by
  rw [← modifyCandidate_open hc fun c => { c with estimateDone := true }]
  cases hl : s.index.last? with
  | none => simp [pitchStep, hc, undone, hl]
  | some prev =>
    have fails : c.opening ≠ .inWindow ∨ spliceIn prev.low (c.high.getD c.low) s = true := by simpa [hl] using h
    simp only [pitchStep, hc, undone, hl, if_pos fails, Bool.false_eq_true, if_false]

theorem pitchStep_stepped {prev : Entry} (hc : s.tracker.candidate = some c) (undone : c.estimateDone = false)
    (last : s.index.last? = some prev) (window : c.opening = .inWindow) (clear : spliceIn prev.low (c.high.getD c.low) s = false)
    (near : (deviation c prev s).natAbs ≤ s.tracker.p16 / 8) :
    pitchStep s = (s.withCandidate (c.stepped (steppedPitch s.transport.profile s.tracker.p16 (deviation c prev s)).2)).onTracker
      fun t => { t with p16 := (steppedPitch s.transport.profile s.tracker.p16 (deviation c prev s)).1 } := by
  unfold deviation at near ⊢
  simp [Candidate.stepped, pitchStep, hc, undone, last, window, clear, near, modifyCandidate, State.withCandidate, State.onTracker]

theorem pitchStep_odd {prev : Entry} (hc : s.tracker.candidate = some c) (undone : c.estimateDone = false)
    (last : s.index.last? = some prev) (window : c.opening = .inWindow) (clear : spliceIn prev.low (c.high.getD c.low) s = false)
    (far : s.tracker.p16 / 8 < (deviation c prev s).natAbs) :
    pitchStep s = s.withCandidate { c with estimateDone := true, flags := { c.flags with pitchOdd := true } } := by
  have far' := Nat.not_le.mpr far
  unfold deviation at far'
  simp [pitchStep, hc, undone, last, window, clear, far', modifyCandidate, State.withCandidate, State.onTracker]

end

theorem steppedPitch_below {p : Profile} {p16 : Nat} {d z : Int} (hz : z = p16 + (d + 4) / 8) (below : z < 16 * (p.pitchMin : Int)) :
    steppedPitch p p16 d = (16 * p.pitchMin, true) := by simp [steppedPitch, ← hz, below]

theorem steppedPitch_above {p : Profile} {p16 : Nat} {d z : Int} (hz : z = p16 + (d + 4) / 8) (low : 16 * (p.pitchMin : Int) ≤ z)
    (above : 16 * (p.pitchMax : Int) < z) : steppedPitch p p16 d = (16 * p.pitchMax, true) := by
  simp [steppedPitch, ← hz, Int.not_lt.mpr low, above]

theorem steppedPitch_within {p : Profile} {p16 : Nat} {d z : Int} (hz : z = p16 + (d + 4) / 8) (low : 16 * (p.pitchMin : Int) ≤ z)
    (high : z ≤ 16 * (p.pitchMax : Int)) : steppedPitch p p16 d = (z.toNat, false) := by
  simp [steppedPitch, ← hz, Int.not_lt.mpr low, Int.not_lt.mpr high]

/-! ### Splices in a stretch (R36, R45) -/

theorem overlaps_iff {a b x y : Nat} : overlaps a b x y = true ↔ a < y ∧ x < b := by simp [overlaps]

theorem spliceIn_of_span {lo hi : Nat} {s : State} {sp : Span} (h : sp ∈ s.tracker.splices) (after : lo < sp.finish)
    (before : sp.start < hi) : spliceIn lo hi s = true := by
  have found : (s.tracker.splices.any fun sp => overlaps lo hi sp.start sp.finish) = true :=
    List.any_eq_true.mpr ⟨sp, h, overlaps_iff.mpr ⟨after, before⟩⟩
  simp [spliceIn, found]

theorem spliceIn_clear {lo hi : Nat} {s : State} (closed : s.tracker.openSplice = none)
    (h : ∀ sp ∈ s.tracker.splices, sp.finish ≤ lo ∨ hi ≤ sp.start) : spliceIn lo hi s = false := by
  have found : (s.tracker.splices.any fun sp => overlaps lo hi sp.start sp.finish) = false := by
    refine List.any_eq_false.mpr fun sp hsp => ?_
    rw [overlaps_iff]
    have := h sp hsp
    omega
  simp [spliceIn, found, closed]

end Sys2Proof.Machine

open Sys2Proof.Machine

/-- Settles O49: the edge by the candidate that is open, and its first record by the tests of the pitch step. -/
theorem highEdgeRecorded : Obligations.HighEdgeRecorded := by
  intro c s
  have row {t : State} (h : takeHigh s = t) : exec .highEdge s = .next t := congrArg Host.Outcome.next h
  refine ⟨fun h => row (takeHigh_not_taken h), fun mode hc high => row (takeHigh_second mode hc high),
    fun mode hc high short => row (takeHigh_speck mode hc high short), ?_, ?_⟩
  · intro mode hc high done image
    refine ⟨c.flags.overlong || s.transport.profile.imageMax < s.transport.position - c.low, row ?_, fun kept => by simp [kept]⟩
    rw [takeHigh_image mode hc high image, pitchStep_done (c := imaged c s) (s := s.withCandidate (imaged c s)) rfl done]
    rfl
  · intro long d mode hc high undone image overlong hd
    have same : (c.flags.overlong || s.transport.profile.imageMax < s.transport.position - c.low) = long := by
      rw [Bool.eq_iff_iff, overlong]; simp
    have recorded : { imaged c s with estimateDone := true } = d := by simp [imaged, hd, same]
    have image := takeHigh_image mode hc high image
    refine ⟨fun skipped => row ?_, fun prev dev z last window closed spans hdev hz => ?_⟩
    · have skips : s.index.last? = none ∨ (imaged c s).opening ≠ .inWindow ∨
          ∃ prev, s.index.last? = some prev ∧ spliceIn prev.low ((imaged c s).high.getD (imaged c s).low) s = true :=
        skipped.imp_right fun h => h.imp_right fun ⟨prev, last, sp, hsp, after, before⟩ =>
          ⟨prev, last, spliceIn_of_span hsp after before⟩
      rw [image, pitchStep_skipped (c := imaged c s) (s := s.withCandidate (imaged c s)) rfl undone skips, recorded]
      rfl
    have clear : spliceIn prev.low ((imaged c s).high.getD (imaged c s).low) (s.withCandidate (imaged c s)) = false :=
      spliceIn_clear closed spans
    have same_dev : deviation (imaged c s) prev (s.withCandidate (imaged c s)) = dev := hdev.symm
    refine ⟨fun near => ?_, fun far => row ?_⟩
    · have stepped {v : Nat} {clamped : Bool} (h : steppedPitch s.transport.profile s.tracker.p16 dev = (v, clamped)) :
          takeHigh s = (s.withCandidate { d with flags := { d.flags with pitchClamp := d.flags.pitchClamp || clamped } }).onTracker
            fun t => { t with p16 := v } := by
        have step := pitchStep_stepped (c := imaged c s) (s := s.withCandidate (imaged c s)) rfl undone last window clear (same_dev ▸ near)
        rw [image, step, same_dev, ← recorded]
        exact congrArg (fun x : Nat × Bool => (s.withCandidate ((imaged c s).stepped x.2)).onTracker fun t => { t with p16 := x.1 }) h
      refine ⟨fun low high => row ?_, fun below => row ?_, fun low above => row ?_⟩
      · rw [stepped (steppedPitch_within hz low high), Bool.or_false]
        rfl
      · rw [stepped (steppedPitch_below hz below), Bool.or_true]
        rfl
      · rw [stepped (steppedPitch_above hz low above), Bool.or_true]
        rfl
    · rw [image, pitchStep_odd (c := imaged c s) (s := s.withCandidate (imaged c s)) rfl undone last window clear (same_dev ▸ far), ← recorded]
      rfl

end

section
/-! PROOFS. Marks and splices: the open mark, the marks gathered behind the frontier, and the comparison with the recorded level. -/

namespace Sys2Proof.Machine

/-! ### Marks by length (R37, R38) -/

/-- The mark that a length of mark_min or more gives. -/
def MarkClass (p : Profile) (len : Nat) (m : Mark) : Prop :=
  (len < p.mark12 → m = { level := 1, long := false }) ∧
  (p.mark12 ≤ len → len < p.mark23 → m = { level := 2, long := false }) ∧
  (p.mark12 ≤ len → p.mark23 ≤ len → len ≤ p.markMax → m = { level := 3, long := false }) ∧
  (p.mark12 ≤ len → p.mark23 ≤ len → p.markMax < len → m = { level := 1, long := true })

theorem markOf_short {p : Profile} {len : Nat} (h : len < p.markMin) : markOf p len = none := if_pos h

theorem markOf_class {p : Profile} {len : Nat} (h : p.markMin ≤ len) : ∃ m, markOf p len = some m ∧ MarkClass p len m := by
  rw [markOf, if_neg (Nat.not_lt.mpr h)]
  split
  · exact ⟨_, rfl, fun _ => rfl, by omega, by omega, by omega⟩
  · split
    · exact ⟨_, rfl, by omega, fun _ _ => rfl, by omega, by omega⟩
    · split
      · exact ⟨_, rfl, by omega, by omega, fun _ _ _ => rfl, by omega⟩
      · exact ⟨_, rfl, by omega, by omega, by omega, fun _ _ _ => rfl⟩

/-- The highest level from a start on: a bound of all, and reached. -/
theorem foldl_level (ms : List Mark) (a : Nat) : a ≤ ms.foldl (fun m x => max m x.level) a ∧
    (∀ m ∈ ms, m.level ≤ ms.foldl (fun m x => max m x.level) a) ∧
    (ms.foldl (fun m x => max m x.level) a = a ∨ ∃ m ∈ ms, m.level = ms.foldl (fun m x => max m x.level) a) := by
  induction ms generalizing a with
  | nil => exact ⟨le_rfl, nofun, .inl rfl⟩
  | cons x xs ih =>
    obtain ⟨above, bound, reached⟩ := ih (max a x.level)
    refine ⟨(le_max_left ..).trans above, fun m hm => ?_, ?_⟩
    · rcases List.mem_cons.mp hm with rfl | hm
      · exact (le_max_right ..).trans above
      · exact bound m hm
    · rcases reached with same | ⟨m, hm, same⟩
      · rcases Nat.le_total x.level a with le | le
        · exact .inl (same.trans (max_eq_left le))
        · exact .inr ⟨x, List.mem_cons_self, (same.trans (max_eq_right le)).symm⟩
      · exact .inr ⟨m, List.mem_cons_of_mem x hm, same⟩

theorem dist_eq (a b : Nat) : dist a b = max a b - min a b := by unfold dist; omega

/-! ### The mark sensor (R37, R52) -/

section
variable {s : State}

theorem marksTaken_iff : marksTaken s = true ↔
    s.tracker.mode = .indexing ∨ s.tracker.mode = .verifying ∧ s.transport.travel = .forward := by simp [marksTaken]

theorem markCloses_none (h : s.tracker.openMark = none) : markCloses s = s := by simp [markCloses, h]

/-- The state with no mark open. -/
def markEnded (s : State) : State := s.onTracker fun t => { t with openMark := none }

theorem markCloses_short {on : Nat} (taken : marksTaken s = true) (open_ : s.tracker.openMark = some on)
    (short : dist on s.transport.position < s.transport.profile.markMin) : markCloses s = markEnded s := by
  simp [markCloses, taken, open_, markOf_short short, markEnded]

theorem markCloses_indexing {on : Nat} {m : Mark} (mode : s.tracker.mode = .indexing) (open_ : s.tracker.openMark = some on)
    (mark : markOf s.transport.profile (dist on s.transport.position) = some m) :
    markCloses s = modifyCandidate (fun c => if c.low ≤ (on + s.transport.position) / 2 then { c with marks := c.marks ++ [m] } else c)
      (markEnded s) := by
  simp [markCloses, marksTaken_iff.mpr (.inl mode), open_, mark, mode, markEnded]

theorem markCloses_verifying {on : Nat} {m : Mark} (mode : s.tracker.mode = .verifying) (forward : s.transport.travel = .forward)
    (open_ : s.tracker.openMark = some on) (mark : markOf s.transport.profile (dist on s.transport.position) = some m) :
    markCloses s = gatherMark ((on + s.transport.position) / 2) m (markEnded s) := by
  simp [markCloses, marksTaken_iff.mpr (.inr ⟨mode, forward⟩), open_, mark, mode, markEnded]

theorem modifyCandidate_closed {f : Candidate → Candidate} (h : ∀ c, s.tracker.candidate = some c → f c = c) :
    modifyCandidate f s = s := by
  cases hc : s.tracker.candidate with
  | none =>
    have same : s.tracker.candidate.map f = s.tracker.candidate := by rw [hc]; rfl
    simp only [modifyCandidate, State.onTracker, same]
  | some c => rw [modifyCandidate_open hc, h c hc, State.withCandidate, State.onTracker, ← hc]

/-- A mark counted for the entries that it belongs to (R52, log 62). -/
def Gather.take (entries : List Entry) (mid : Nat) (m : Mark) (g : Gather) : Gather :=
  if ((entries[g.frame]?).any fun e => e.low ≤ mid) && ((entries[g.frame + 1]?).all fun e => mid < e.low) then
    { g with marks := g.marks ++ [m] } else g

theorem gatherMark_eq (mid : Nat) (m : Mark) (s : State) : gatherMark mid m s = s.onTracker fun t =>
    { t with gathering := t.gathering.map (Gather.take s.index.entries mid m) } := rfl

theorem Gather.take_frame (entries : List Entry) (mid : Nat) (m : Mark) (g : Gather) : (g.take entries mid m).frame = g.frame := by
  unfold Gather.take; split <;> rfl

theorem Gather.take_marks {entries : List Entry} {g : Gather} {e : Entry} (held : entries[g.frame]? = some e) (mid : Nat) (m : Mark) :
    (e.low ≤ mid → (∀ x, entries[g.frame + 1]? = some x → mid < x.low) → (g.take entries mid m).marks = g.marks ++ [m]) ∧
    (mid < e.low ∨ (∃ x, entries[g.frame + 1]? = some x ∧ x.low ≤ mid) → (g.take entries mid m).marks = g.marks) := by
  constructor
  · intro above below
    have next : ((entries[g.frame + 1]?).all fun e => mid < e.low) = true := by
      cases hx : entries[g.frame + 1]? with
      | none => rfl
      | some x => simpa using below x hx
    simp [Gather.take, held, above, next]
  · rintro (under | ⟨x, hx, later⟩)
    · simp [Gather.take, held, Nat.not_le.mpr under]
    · simp [Gather.take, hx, Nat.not_lt.mpr later]

end

/-! ### The comparison for a gathered entry (R52, R69) -/

/-- What the comparison of the marks gathered for an entry leaves of index and link units. -/
def Compared (g : Gather) (s u : State) : Prop :=
  ∀ e, s.index.entries[g.frame]? = some e →
    (frameLevel g.marks = e.markLevel → u.index = s.index ∧ ∀ l, u.link l = s.link l) ∧
    (frameLevel g.marks ≠ e.markLevel →
      u.index.entries = s.index.entries.set g.frame { e with flags := { e.flags with markDispute := true } } ∧
      u.index.segments = s.index.segments ∧ u.index.frontier = s.index.frontier ∧ u.index.state = s.index.state ∧
      ∀ sg, s.index.segments[g.frame / 256]? = some sg →
        (sg.verified = true → u.index.disputeCount = min 65535 (s.index.disputeCount + 1) ∧
          u.index.lastDispute = some { frame := g.frame, recorded := e.markLevel, observed := frameLevel g.marks } ∧
          ∀ l, (s.link l).receiver ≠ .brk → (u.link l).flags.dispute = true) ∧
        (sg.verified = false → u.index.disputeCount = s.index.disputeCount ∧
          u.index.lastDispute = s.index.lastDispute ∧ ∀ l, u.link l = s.link l))

/-- `Compared` speaks of the index and the link units alone. -/
theorem Compared.of_eq {g : Gather} {s s' u u' : State} (h : Compared g s' u') (index : s'.index = s.index) (links : s'.links = s.links)
    (index' : u.index = u'.index) (links' : u.links = u'.links) : Compared g s u := by
  have same (l : LinkId) : s'.link l = s.link l := by simp [State.link, links]
  have same' (l : LinkId) : u.link l = u'.link l := by simp [State.link, links']
  simp only [Compared, index, same] at h
  simpa only [Compared, index', same'] using h

theorem raise_link_flag {l : LinkId} {s : State} (h : (s.link l).receiver ≠ .brk) : ((raise .dispute s).link l).flags.dispute = true := by
  cases l <;> (simp only [State.link, Links.get] at h; simp [raise, State.link, Links.get, LinkUnit.raise, h, NoticeFlags.put])

theorem compareMarks_compared (g : Gather) (s : State) : Compared g s (compareMarks g s) := by
  intro e held
  refine ⟨fun same => ?_, fun differs => ?_⟩
  · simp [compareMarks, held, same]
  · have report : compareMarks g s = reportDispute g.frame (frameLevel g.marks) s := by simp [compareMarks, held, differs]
    have disputed : s.index.entries.modify g.frame (fun e => { e with flags := { e.flags with markDispute := true } }) =
        s.index.entries.set g.frame { e with flags := { e.flags with markDispute := true } } := by
      rw [List.modify_eq_set_getElem?, held]; rfl
    rw [report]
    cases hsg : s.index.segments[g.frame / Config.segmentSize]? with
    | none =>
      have result : reportDispute g.frame (frameLevel g.marks) s =
          modifyEntry g.frame (fun e => { e with flags := { e.flags with markDispute := true } }) s := by
        simp [reportDispute, held, hsg]
      rw [result]
      exact ⟨disputed, rfl, rfl, rfl, fun sg h => by cases hsg.symm.trans h⟩
    | some sg =>
      cases verified : sg.verified with
      | true =>
        have result : reportDispute g.frame (frameLevel g.marks) s = raise .dispute
            ((modifyEntry g.frame (fun e => { e with flags := { e.flags with markDispute := true } }) s).onIndex fun ix =>
              { ix with disputeCount := min 65535 (ix.disputeCount + 1),
                        lastDispute := some { frame := g.frame, recorded := e.markLevel, observed := frameLevel g.marks } }) := by
          simp [reportDispute, held, hsg, verified]
        rw [result]
        refine ⟨disputed, rfl, rfl, rfl, fun sg' h => ⟨fun _ => ⟨rfl, rfl, fun l brk => raise_link_flag brk⟩, fun unverified => ?_⟩⟩
        cases hsg.symm.trans h
        cases verified.symm.trans unverified
      | false =>
        have result : reportDispute g.frame (frameLevel g.marks) s =
            modifyEntry g.frame (fun e => { e with flags := { e.flags with markDispute := true } }) s := by
          simp [reportDispute, held, hsg, verified]
        rw [result]
        refine ⟨disputed, rfl, rfl, rfl, fun sg' h => ⟨fun verified' => ?_, fun _ => ⟨rfl, rfl, fun _ => rfl⟩⟩⟩
        cases hsg.symm.trans h
        cases verified.symm.trans verified'

/-- A comparison leaves the tracker and the transport alone. -/
theorem compareMarks_tracker (g : Gather) (s : State) : (compareMarks g s).tracker = s.tracker := by
  unfold compareMarks reportDispute
  (repeat' split) <;> rfl

theorem compareMarks_transport (g : Gather) (s : State) : (compareMarks g s).transport = s.transport := by
  unfold compareMarks reportDispute
  (repeat' split) <;> rfl

theorem compareMarks_capture (g : Gather) (s : State) : (compareMarks g s).capture = s.capture := by
  unfold compareMarks reportDispute
  (repeat' split) <;> rfl

/-- The one gathered entry is compared and closed. -/
theorem closeGathering_picked {pick : Gather → Bool} {g : Gather} {s : State} (held : s.tracker.gathering = [g]) (picked : pick g = true) :
    closeGathering pick s = compareMarks g (s.onTracker fun t => { t with gathering := [] }) := by
  simp [closeGathering, held, picked, State.onTracker]

/-- Where no gathered entry is picked, none is closed. -/
theorem closeGathering_none {pick : Gather → Bool} {s : State} (h : ∀ g ∈ s.tracker.gathering, pick g = false) :
    closeGathering pick s = s := by
  have dropped : s.tracker.gathering.filter pick = [] := List.filter_eq_nil_iff.mpr fun g hg => by simp [h g hg]
  have kept : s.tracker.gathering.filter (fun g => !pick g) = s.tracker.gathering :=
    List.filter_eq_self.mpr fun g hg => by simp [h g hg]
  simp [closeGathering, dropped, kept, State.onTracker]

/-! ### The splice sensor (R45, R46) -/

theorem splicesTaken_iff {s : State} : splicesTaken s = true ↔
    (s.transport.state = .moving ∨ s.transport.state = .referencing ∨ s.transport.state = .rewinding) ∧ s.transport.reference ≠ .lost := by
  simp [splicesTaken, or_assoc]

end Sys2Proof.Machine

end

section
/-! SUPPORT. A capstan count away from the limits, and the tracker that passes behind the frontier (R4, R28, R50, R52). -/

namespace Sys2Proof.Machine

/-! ### The count is carried by one (R4) -/

/-- A count in a direction is taken: the travel of a search and the position count, nothing of the blocks yet. -/
def counted (d : Direction) (s : State) : State :=
  putPosition (if d = .forward then s.transport.position + 1 else s.transport.position - 1) (searchTravels d s)

@[simp] theorem counted_tracker (d : Direction) (s : State) : (counted d s).tracker = s.tracker := rfl
@[simp] theorem counted_index (d : Direction) (s : State) : (counted d s).index = s.index := rfl
@[simp] theorem counted_capture (d : Direction) (s : State) : (counted d s).capture = s.capture := rfl
@[simp] theorem counted_arbiter (d : Direction) (s : State) : (counted d s).arbiter = s.arbiter := rfl
@[simp] theorem counted_jobs (d : Direction) (s : State) : (counted d s).jobs = s.jobs := rfl
@[simp] theorem counted_fault (d : Direction) (s : State) : (counted d s).fault = s.fault := rfl
@[simp] theorem counted_links (d : Direction) (s : State) : (counted d s).links = s.links := rfl
@[simp] theorem counted_state (d : Direction) (s : State) : (counted d s).transport.state = s.transport.state := rfl
@[simp] theorem counted_travel (d : Direction) (s : State) : (counted d s).transport.travel = s.transport.travel := rfl
@[simp] theorem counted_reference (d : Direction) (s : State) : (counted d s).transport.reference = s.transport.reference := rfl
@[simp] theorem counted_profile (d : Direction) (s : State) : (counted d s).transport.profile = s.transport.profile := rfl
@[simp] theorem counted_rollEnd (d : Direction) (s : State) : (counted d s).transport.rollEnd = s.transport.rollEnd := rfl
@[simp] theorem counted_tailLimit (d : Direction) (s : State) : (counted d s).transport.tailLimit = s.transport.tailLimit := rfl
@[simp] theorem counted_move (d : Direction) (s : State) : (counted d s).transport.move = s.transport.move := rfl
theorem counted_position (d : Direction) (s : State) : (counted d s).transport.position =
    if d = .forward then s.transport.position + 1 else s.transport.position - 1 := rfl

section
variable {s : State}

/-- A count in the direction of travel, away from the limits and with no tail limit: the tracker is told, and forward the triggers. -/
theorem capstanMoves_along (state : s.transport.state ≠ .empty) (travel : s.transport.travel = .forward)
    (tail : s.transport.tailLimit = none) (room : s.transport.position + 1 ≤ s.transport.upperLimit) :
    capstanMoves .forward s =
      takeTriggers s.transport.position Config.armedMax (trackerMoved s.transport.position .forward (counted .forward s)) := by
  have moved : (counted .forward s).transport.position ≠ s.transport.position := by rw [counted_position, if_pos rfl]; omega
  have limit : (searchTravels .forward s).transport.upperLimit = s.transport.upperLimit := rfl
  have start : (searchTravels .forward s).transport.position = s.transport.position := rfl
  have turned : turnTravel .forward s = s := by simp [turnTravel, travel]
  rw [capstanMoves_taken state, turned]
  simp only [carryPosition, limit, start, room, if_true, Nat.add_sub_cancel_left, Nat.sub_self]
  rw [show putPosition (s.transport.position + 1) (searchTravels .forward s) = counted .forward s from rfl]
  simp [positionMoved, moved, tailTest, tail]

theorem capstanMoves_back (state : s.transport.state ≠ .empty) (travel : s.transport.travel = .reverse)
    (tail : s.transport.tailLimit = none) (room : 0 < s.transport.position) :
    capstanMoves .reverse s = trackerMoved s.transport.position .reverse (counted .reverse s) := by
  have moved : (counted .reverse s).transport.position ≠ s.transport.position := by rw [counted_position, if_neg (by decide)]; omega
  have start : (searchTravels .reverse s).transport.position = s.transport.position := rfl
  have turned : turnTravel .reverse s = s := by simp [turnTravel, travel]
  rw [capstanMoves_taken state, turned]
  simp only [carryPosition, start, show 1 - s.transport.position = 0 by omega, if_true]
  rw [show putPosition (s.transport.position - 1) (searchTravels .reverse s) = counted .reverse s from rfl]
  simp [positionMoved, moved, tailTest, tail]

theorem takeTriggers_unarmed (old fuel : Nat) (h : s.capture.armed = []) : takeTriggers old fuel s = s := by
  cases fuel <;> simp [takeTriggers, h]

/-! ### Modes that stay (R28) -/

theorem setMode_same {m : TrackerMode} (h : s.tracker.mode = m) : setMode m s = s := if_pos h

theorem refreshMode_same (h : modeNow s = s.tracker.mode) : refreshMode s = s := by
  rw [refreshMode, setMode_same h.symm, setMode_same h.symm]

theorem modeNow_verifying (mode : s.tracker.mode = .verifying) (state : s.transport.state = .moving)
    (reference : s.transport.reference ≠ .lost) (held : s.tracker.heldIdle = false)
    (behind : s.transport.position ≤ s.index.frontier) : modeNow s = .verifying := by
  simp [modeNow, state, reference, held, mode, behind]

theorem parkedTest_none (h : s.tracker.parked = none) : parkedTest s = s := by simp [parkedTest, h]

/-! ### Tests that ask for INDEXING -/

theorem pitchMaxTest_other (h : s.tracker.mode ≠ .indexing) : pitchMaxTest s = s := by
  unfold pitchMaxTest; split <;> simp [h]

theorem limitTest_other (old : Nat) (h : s.tracker.mode ≠ .indexing) : limitTest old s = s := by
  unfold limitTest; dsimp only; split <;> simp [h]

theorem missTest_other (old : Nat) (h : s.tracker.mode ≠ .indexing) : missTest old s = s := by
  unfold missTest; dsimp only; split <;> simp [h]

theorem rescanTest_other (old : Nat) (h : s.tracker.mode ≠ .indexing) : rescanTest old s = s := by
  unfold rescanTest; split <;> simp [h]

/-- VERIFYING behind the frontier, the positions passed are tested for entries and for gathered marks alone. -/
theorem trackerMoved_forward (old : Nat) (mode : s.tracker.mode = .verifying) (now : modeNow s = .verifying)
    (parked : s.tracker.parked = none) (behind : s.transport.position ≤ s.index.frontier) :
    trackerMoved old .forward s = gatheringTest (passedTest old .forward s) := by
  have notIndexing : s.tracker.mode ≠ .indexing := by rw [mode]; decide
  have within : ¬ s.index.frontier < s.transport.position := Nat.not_lt.mpr behind
  simp only [trackerMoved, notIndexing, within, if_false, and_false, refreshMode_same (now.trans mode.symm), parkedTest_none parked,
    pitchMaxTest_other notIndexing, limitTest_other _ notIndexing, missTest_other _ notIndexing, rescanTest_other _ notIndexing]

theorem trackerMoved_reverse (old : Nat) (mode : s.tracker.mode = .verifying) (now : modeNow s = .verifying)
    (parked : s.tracker.parked = none) : trackerMoved old .reverse s = passedTest old .reverse s := by
  have notIndexing : s.tracker.mode ≠ .indexing := by rw [mode]; decide
  simp [trackerMoved, notIndexing, refreshMode_same (now.trans mode.symm), parkedTest_none parked]

end

/-- The entries that a count passes, in a pass behind the frontier. -/
theorem Passing.counted_behind {d : Direction} {s : State} (h : Passing d s) : modeNow (counted d s) = .verifying ∧
    (counted d s).transport.position ≤ s.index.frontier := by
  obtain ⟨mode, held, -, state, -, reference, -, -, -, start, -, behind, -⟩ := h
  have position : (counted d s).transport.position ≤ s.index.frontier := by rw [counted_position]; split <;> omega
  exact ⟨modeNow_verifying mode state (by simp [reference]) held position, position⟩

theorem Passing.capstanMoves_forward {s : State} (h : Passing .forward s) : capstanMoves .forward s =
    takeTriggers s.transport.position Config.armedMax (gatheringTest (passedTest s.transport.position .forward (counted .forward s))) := by
  have ⟨now, behind⟩ := h.counted_behind
  obtain ⟨mode, -, parked, state, travel, -, -, rollEnd, tail, -, room, -, -⟩ := h
  rw [capstanMoves_along (by simp [state]) travel tail (by simp [Transport.upperLimit, rollEnd, Config.maxPosition]; omega),
    trackerMoved_forward (s := counted .forward s) _ mode now parked behind]

theorem Passing.capstanMoves_reverse {s : State} (h : Passing .reverse s) :
    capstanMoves .reverse s = passedTest s.transport.position .reverse (counted .reverse s) := by
  have ⟨now, _⟩ := h.counted_behind
  obtain ⟨mode, -, parked, state, travel, -, -, -, tail, start, -, -, -⟩ := h
  rw [capstanMoves_back (by simp [state]) travel tail start, trackerMoved_reverse (s := counted .reverse s) _ mode now parked]

/-! ### Entries passed without a loss to ask for (R50) -/

/-- With no edge unmatched an entry passed changes the run of unmatched entries at most. -/
theorem countPassed_calm (k : Nat) {s : State} (h : s.tracker.edgeUnmatched = false) :
    ∃ n, countPassed k s = s.onTracker fun t => { t with unmatchedRun := n } := by
  unfold countPassed
  dsimp only
  split
  · exact ⟨s.tracker.unmatchedRun, rfl⟩
  · split
    · exact ⟨s.tracker.unmatchedRun + 1, rfl⟩
    · exact ⟨0, by rw [if_neg (by simp [h])]⟩

theorem passedTest_calm (old : Nat) (d : Direction) {s : State} (h : s.tracker.edgeUnmatched = false) :
    ∃ n, passedTest old d s = s.onTracker fun t => { t with unmatchedRun := n } := by
  unfold passedTest
  split
  · next mode =>
    clear mode
    generalize passedFrom _ _ _ _ _ _ _ = ks
    induction ks generalizing s with
    | nil => exact ⟨s.tracker.unmatchedRun, rfl⟩
    | cons k ks ih =>
      obtain ⟨n, first⟩ := countPassed_calm k h
      rw [List.foldl_cons, first]
      exact ih (s := s.onTracker fun t => { t with unmatchedRun := n }) h
  · exact ⟨s.tracker.unmatchedRun, rfl⟩

/-! ### The edge that matches an entry (R48) -/

theorem nearestEntry_none {pos w : Nat} {es : List Entry} (far : ∀ x ∈ es, w < dist pos x.low) (k : Nat) :
    nearestEntry pos w k es = none := by
  induction es generalizing k with
  | nil => rfl
  | cons e es ih =>
    have own := Nat.not_le.mpr (far e List.mem_cons_self)
    simp [nearestEntry, ih (fun x hx => far x (List.mem_cons_of_mem e hx)), own]

theorem nearestEntry_mem {pos w k m : Nat} {es : List Entry} {x : Entry} (h : nearestEntry pos w k es = some (m, x)) :
    ∃ i : Nat, es[i]? = some x := by
  induction es generalizing k with
  | nil => cases h
  | cons e es ih =>
    unfold nearestEntry at h
    split at h
    · split at h
      · cases h; exact ⟨0, rfl⟩
      · cases h
    · next found =>
      split at h
      · cases h; exact ⟨0, rfl⟩
      · cases h
        obtain ⟨i, hi⟩ := ih found
        exact ⟨i + 1, hi⟩

/-- An entry within W and nearer than all others is the one matched. -/
theorem nearestEntry_unique {pos w i : Nat} {es : List Entry} {y : Entry} (held : es[i]? = some y) (near : dist pos y.low ≤ w)
    (others : ∀ (j : Nat) x, es[j]? = some x → j ≠ i → dist pos y.low < dist pos x.low) (k : Nat) :
    nearestEntry pos w k es = some (k + i, y) := by
  induction es generalizing i k with
  | nil => simp at held
  | cons e es ih =>
    cases i with
    | zero =>
      obtain rfl : e = y := by simpa using held
      unfold nearestEntry
      split
      · rw [if_pos near]; rfl
      · next found =>
        obtain ⟨j, hj⟩ := nearestEntry_mem found
        have nearer := others (j + 1) _ hj (by omega)
        rw [if_pos ⟨near, nearer.le⟩]; rfl
    | succ i =>
      have nearer := others 0 e rfl (by omega)
      have rest := ih (i := i) held (fun j x hx ne => others (j + 1) x hx (by omega)) (k + 1)
      simp [nearestEntry, rest, Nat.not_le.mpr nearer, Nat.add_assoc, Nat.add_comm 1]

/-- What a matched edge makes of the pass, before the count is corrected (R48, R52). -/
def edgeMatched (k : Nat) (s : State) : State :=
  (if s.transport.travel = .forward then closeGathering (fun g => g.frame + 1 == k) s else s).onTracker fun t =>
    { t with unmatchedRun := 0, edgeUnmatched := false,
             gathering := if s.transport.travel = .forward ∧ !t.matched.contains k then t.gathering ++ [{ frame := k, marks := [] }]
               else t.gathering,
             matched := if t.matched.contains k then t.matched else t.matched ++ [k] }

theorem matchEdge_found {k : Nat} {e : Entry} {s : State}
    (h : nearestEntry s.transport.position s.tracker.window 0 s.index.entries = some (k, e)) :
    matchEdge s = correctPosition e.low (edgeMatched k s) := by rw [matchEdge, h]; rfl

theorem matchEdge_unmatched {s : State} (h : ∀ x ∈ s.index.entries, s.tracker.window < dist s.transport.position x.low) :
    matchEdge s = s.onTracker fun t => { t with edgeUnmatched := true } := by rw [matchEdge, nearestEntry_none h]

theorem takeLowEdge_verifying {s : State} (mode : s.tracker.mode = .verifying) (parked : s.tracker.parked = none) :
    takeLowEdge s = matchEdge s := by simp [takeLowEdge, mode, parked]

theorem takeLowEdge_indexing {s : State} (mode : s.tracker.mode = .indexing) (parked : s.tracker.parked = none) :
    takeLowEdge s = classifyEdge s := by simp [takeLowEdge, mode, parked]

/-- An EXACT count off by 8 or less is left. -/
theorem correctPosition_near {low : Nat} {s : State} (reference : s.transport.reference = .exact)
    (near : dist s.transport.position low ≤ 8) : correctPosition low s = s := by
  have small : ((s.transport.position : Int) - low).natAbs ≤ 8 := by unfold dist at near; omega
  simp [correctPosition, reference, small]

theorem exec_lowEdge_taken {s t : State} (mode : s.tracker.mode ≠ .idle) (h : takeLowEdge s = t) :
    exec .lowEdge s = .next (settle t) := by
  rw [← h]
  exact congrArg Host.Outcome.next (if_pos (by simp [mode]))

theorem window_eq (t : Tracker) : t.window = max 20 (min 400 (t.p16 / 128)) := rfl

end Sys2Proof.Machine

end

section
/-! PROOFS. Marks gathered behind the frontier are compared; splices are listed. -/

namespace Sys2Proof.Machine

/-- A mark that belongs to no open candidate is counted for none (R38). -/
theorem markCloses_uncounted {on : Nat} {s : State} (mode : s.tracker.mode = .indexing) (open_ : s.tracker.openMark = some on)
    (below : ∀ c, s.tracker.candidate = some c → (on + s.transport.position) / 2 < c.low) : markCloses s = markEnded s := by
  by_cases short : dist on s.transport.position < s.transport.profile.markMin
  · exact markCloses_short (marksTaken_iff.mpr (.inl mode)) open_ short
  · obtain ⟨m, mark, _⟩ := markOf_class (Nat.not_lt.mp short)
    rw [markCloses_indexing mode open_ mark]
    exact modifyCandidate_closed fun c hc => if_neg (Nat.not_le.mpr (below c hc))

/-! ### When a gathered entry is compared (R52) -/

theorem edgeMatched_transport (k : Nat) (s : State) : (edgeMatched k s).transport = s.transport := by
  have closed (gs : List Gather) (u : State) : (gs.foldl (fun acc g => compareMarks g acc) u).transport = u.transport :=
    foldl_keeps State.transport (fun s g => compareMarks_transport g s) gs u
  unfold edgeMatched closeGathering
  split
  · exact closed _ _
  · rfl

/-- The pass matches the entry after the one gathered: that one is compared, and the new one gathered unless it was matched before. -/
theorem edgeMatched_next {g : Gather} {s : State} (travel : s.transport.travel = .forward) (held : s.tracker.gathering = [g]) :
    Compared g s (edgeMatched (g.frame + 1) s) ∧ (edgeMatched (g.frame + 1) s).tracker.gathering =
      if g.frame + 1 ∈ s.tracker.matched then [] else [{ frame := g.frame + 1, marks := [] }] := by
  have closed : closeGathering (fun x => x.frame + 1 == g.frame + 1) s =
      compareMarks g (s.onTracker fun t => { t with gathering := [] }) := closeGathering_picked held (by simp)
  unfold edgeMatched
  rw [if_pos travel, closed]
  refine ⟨(compareMarks_compared g (s.onTracker fun t => { t with gathering := [] })).of_eq rfl rfl rfl rfl, ?_⟩
  rw [State.onTracker_tracker, compareMarks_tracker]
  by_cases matched : g.frame + 1 ∈ s.tracker.matched <;> simp [travel, matched]

/-- The edge of the one entry nearest the count, EXACT and within 8 of it, is matched and leaves the count (R48, R49). -/
theorem takeLowEdge_near {k : Nat} {y : Entry} {s : State} (mode : s.tracker.mode = .verifying) (parked : s.tracker.parked = none)
    (reference : s.transport.reference = .exact) (held : s.index.entries[k]? = some y)
    (near : max s.transport.position y.low - min s.transport.position y.low ≤ 8)
    (others : ∀ (i : Nat) x, s.index.entries[i]? = some x → i ≠ k →
      8 < max s.transport.position x.low - min s.transport.position x.low) : takeLowEdge s = edgeMatched k s := by
  simp only [← dist_eq] at near others
  have unique := nearestEntry_unique (w := s.tracker.window) held (by rw [window_eq]; omega)
    (fun j x hx ne => near.trans_lt (others j x hx ne)) 0
  rw [Nat.zero_add] at unique
  have same := edgeMatched_transport k s
  rw [takeLowEdge_verifying mode parked, matchEdge_found unique]
  exact correctPosition_near (by rw [same, reference]) (by rw [same]; exact near)

theorem gatheringTest_passed {g : Gather} {e : Entry} {s : State} (mode : s.tracker.mode = .verifying)
    (travel : s.transport.travel = .forward) (gathering : s.tracker.gathering = [g]) (held : s.index.entries[g.frame]? = some e)
    (past : e.low + s.transport.profile.pitchMax < s.transport.position) :
    gatheringTest s = compareMarks g (s.onTracker fun t => { t with gathering := [] }) := by
  rw [gatheringTest, if_pos ⟨mode, travel⟩]
  exact closeGathering_picked gathering (by simp [held, past])

theorem gatheringTest_ahead {g : Gather} {e : Entry} {s : State} (gathering : s.tracker.gathering = [g])
    (held : s.index.entries[g.frame]? = some e) (ahead : s.transport.position ≤ e.low + s.transport.profile.pitchMax) :
    gatheringTest s = s := by
  unfold gatheringTest
  split
  · exact closeGathering_none fun x hx => by
      rw [gathering, List.mem_singleton] at hx
      simp [hx, held, Nat.not_lt.mpr ahead]
  · rfl

/-- A count over the one gathered entry: past its low + pitch_max it is compared and closed, before that kept (R52). -/
theorem Passing.gathered {g : Gather} {e : Entry} {s : State} (passing : Passing .forward s) (calm : s.tracker.edgeUnmatched = false)
    (gathering : s.tracker.gathering = [g]) (held : s.index.entries[g.frame]? = some e) :
    (s.transport.position = e.low + s.transport.profile.pitchMax →
      Compared g s (capstanMoves .forward s) ∧ (capstanMoves .forward s).tracker.gathering = []) ∧
    (s.transport.position < e.low + s.transport.profile.pitchMax →
      (capstanMoves .forward s).index = s.index ∧ (capstanMoves .forward s).tracker.gathering = [g]) := by
  obtain ⟨n, passed⟩ := passedTest_calm s.transport.position .forward (s := counted .forward s) calm
  have moves := passing.capstanMoves_forward
  obtain ⟨mode, -, -, -, travel, -, -, -, -, -, -, -, armed⟩ := passing
  have next : (counted .forward s).transport.position = s.transport.position + 1 := rfl
  rw [moves, passed]
  refine ⟨fun reached => ?_, fun below => ?_⟩
  · rw [gatheringTest_passed (s := (counted .forward s).onTracker fun t => { t with unmatchedRun := n }) mode travel gathering held
      (by rw [State.onTracker_transport, next, counted_profile]; omega), takeTriggers_unarmed _ _ (by rw [compareMarks_capture]; exact armed)]
    have compared := compareMarks_compared g
      (((counted .forward s).onTracker fun t => { t with unmatchedRun := n }).onTracker fun t => { t with gathering := [] })
    exact ⟨compared.of_eq rfl rfl rfl rfl, by rw [compareMarks_tracker]; rfl⟩
  · rw [gatheringTest_ahead (s := (counted .forward s).onTracker fun t => { t with unmatchedRun := n }) gathering held
      (by rw [State.onTracker_transport, next, counted_profile]; omega), takeTriggers_unarmed _ _ (by exact armed)]
    exact ⟨rfl, gathering⟩

/-! ### The ends of a splice (R45, R46) -/

theorem spliceCloses_listed {p : Nat} {tb : List Span} {s : State} (taken : splicesTaken s = true) (open_ : s.tracker.openSplice = some p)
    (placed : placeSpan { start := min p s.transport.position, finish := max p s.transport.position } s.tracker.splices = some tb) :
    spliceCloses s = s.onTracker fun t => { t with openSplice := none, splices := tb } := by simp [spliceCloses, taken, open_, placed]

theorem spliceCloses_dropped {p : Nat} {s : State} (taken : splicesTaken s = true) (open_ : s.tracker.openSplice = some p)
    (dropped : placeSpan { start := min p s.transport.position, finish := max p s.transport.position } s.tracker.splices = none) :
    spliceCloses s = s.onTracker fun t => { t with openSplice := none, pendingSplice := true } := by
  simp [spliceCloses, taken, open_, dropped]

end Sys2Proof.Machine

open Sys2Proof Sys2Proof.Machine

/-- Settles O45: each sensor's rows by the mode or the state that takes them, and the two ways to the comparison of gathered marks. -/
theorem marksAndSplices : Obligations.MarksAndSplices := by
  intro s classed told classedIff toldIff
  have classed_iff (len : Nat) (m : Mark) : classed len m ↔ MarkClass s.transport.profile len m := classedIff len m
  have told_iff (g : Gather) (u : State) : told g u ↔ Compared g s u := toldIff g u
  have off {t : State} (h : markCloses s = t) : exec .markOff s = .next t := congrArg Host.Outcome.next h
  have spliceOff {t : State} (h : spliceCloses s = t) : exec .spliceOff s = .next t := congrArg Host.Outcome.next h
  refine ⟨fun h => ?_, fun h => ?_, ?_, ?_, ?_, fun ms => ?_, ?_, ?_, fun state reference => ?_, fun h => ?_⟩
  · have taken := marksTaken_iff.mpr h
    exact ⟨congrArg Host.Outcome.next (by simp [markOpens, taken, State.onTracker]), fun closed => off (markCloses_none closed)⟩
  · have idle : ¬ marksTaken s = true := by
      rw [marksTaken_iff]
      rcases h with mode | ⟨mode, reverse⟩
      · simp [mode]
      · simp [mode, reverse]
    exact ⟨congrArg Host.Outcome.next (if_neg idle), off (if_neg idle)⟩
  · intro on mode opened below
    exact off (markCloses_uncounted mode opened below)
  · intro on c len mode opened hc within hlen
    rw [← Machine.dist_eq] at hlen
    refine ⟨fun short => off (markCloses_short (marksTaken_iff.mpr (.inl mode)) opened (hlen ▸ short)), fun long => ?_⟩
    obtain ⟨m, mark, cls⟩ := markOf_class long
    refine ⟨m, (classed_iff len m).mpr cls, off ?_⟩
    rw [markCloses_indexing mode opened (hlen ▸ mark), modifyCandidate_open (s := markEnded s) hc, if_pos within]
    rfl
  · intro on mid len mode travel opened hmid hlen
    rw [← Machine.dist_eq] at hlen
    refine ⟨fun short => off (markCloses_short (marksTaken_iff.mpr (.inr ⟨mode, travel⟩)) opened (hlen ▸ short)), fun long => ?_⟩
    obtain ⟨m, mark, cls⟩ := markOf_class long
    refine ⟨m, s.tracker.gathering.map (Gather.take s.index.entries mid m), (classed_iff len m).mpr cls, off ?_, List.length_map _, ?_⟩
    · rw [markCloses_verifying mode travel opened (hlen ▸ mark), gatherMark_eq, ← hmid]
      rfl
    · intro k g h hg hh
      obtain rfl : g.take s.index.entries mid m = h := by simpa [hg] using hh
      exact ⟨Gather.take_frame .., fun e held => Gather.take_marks held mid m⟩
  · obtain ⟨_, bound, reached⟩ := foldl_level ms 0
    exact ⟨bound, reached⟩
  · intro g y mode parked travel reference gathering held near others
    have result := takeLowEdge_near mode parked reference held near others
    obtain ⟨compared, gathers⟩ := edgeMatched_next travel gathering
    exact ⟨_, exec_lowEdge_taken (by rw [mode]; decide) result, (told_iff _ _).mpr compared, gathers⟩
  · intro g e passing calm gathering held
    have row := exec_capstanCount_taken (s := s) (by simp [passing.2.2.2.1]) .forward
    obtain ⟨past, ahead⟩ := passing.gathered calm gathering held
    refine ⟨fun at_bound => ?_, fun below => ?_⟩
    · obtain ⟨compared, closed⟩ := past at_bound
      exact ⟨_, row, (told_iff _ _).mpr compared, closed⟩
    · exact ⟨_, row, ahead below⟩
  · have taken := splicesTaken_iff.mpr ⟨state, reference⟩
    refine ⟨congrArg Host.Outcome.next (if_pos taken), fun closed => spliceOff (by simp [spliceCloses, closed]), ?_⟩
    rintro p sp opened rfl
    exact ⟨fun tb placed => spliceOff (spliceCloses_listed taken opened placed),
      fun dropped => spliceOff (spliceCloses_dropped taken opened dropped)⟩
  · have idle : ¬ splicesTaken s = true := by
      rw [splicesTaken_iff]
      rcases h with lost | ⟨moving, referencing, rewinding⟩
      · simp [lost]
      · simp [moving, referencing, rewinding]
    exact ⟨congrArg Host.Outcome.next (if_neg idle), spliceOff (if_neg idle)⟩

end

section
/-! SUPPORT. The tracker and the index while jobs try their targets again and the index grows (R56 to R59). -/

namespace Sys2Proof.Machine

/-! ### Jobs leave the film alone -/

@[simp] theorem onJobs_film (f : Jobs → Jobs) (s : State) : (s.onJobs f).film = s.film := rfl
@[simp] theorem onLink_film (l : LinkId) (f : LinkUnit → LinkUnit) (s : State) : (s.onLink l f).film = s.film := rfl
@[simp] theorem setJobState_film (n : Nat) (st : JobState) (s : State) : (setJobState n st s).film = s.film := rfl
@[simp] theorem modifySweep_film (n : Nat) (f : SweepRec → SweepRec) (s : State) : (modifySweep n f s).film = s.film := rfl
@[simp] theorem modifyItems_film (n : Nat) (f : List Item → List Item) (s : State) : (modifyItems n f s).film = s.film := rfl
@[simp] theorem modifyItem_film (n k : Nat) (f : Item → Item) (s : State) : (modifyItem n k f s).film = s.film := rfl
@[simp] theorem discardRevisit_film (n : Nat) (s : State) : (discardRevisit n s).film = s.film := rfl
@[simp] theorem setRollClaim_film (v : Bool) (s : State) : (setRollClaim v s).film = s.film := rfl
@[simp] theorem setBlocked_film (v : Bool) (s : State) : (setBlocked v s).film = s.film := rfl
@[simp] theorem queueJobDone_film (l : LinkId) (n : Nat) (s : State) : (queueJobDone l n s).film = s.film := rfl
@[simp] theorem disarm_film (s : State) : (disarm s).film = s.film := rfl
@[simp] theorem armTrigger_film (a : Armed) (s : State) : (armTrigger a s).film = s.film := rfl
@[simp] theorem dropCurrent_film (s : State) : (dropCurrent s).film = s.film := by unfold dropCurrent; (repeat' split) <;> simp
@[simp] theorem withdraw_film (r : Requester) (s : State) : (withdraw r s).film = s.film := by
  unfold withdraw; dsimp only; (repeat' split) <;> simp
@[simp] theorem ensureIndex_film (n : Nat) (s : State) : (ensureIndex n s).film = s.film := by unfold ensureIndex; split <;> simp
@[simp] theorem endJob_film (n : Nat) (st : JobState) (why : EndReason) (s : State) : (endJob n st why s).film = s.film := by
  unfold endJob; dsimp only; (repeat' split) <;> simp
@[simp] theorem fetchChoose_film (n : Nat) (s : State) : (fetchChoose n s).film = s.film := by
  unfold fetchChoose; (repeat' split) <;> simp
@[simp] theorem seekTry_film (n : Nat) (final : Bool) (s : State) : (seekTry n final s).film = s.film := by
  unfold seekTry; (repeat' split) <;> simp
@[simp] theorem indexToTry_film (n : Nat) (final : Bool) (s : State) : (indexToTry n final s).film = s.film := by
  unfold indexToTry; (repeat' split) <;> simp
@[simp] theorem sweepTry_film (n : Nat) (final : Bool) (s : State) : (sweepTry n final s).film = s.film := by
  unfold sweepTry; dsimp only; (repeat' split) <;> simp
@[simp] theorem retryJob_film (final : Bool) (n : Nat) (s : State) : (retryJob final n s).film = s.film := by
  unfold retryJob; (repeat' split) <;> simp
@[simp] theorem retryJobs_film (s : State) : (retryJobs s).film = s.film :=
  foldl_keeps State.film (fun s n => retryJob_film false n s) _ s
@[simp] theorem sweepsTakeAppended_film (k : Nat) (s : State) : (sweepsTakeAppended k s).film = s.film :=
  foldl_keeps State.film (fun s n => modifySweep_film n _ s) _ s
@[simp] theorem armFrames_film (job n : Nat) (s : State) : (armFrames job n s).film = s.film := by
  induction n generalizing s with
  | zero => rfl
  | succ n ih => unfold armFrames; (repeat' split) <;> simp [ih]
@[simp] theorem armRun_film (s : State) : (armRun s).film = s.film := by unfold armRun; split <;> simp

theorem tracker_of_film {s t : State} (h : t.film = s.film) : t.tracker = s.tracker := congrArg Prod.fst h
theorem index_of_film {s t : State} (h : t.film = s.film) : t.index = s.index := congrArg Prod.snd h

/-! ### The index changes state and grows -/

/-- The tracker, the entries and the frontier. -/
def State.grown (s : State) : Tracker × List Entry × Nat := (s.tracker, s.index.entries, s.index.frontier)

theorem grown_of_film {s t : State} (h : t.film = s.film) : t.grown = s.grown := by
  simp [State.grown, tracker_of_film h, index_of_film h]

@[simp] theorem setIndexState_grown (st : IndexState) (s : State) : (setIndexState st s).grown = s.grown := by
  unfold setIndexState
  split
  · rfl
  · exact (grown_of_film (retryJobs_film _)).trans rfl

@[simp] theorem completeTest_grown (s : State) : (completeTest s).grown = s.grown := by
  unfold completeTest; (repeat' split) <;> simp

/-- The frontier rises to a position, and never falls (R28). -/
theorem raiseFrontier_grown (p : Nat) (s : State) :
    (raiseFrontier p s).grown = (s.tracker, s.index.entries, max s.index.frontier p) := by
  unfold raiseFrontier
  split
  · next below =>
    rw [max_eq_right below.le]
    dsimp only
    split <;> simp <;> rfl
  · next reached =>
    rw [max_eq_left (Nat.not_lt.mp reached)]
    rfl

/-- An entry is appended (R56). -/
theorem appendEntry_grown (e : Entry) (s : State) :
    (appendEntry e s).grown = (s.tracker, s.index.entries ++ [e], s.index.frontier) := by
  have counted : ∀ t : State, (if t.index.count % Config.segmentSize = 0 then raise .indexProgress t else t).film = t.film :=
    fun t => by split <;> rfl
  have told : ∀ k t, (armRun (sweepsTakeAppended k t)).grown = t.grown := fun k t => grown_of_film (by simp)
  have retried : ∀ t : State, (completeTest (retryJobs t)).grown = t.grown := fun t => by simp [grown_of_film (retryJobs_film t)]
  have begun : ∀ t : State, (if t.index.state = .empty then setIndexState .growing t else t).grown = t.grown := fun t => by
    split <;> simp
  unfold appendEntry
  dsimp only
  rw [retried, begun, told, grown_of_film (counted _)]
  rfl

theorem tracker_of_grown {s : State} {t : Tracker} {es : List Entry} {p : Nat} (h : s.grown = (t, es, p)) : s.tracker = t :=
  congrArg Prod.fst h
theorem entries_of_grown {s : State} {t : Tracker} {es : List Entry} {p : Nat} (h : s.grown = (t, es, p)) : s.index.entries = es :=
  congrArg (fun x => x.2.1) h
theorem frontier_of_grown {s : State} {t : Tracker} {es : List Entry} {p : Nat} (h : s.grown = (t, es, p)) : s.index.frontier = p :=
  congrArg (fun x => x.2.2) h

/-! ### A commit (R36) -/

/-- The tracker after a commit (R36, R39, R41). -/
def Tracker.committed (a : Address) (byPitchMax : Bool) (p : Profile) (t : Tracker) : Tracker :=
  { t with candidate := none, counters := some a, budget := p.rescanLimit, pendingNoise := false, pendingSplice := false,
           lastByPitchMax := byPitchMax }

theorem commit_none {s : State} (h : s.tracker.candidate = none) (high : Nat) (byPitchMax : Bool) :
    commit high byPitchMax s = (true, s) := by simp [commit, h]

theorem Candidate.closed_keeps (high : Nat) (c : Candidate) : (c.closed high).low = c.low ∧ (c.closed high).marks = c.marks ∧
    (c.closed high).gapLength = c.gapLength ∧ (c.closed high).missing = c.missing ∧
    (c.closed high).high = some (c.high.getD high) ∧ (c.closed high).flags.overlong = (c.flags.overlong || c.high.isNone) := by
  unfold Candidate.closed
  split
  · next h => simp [h]
  · next h => simp [h]

/-- With room for it and an address, the open candidate becomes the next entry. -/
theorem commit_entry {c : Candidate} {a : Address} {s : State} (high : Nat) (byPitchMax : Bool)
    (hc : s.tracker.candidate = some c) (room : s.index.entries.length < 16384)
    (address : nextAddress s.transport.profile.startAddress s.tracker.counters (frameLevel c.marks) = some a) :
    commit high byPitchMax s = (true, appendEntry (candidateEntry (c.closed high) a s)
      (s.onTracker (Tracker.committed a byPitchMax s.transport.profile))) := by
  obtain ⟨-, marks, -⟩ := c.closed_keeps high
  have free : ¬ Config.maxEntries ≤ s.index.count := Nat.not_le.mpr room
  simp only [commit, hc, marks, address, free, if_false]
  rfl

theorem commit_grown {c : Candidate} {a : Address} {s : State} (high : Nat) (byPitchMax : Bool)
    (hc : s.tracker.candidate = some c) (room : s.index.entries.length < 16384)
    (address : nextAddress s.transport.profile.startAddress s.tracker.counters (frameLevel c.marks) = some a) :
    (commit high byPitchMax s).2.grown = (s.tracker.committed a byPitchMax s.transport.profile,
      s.index.entries ++ [candidateEntry (c.closed high) a s], s.index.frontier) := by
  rw [commit_entry high byPitchMax hc room address, appendEntry_grown]
  rfl

theorem candidateEntry_closed (high : Nat) (c : Candidate) (a : Address) (s : State) :
    (candidateEntry (c.closed high) a s).low = c.low ∧ (candidateEntry (c.closed high) a s).high = c.high.getD high ∧
    (candidateEntry (c.closed high) a s).markLevel = frameLevel c.marks ∧
    (candidateEntry (c.closed high) a s).gapLength = c.gapLength ∧ (candidateEntry (c.closed high) a s).missing = c.missing ∧
    (candidateEntry (c.closed high) a s).flags.overlong = (c.flags.overlong || c.high.isNone) := by
  obtain ⟨low, marks, gap, missing, closed, overlong⟩ := c.closed_keeps high
  simp [candidateEntry, markFlags, low, marks, gap, missing, closed, overlong]

end Sys2Proof.Machine

end

section
/-! PROOFS. LOW_EDGE while INDEXING, at a handover and in a rescan. -/

namespace Sys2Proof.Machine

/-! ### The upper limit (R36) -/

/-- The count lies at its upper limit with forward travel. -/
def AtLimit (s : State) : Prop := s.transport.travel = .forward ∧ s.transport.position = s.transport.upperLimit

theorem AtLimit.congr {s t : State} (coast : t.coast = s.coast) (still : t.still = s.still) : AtLimit t ↔ AtLimit s := by
  have travel : t.transport.travel = s.transport.travel := congrArg (fun x => x.motion.travel) coast
  have position : t.transport.position = s.transport.position := congrArg (fun x => x.base.position) still
  have rollEnd : t.transport.rollEnd = s.transport.rollEnd := congrArg Still.rollEnd still
  simp only [AtLimit, Transport.upperLimit, travel, position, rollEnd]

section
variable {s : State}

theorem dropAtLimit_away (h : ¬ AtLimit s) : dropAtLimit s = s := if_neg fun ⟨travel, position, _⟩ => h ⟨travel, position⟩

theorem dropAtLimit_at {c : Candidate} (h : AtLimit s) (hc : s.tracker.candidate = some c) (low : c.low = s.transport.position) :
    dropAtLimit s = s.onTracker fun t => { t with candidate := none } :=
  if_pos ⟨h.1, h.2, by simp [hc, low.trans h.2]⟩

/-! ### An accepted edge (R33, R35) -/

/-- The tracker with a candidate opened at a position (R33, R43). -/
def Tracker.opens (c : Candidate) (pos : Nat) (t : Tracker) : Tracker :=
  { t with candidate := some c, eLast := some pos, missAccepted := false, parked := none,
           rescan := if t.rescan.any fun r => r.origin < pos then none else t.rescan }

theorem acceptEdge_committed {k : Opening} {s1 : State} (h : commit (s.transport.position - 1) false s = (true, s1)) :
    acceptEdge k s =
      dropAtLimit (s1.onTracker (Tracker.opens (openedAt s.transport.position k s.tracker) s.transport.position)) := by
  simp only [acceptEdge, h]
  rfl

/-- With no candidate open the edge opens one. -/
theorem acceptEdge_opens (k : Opening) (closed : s.tracker.candidate = none) (away : ¬ AtLimit s) : acceptEdge k s =
    s.onTracker (Tracker.opens (openedAt s.transport.position k s.tracker) s.transport.position) := by
  rw [acceptEdge_committed (commit_none closed _ _)]
  exact dropAtLimit_away away

/-- At the upper limit the candidate that the edge opens is discarded at once (log 42). -/
theorem acceptEdge_at (k : Opening) (closed : s.tracker.candidate = none) (limit : AtLimit s) : acceptEdge k s =
    s.onTracker fun t => { t.opens (openedAt s.transport.position k s.tracker) s.transport.position with candidate := none } := by
  rw [acceptEdge_committed (commit_none closed _ _)]
  exact dropAtLimit_at limit rfl rfl

/-! ### The edge by the window (R33) -/

theorem classifyEdge_first (h : s.tracker.eLast = none) : classifyEdge s = acceptEdge .first s := by simp [classifyEdge, h]

theorem classifyEdge_behind {e : Nat} {r : Rescan} (last : s.tracker.eLast = some e) (rescan : s.tracker.rescan = some r)
    (behind : s.transport.position ≤ r.origin) : classifyEdge s = s := by simp [classifyEdge, last, rescan, behind]

section
variable {e : Nat} (last : s.tracker.eLast = some e)
  (ahead : (s.tracker.rescan.any fun r => s.transport.position ≤ r.origin) = false)
include last ahead

theorem classifyEdge_short (early : s.transport.position + s.tracker.indexWindow < s.tracker.predicted e)
    (closed : s.tracker.candidate = none) : classifyEdge s = acceptEdge .short s := by
  simp [classifyEdge, last, ahead, early, closed]

theorem classifyEdge_gap (late : s.tracker.predicted e + s.tracker.indexWindow < s.transport.position) :
    classifyEdge s = acceptEdge .gap s := by
  have notEarly : ¬ s.transport.position + s.tracker.indexWindow < s.tracker.predicted e := by omega
  simp [classifyEdge, last, ahead, late, notEarly]

theorem classifyEdge_inWindow (low : s.tracker.predicted e ≤ s.transport.position + s.tracker.indexWindow)
    (high : s.transport.position ≤ s.tracker.predicted e + s.tracker.indexWindow)
    (next : ¬ (s.tracker.candidate.isNone = true ∧ s.tracker.lastByPitchMax = true)) : classifyEdge s = acceptEdge .inWindow s := by
  have notLate : ¬ (s.tracker.predicted e + s.tracker.indexWindow < s.transport.position ∨
      s.tracker.candidate.isNone = true ∧ s.tracker.lastByPitchMax = true) := by rintro (late | h); exacts [by omega, next h]
  simp only [classifyEdge, last, ahead, Nat.not_lt.mpr low, notLate, if_false, Bool.false_eq_true]

end

theorem predicted_eq (t : Tracker) (e : Nat) : t.predicted e = e + (t.p16 + 8) / 16 := rfl

theorem indexWindow_plain {t : Tracker} (h : t.rescan = none) : t.indexWindow = max 20 (min 400 (t.p16 / 128)) := by
  simp [Tracker.indexWindow, h, window_eq]

theorem indexWindow_rescan {t : Tracker} {r : Rescan} (h : t.rescan = some r) :
    t.indexWindow = min 800 (2 * max 20 (min 400 (t.p16 / 128))) := by simp [Tracker.indexWindow, h, Tracker.window2, window_eq]

/-- The state with a candidate opened at the position count, no rescan active and nothing parked. -/
def opened (k : Opening) (gap missing : Nat) (s : State) : State :=
  { s with tracker := { s.tracker with
    candidate := some { low := s.transport.position, high := none, opening := k, gapLength := gap, missing := missing,
                        flags := { pitchOdd := k == .short, gapBefore := k == .gap }, marks := [], estimateDone := false },
    eLast := some s.transport.position, missAccepted := false } }

/-- An edge accepted with nothing open, parked or under a rescan. -/
theorem acceptEdge_plain {k : Opening} (rescan : s.tracker.rescan = none) (parked : s.tracker.parked = none)
    (closed : s.tracker.candidate = none) (away : ¬ AtLimit s) : acceptEdge k s =
      opened k (openedAt s.transport.position k s.tracker).gapLength (openedAt s.transport.position k s.tracker).missing s := by
  rw [acceptEdge_opens k closed away]
  simp [State.onTracker, Tracker.opens, opened, openedAt, rescan, parked]

theorem acceptEdge_plain_at {k : Opening} (rescan : s.tracker.rescan = none) (parked : s.tracker.parked = none)
    (closed : s.tracker.candidate = none) (limit : AtLimit s) : acceptEdge k s =
      { s with tracker := { s.tracker with candidate := none, eLast := some s.transport.position, missAccepted := false } } := by
  rw [acceptEdge_at k closed limit]
  simp [State.onTracker, Tracker.opens, rescan, parked]

/-- With no rescan active and nothing open an edge is accepted, whatever it opens. -/
theorem classifyEdge_accepts (rescan : s.tracker.rescan = none) (closed : s.tracker.candidate = none) :
    ∃ k, classifyEdge s = acceptEdge k s := by
  cases last : s.tracker.eLast with
  | none => exact ⟨.first, classifyEdge_first last⟩
  | some e =>
    have ahead : (s.tracker.rescan.any fun r => s.transport.position ≤ r.origin) = false := by simp [rescan]
    by_cases early : s.transport.position + s.tracker.indexWindow < s.tracker.predicted e
    · exact ⟨.short, classifyEdge_short last ahead early closed⟩
    · by_cases gap : s.tracker.predicted e + s.tracker.indexWindow < s.transport.position ∨ s.tracker.lastByPitchMax = true
      · exact ⟨.gap, by simp [classifyEdge, last, rescan, early, closed, gap]⟩
      · exact ⟨.inWindow, by simp [classifyEdge, last, rescan, early, closed, gap]⟩

/-- The figures of a GAP above the window (R35). -/
theorem openedAt_gap {e : Nat} (last : s.tracker.eLast = some e) (late : e + (s.tracker.p16 + 8) / 16 < s.transport.position) :
    (openedAt s.transport.position .gap s.tracker).gapLength = s.transport.position - e - (s.tracker.p16 + 8) / 16 ∧
    (openedAt s.transport.position .gap s.tracker).missing =
      max 1 (min 255 ((16 * (s.transport.position - e) + s.tracker.p16 / 2) / s.tracker.p16 - 1)) := by
  simp only [openedAt, last, missingFrames, clampNat, Tracker.pitch, and_true]
  omega

/-- An edge in the window over an open candidate: that one is committed, closed a count below, and the next one opens. -/
theorem acceptEdge_commits {c : Candidate} {a : Address} (away : ¬ AtLimit s)
    (hc : s.tracker.candidate = some c) (room : s.index.entries.length < 16384)
    (address : nextAddress s.transport.profile.startAddress s.tracker.counters (frameLevel c.marks) = some a) :
    (acceptEdge .inWindow s).index.entries =
      s.index.entries ++ [candidateEntry (c.closed (s.transport.position - 1)) a s] ∧
    (acceptEdge .inWindow s).tracker = (s.tracker.committed a false s.transport.profile).opens
      (openedAt s.transport.position .inWindow s.tracker) s.transport.position := by
  have entry := commit_entry (s.transport.position - 1) false hc room address
  have grown := commit_grown (s.transport.position - 1) false hc room address
  have away' : ¬ AtLimit ((commit (s.transport.position - 1) false s).2.onTracker
      (Tracker.opens (openedAt s.transport.position .inWindow s.tracker) s.transport.position)) := by
    rw [AtLimit.congr (onTracker_coast _ _) (onTracker_still _ _), AtLimit.congr (commit_coast _ _ _) (commit_still _ _ _)]
    exact away
  rw [acceptEdge_committed (s1 := (commit (s.transport.position - 1) false s).2) (by rw [entry]), dropAtLimit_away away']
  rw [State.onTracker_index, State.onTracker_tracker, tracker_of_grown grown]
  exact ⟨entries_of_grown grown, rfl⟩

/-! ### The handover edge (R29) -/

/-- The candidate of a parked opening, reopened (R29). -/
def Parked.reopen (p : Parked) : Candidate where
  low          := p.low
  high         := none
  opening      := p.opening
  gapLength    := p.gapLength
  missing      := p.missing
  flags        := p.flags
  marks        := []
  estimateDone := p.estimateDone

/-- INDEXING begins in a new pass with the parked candidate reopened. -/
def reopened (p : Parked) (s : State) : State :=
  (newPass (s.onTracker fun t => { t with mode := .indexing })).onTracker fun t =>
    { t with candidate := some p.reopen, parked := none, eLast := some p.low, counters := s.index.last?.map (·.address) }

theorem handover_verifying {p : Parked} (mode : s.tracker.mode = .verifying) (reference : s.transport.reference = .exact) :
    handover p s = dropAtLimit (raiseFrontier s.transport.position (reopened p s)) := by
  have passes : setMode .indexing s = newPass (s.onTracker fun t => { t with mode := .indexing }) := by simp [setMode, mode]
  simp only [handover, reference, passes]
  rfl

theorem isHandover_verifying {p : Parked} (mode : s.tracker.mode = .verifying) (travel : s.transport.travel = .forward)
    (full : s.index.state ≠ .frozenFull) (spent : s.index.state ≠ .frozenAddress)
    (near : dist s.transport.position p.low ≤ s.tracker.window)
    (past : ∀ x, s.index.entries.getLast? = some x → x.high < s.transport.position) : isHandover p s = true := by
  have last : (s.index.last?.all fun e => e.high < s.transport.position) = true := by
    cases h : s.index.last? with
    | none => rfl
    | some x => simpa using past x h
  simp [isHandover, mode, travel, Index.frozen, full, spent, near, last]

end

end Sys2Proof.Machine

open Sys2Proof Sys2Proof.Machine

/-- Settles O47: the edge by the window, over an open candidate, at a handover and in a rescan. -/
theorem lowEdgeOpens : Obligations.LowEdgeOpens := by
  intro s atLimit w limitIff hw
  have limit_iff : atLimit ↔ AtLimit s := limitIff
  rw [limit_iff]
  have indexed (mode : s.tracker.mode = .indexing) (parked : s.tracker.parked = none) {t : State} (h : classifyEdge s = t) :
      exec .lowEdge s = .next (settle t) :=
    exec_lowEdge_taken (by rw [mode]; decide) (by rw [takeLowEdge_indexing mode parked, h])
  refine ⟨?_, ?_, ?_, ?_⟩
  · intro opens rescan mode parked closed byMax opensIff
    have window := indexWindow_plain rescan
    have ahead : (s.tracker.rescan.any fun r => s.transport.position ≤ r.origin) = false := by simp [rescan]
    have opens_of {k : Opening} {gap missing : Nat} (h : classifyEdge s = opened k gap missing s) : opens k gap missing :=
      (opensIff k gap missing).mpr (indexed mode parked h)
    refine ⟨fun limit => ?_, fun away first => ?_, fun e pitch away last hpitch => ⟨fun early => ?_, fun low high => ?_, fun late => ?_⟩⟩
    · obtain ⟨k, accepts⟩ := classifyEdge_accepts rescan closed
      exact indexed mode parked (accepts.trans (acceptEdge_plain_at rescan parked closed limit))
    · exact opens_of ((classifyEdge_first first).trans (acceptEdge_plain rescan parked closed away))
    · have early' : s.transport.position + s.tracker.indexWindow < s.tracker.predicted e := by rw [window, predicted_eq]; omega
      exact opens_of ((classifyEdge_short last ahead early' closed).trans (acceptEdge_plain rescan parked closed away))
    · have inside := classifyEdge_inWindow last ahead (by rw [window, predicted_eq]; omega) (by rw [window, predicted_eq]; omega)
        (by simp [byMax])
      exact opens_of (inside.trans (acceptEdge_plain rescan parked closed away))
    · have late' : s.tracker.predicted e + s.tracker.indexWindow < s.transport.position := by rw [window, predicted_eq]; omega
      have figures := openedAt_gap last (by omega)
      rw [← hpitch] at figures
      have plain := (classifyEdge_gap last ahead late').trans (acceptEdge_plain rescan parked closed away)
      rw [figures.1, figures.2] at plain
      exact opens_of plain
  · intro c a e pitch rescan mode parked hc away last hpitch low high room address
    have window := indexWindow_plain rescan
    have inside := classifyEdge_inWindow last (by simp [rescan]) (by rw [window, predicted_eq]; omega)
      (by rw [window, predicted_eq]; omega) (by simp [hc])
    obtain ⟨entries, tracker⟩ := acceptEdge_commits away hc room address
    obtain ⟨entryLow, entryHigh, -, -, -, overlong⟩ := candidateEntry_closed (s.transport.position - 1) c a s
    refine ⟨_, indexed mode parked inside, ⟨_, entries, entryLow, rfl, entryHigh, overlong⟩, ?_, ?_, ?_⟩
    · rw [tracker]
      simp [Tracker.opens, openedAt, rescan]
    · rw [tracker]
      rfl
    · rw [tracker]
      rfl
  · intro p mode parked travel away reference full spent low high past
    have near : Machine.dist s.transport.position p.low ≤ s.tracker.window := by rw [window_eq, ← hw]; unfold Machine.dist; omega
    have taken : takeLowEdge s = dropAtLimit (raiseFrontier s.transport.position (reopened p s)) := by
      rw [← handover_verifying mode reference]
      simp [takeLowEdge, mode, parked, isHandover_verifying mode travel full spent near past]
    have grown := raiseFrontier_grown s.transport.position (reopened p s)
    have still := raiseFrontier_still s.transport.position (reopened p s)
    have away' : ¬ AtLimit (raiseFrontier s.transport.position (reopened p s)) := by
      rw [AtLimit.congr (raiseFrontier_coast _ _) still]
      exact away
    rw [dropAtLimit_away away'] at taken
    refine ⟨_, exec_lowEdge_taken (by rw [mode]; decide) taken, ?_⟩
    dsimp only
    rw [tracker_of_grown grown]
    exact ⟨rfl, rfl, rfl, rfl, rfl, entries_of_grown grown, frontier_of_grown grown, congrArg (fun x => x.base.position) still⟩
  · intro r e pitch rescan mode parked last hpitch
    refine ⟨fun behind => indexed mode parked (classifyEdge_behind last rescan behind), fun beyond away closed byMax low high => ?_⟩
    have window := indexWindow_rescan rescan
    rw [← hw] at window
    have inside := classifyEdge_inWindow last (by simp [rescan, beyond]) (by rw [window, predicted_eq]; omega)
      (by rw [window, predicted_eq]; omega) (by simp [byMax])
    refine indexed mode parked (inside.trans ((acceptEdge_opens .inWindow closed away).trans ?_))
    simp [State.onTracker, Tracker.opens, openedAt, rescan, beyond, parked]

end

section
/-! SUPPORT. The reference lost while VERIFYING (R5, R44, R51, R100), and what keeps it. -/

namespace Sys2Proof.Machine

/-! ### The list of armed triggers once it is empty (R100) -/

section
variable {s : State} (h : s.capture.armed = [])
include h

theorem stopMove_armed : (stopMove s).capture.armed = [] := by rw [stopMove_capture, h]
theorem disarmRun_armed (c : Current) : (disarmRun c s).capture.armed = [] := by
  unfold disarmRun
  split
  · rfl
  · exact h

theorem askStop_armed (why : StopCause) : (askStop why s).capture.armed = [] := by
  unfold askStop
  (repeat' split)
  · exact h
  · exact h
  · exact stopMove_armed (disarmRun_armed (by exact h) _)

theorem suspendTest_armed : (suspendTest s).capture.armed = [] := by
  unfold suspendTest
  (repeat' split)
  · exact h
  · exact askStop_armed h _
  · exact h

theorem yieldTest_armed : (yieldTest s).capture.armed = [] := by
  unfold yieldTest
  (repeat' split)
  · exact h
  · exact askStop_armed h _
  · exact h

theorem submit_armed (r : Requester) (cls : QClass) (k : QKind) (frame : Option Nat) : (submit r cls k frame s).capture.armed = [] := by
  have arbiter (f : Arbiter → Arbiter) : (s.onArbiter f).capture.armed = [] := h
  unfold submit
  dsimp only
  split
  · refine yieldTest_armed ?_
    split
    · exact suspendTest_armed (arbiter _)
    · exact arbiter _
  · refine yieldTest_armed ?_
    (repeat' split)
    · exact h
    · exact askStop_armed (arbiter _) _
    · exact h
    · exact h

theorem dropCurrent_armed : (dropCurrent s).capture.armed = [] := by
  unfold dropCurrent
  (repeat' split)
  · exact h
  · exact h
  · exact stopMove_armed (disarmRun_armed (by exact h) _)

theorem withdraw_armed (r : Requester) : (withdraw r s).capture.armed = [] := by
  unfold withdraw
  dsimp only
  split
  · exact dropCurrent_armed (by exact h)
  · exact h

theorem withdrawRescan_armed : (withdrawRescan s).capture.armed = [] := by
  unfold withdrawRescan
  split
  · exact h
  · exact withdraw_armed (s := s.onTracker fun t => { t with rescan := none }) h _

theorem askReference_armed : (askReference s).capture.armed = [] := by
  unfold askReference
  split
  · dsimp only
    split
    · exact withdrawRescan_armed h
    · exact submit_armed (withdrawRescan_armed h) _ _ _ _
  · exact h

theorem stopForLoss_armed : (stopForLoss s).capture.armed = [] := by
  unfold stopForLoss
  (repeat' split)
  · exact h
  · exact h
  · exact stopMove_armed (by exact h)

end

theorem tracker_of_film_eq {s : State} {t : Tracker} {ix : Index} (h : s.film = (t, ix)) : s.tracker = t := congrArg Prod.fst h
theorem index_of_film_eq {s : State} {t : Tracker} {ix : Index} (h : s.film = (t, ix)) : s.index = ix := congrArg Prod.snd h

/-! ### A rescan withdrawn, and a reference asked for (R21, R44) -/

@[simp] theorem withdrawRescan_film (s : State) : (withdrawRescan s).film = ({ s.tracker with rescan := none }, s.index) := by
  unfold withdrawRescan
  split
  · next closed =>
    have closed : s.tracker.rescan = none := by simp_all
    simp [State.film, ← closed]
  · rw [onArbiter_film, withdraw_film]
    rfl

/-- A withdrawal takes the requester's own entry off the queue. -/
theorem withdraw_entry (r : Requester) (s : State) : (withdraw r s).arbiter.entryOf r = none := by
  rw [entryOf_eq_none, Arbiter.requesters, withdraw_queue]
  simp

theorem withdrawRescan_entry (s : State) : (withdrawRescan s).arbiter.entryOf .tracker = none := by
  unfold withdrawRescan
  split
  · next closed => simp_all
  · rw [State.onArbiter_arbiter, Arbiter.entryOf, dropInterrupted_queue]
    exact withdraw_entry .tracker _

/-- A request for a REFERENCE brings in no entry of the tracker's, and withdraws one that is there. -/
theorem askReference_entry {s : State} (h : s.arbiter.entryOf .tracker = none) : (askReference s).arbiter.entryOf .tracker = none := by
  unfold askReference
  split
  · dsimp only
    have withdrawn := withdrawRescan_entry s
    split
    · exact withdrawn
    · rw [entryOf_eq_none] at withdrawn ⊢
      intro held
      rcases submit_requesters _ _ _ _ _ _ held with other | held
      · cases other
      · exact withdrawn held
  · exact h

theorem askReference_film {s : State} (h : s.tracker.rescan = none) : (askReference s).film = s.film := by
  have closed : ({ s.tracker with rescan := none }, s.index) = s.film := by rw [State.film, ← h]
  unfold askReference
  split
  · dsimp only
    split <;> simp [closed]
  · rfl

theorem Asks.reference {s t : State} (h : Asks s t) : t.transport.reference = s.transport.reference := by
  rcases h.transport with same | ⟨stopped, _⟩
  · rw [same]
  · rw [stopped, Transport.stopped]
    split <;> rfl

theorem stopMove_reference (s : State) : (stopMove s).transport.reference = s.transport.reference := by
  unfold stopMove; (repeat' split) <;> rfl

theorem stopForLoss_reference (s : State) : (stopForLoss s).transport.reference = s.transport.reference := by
  unfold stopForLoss
  (repeat' split)
  · rfl
  · rfl
  · exact stopMove_reference _

theorem stopForLoss_queue (s : State) : (stopForLoss s).arbiter.queue = s.arbiter.queue := by
  unfold stopForLoss; (repeat' split) <;> simp

@[simp] theorem stopForLoss_film (s : State) : (stopForLoss s).film = s.film := by unfold stopForLoss; (repeat' split) <;> simp
@[simp] theorem putReference_film (r : Reference) (s : State) : (putReference r s).film = s.film := by unfold putReference; split <;> simp
@[simp] theorem abandonSearch_film (s : State) : (abandonSearch s).film = s.film := by unfold abandonSearch; split <;> simp

/-! ### The reference lost (R5, R51) -/

/-- The tracker after a loss of reference out of a VERIFYING pass: IDLE in a new pass, with the rescan closed undecided. -/
def Tracker.lost (pos : Nat) (t : Tracker) : Tracker :=
  { t with mode := .idle, rescan := none, openMark := none, openSplice := none, unmatchedRun := 0, passStart := pos, matched := [],
           gathering := [] }

/-- What a loss of reference out of a VERIFYING pass leaves. -/
structure Lost (s u : State) : Prop where
  film      : u.film = (s.tracker.lost s.transport.position, s.index)
  reference : u.transport.reference = .lost
  entry     : u.arbiter.entryOf .tracker = none
  armed     : u.capture.armed = []
  still     : u.still = s.still

/-- The tracker IDLE and without its rescan, and no trigger armed. -/
def lossTold (s : State) : State :=
  disarm ((withdrawRescan (setMode .idle s)).onTracker fun t => { t with openMark := none, openSplice := none, unmatchedRun := 0 })

theorem lossTold_film {s : State} (mode : s.tracker.mode = .verifying) :
    (lossTold s).film = (s.tracker.lost s.transport.position, s.index) := by
  have idle : setMode .idle s = newPass (s.onTracker fun t => { t with mode := .idle }) := by simp [setMode, mode]
  have closed := withdrawRescan_film (setMode .idle s)
  rw [lossTold, disarm_film, State.film, State.onTracker_tracker, State.onTracker_index, tracker_of_film_eq closed,
    index_of_film_eq closed, idle]
  rfl

theorem loseReference_told (s : State) : loseReference s = stopForLoss (lossTold s) ∨
    loseReference s = askReference (stopForLoss (lossTold s)) := by
  unfold loseReference
  dsimp only
  split
  · exact .inl rfl
  · exact .inr rfl

theorem loseReference_lost {s : State} (mode : s.tracker.mode = .verifying) (h : s.transport.reference = .lost) :
    Lost s (loseReference s) := by
  have film : (stopForLoss (lossTold s)).film = (s.tracker.lost s.transport.position, s.index) := by
    rw [stopForLoss_film, lossTold_film mode]
  have reference : (stopForLoss (lossTold s)).transport.reference = .lost := by
    rw [stopForLoss_reference]
    exact ((setMode_asks .idle s).trans (withdrawRescan_asks _)).reference.trans h
  have entry : (stopForLoss (lossTold s)).arbiter.entryOf .tracker = none := by
    rw [Arbiter.entryOf, stopForLoss_queue]
    exact withdrawRescan_entry (setMode .idle s)
  have armed : (stopForLoss (lossTold s)).capture.armed = [] := stopForLoss_armed (s := lossTold s) rfl
  have still := loseReference_still s
  rcases loseReference_told s with told | asked
  · exact ⟨by rw [told, film], by rw [told, reference], by rw [told, entry], by rw [told, armed], still⟩
  · have closed : (stopForLoss (lossTold s)).tracker.rescan = none := by rw [tracker_of_film_eq film]; rfl
    exact ⟨by rw [asked, askReference_film closed, film], by rw [asked, (askReference_asks _).reference, reference],
      by rw [asked, askReference_entry entry], by rw [asked, askReference_armed armed], still⟩

/-- Outside a reference search a loss that the tracker asks for is a loss. -/
theorem askLoss_lost {s : State} (mode : s.tracker.mode = .verifying) (known : s.transport.reference ≠ .lost)
    (search : s.transport.search = none) : Lost s (askLoss s) := by
  have told : ∃ u, askLoss s = loseReference u ∧ u.film = s.film ∧ u.still = s.still ∧ u.transport.reference = .lost := by
    have asked : ¬ (s.transport.reference = .lost ∨ searchingLeader s = true) := by simp [known, searchingLeader, search]
    rw [askLoss, if_neg asked, setReference, if_neg known]
    refine ⟨_, rfl, ?_, ?_, ?_⟩
    · split <;> simp
    · split <;> simp
    · split <;> simp
  obtain ⟨u, result, film, still, reference⟩ := told
  have tracker := tracker_of_film film
  have position : u.transport.position = s.transport.position := congrArg (fun x => x.base.position) still
  have lost := loseReference_lost (tracker ▸ mode) reference
  rw [result]
  exact ⟨by rw [lost.film, tracker, position, index_of_film film], lost.reference, lost.entry, lost.armed, lost.still.trans still⟩

end Sys2Proof.Machine

end

section
/-! SUPPORT. A trim keeps an EXACT reference: nothing at the positions passed asks for its loss while no edge is unmatched (R49, R50). -/

namespace Sys2Proof.Machine

/-- The reference, and whether an edge is unmatched. -/
def State.footing (s : State) : Reference × Bool := (s.transport.reference, s.tracker.edgeUnmatched)

/-! ### What leaves both alone -/

theorem Asks.footing {s t : State} (h : Asks s t) (tracker : t.tracker = s.tracker) : t.footing = s.footing := by
  rw [State.footing, h.reference, tracker, State.footing]

theorem footing_of_film {s t : State} (reference : t.transport.reference = s.transport.reference) (film : t.film = s.film) :
    t.footing = s.footing := by rw [State.footing, reference, tracker_of_film film, State.footing]

@[simp] theorem onIndex_footing (f : Index → Index) (s : State) : (s.onIndex f).footing = s.footing := rfl
@[simp] theorem onCapture_footing (f : Capture → Capture) (s : State) : (s.onCapture f).footing = s.footing := rfl
@[simp] theorem onArbiter_footing (f : Arbiter → Arbiter) (s : State) : (s.onArbiter f).footing = s.footing := rfl
@[simp] theorem raise_footing (k : NoticeKind) (s : State) : (raise k s).footing = s.footing := rfl
@[simp] theorem modifySweep_footing (n : Nat) (f : SweepRec → SweepRec) (s : State) : (modifySweep n f s).footing = s.footing := rfl
@[simp] theorem armTrigger_footing (a : Armed) (s : State) : (armTrigger a s).footing = s.footing := rfl
@[simp] theorem missFrame_footing (a : Armed) (why : MissReason) (s : State) : (missFrame a why s).footing = s.footing := rfl
@[simp] theorem fireCapture_footing (a : Armed) (s : State) : (fireCapture a s).footing = s.footing := rfl
@[simp] theorem advanceSweep_footing (n frame : Nat) (s : State) : (advanceSweep n frame s).footing = s.footing := rfl
@[simp] theorem askStop_footing (why : StopCause) (s : State) : (askStop why s).footing = s.footing := by
  refine footing_of_film ?_ (askStop_film why s)
  unfold askStop
  (repeat' split) <;> simp [stopMove_reference]
@[simp] theorem yieldTest_footing (s : State) : (yieldTest s).footing = s.footing := by unfold yieldTest; (repeat' split) <;> simp
@[simp] theorem countRun_footing (s : State) : (countRun s).footing = s.footing := by simp [countRun]
@[simp] theorem submit_footing (r : Requester) (cls : QClass) (k : QKind) (frame : Option Nat) (s : State) :
    (submit r cls k frame s).footing = s.footing := footing_of_film (submit_asks r cls k frame s).reference (submit_film r cls k frame s)
@[simp] theorem offerRevisit_footing (job frame : Nat) (s : State) : (offerRevisit job frame s).footing = s.footing := by
  unfold offerRevisit; (repeat' split) <;> rfl
@[simp] theorem retryJobs_footing (s : State) : (retryJobs s).footing = s.footing :=
  footing_of_film (retryJobs_asks s).reference (retryJobs_film s)
@[simp] theorem setIndexState_footing (st : IndexState) (s : State) : (setIndexState st s).footing = s.footing := by
  unfold setIndexState; split <;> simp
@[simp] theorem completeTest_footing (s : State) : (completeTest s).footing = s.footing := by
  unfold completeTest; (repeat' split) <;> simp
@[simp] theorem raiseFrontier_footing (p : Nat) (s : State) : (raiseFrontier p s).footing = s.footing :=
  (raiseFrontier_asks p s).footing (tracker_of_grown (raiseFrontier_grown p s))
@[simp] theorem armFrames_footing (job n : Nat) (s : State) : (armFrames job n s).footing = s.footing := by
  induction n generalizing s with
  | zero => rfl
  | succ n ih => unfold armFrames; (repeat' split) <;> simp [ih]
@[simp] theorem armRun_footing (s : State) : (armRun s).footing = s.footing := by unfold armRun; split <;> simp
@[simp] theorem sweepsTakeAppended_footing (k : Nat) (s : State) : (sweepsTakeAppended k s).footing = s.footing :=
  foldl_keeps State.footing (fun s n => modifySweep_footing n _ s) _ s
@[simp] theorem appendEntry_footing (e : Entry) (s : State) : (appendEntry e s).footing = s.footing := by
  unfold appendEntry; dsimp only; (repeat' split) <;> simp
@[simp] theorem setMode_footing (m : TrackerMode) (s : State) : (setMode m s).footing = s.footing := by
  unfold setMode leaveIndexing; (repeat' split) <;> rfl
@[simp] theorem refreshMode_footing (s : State) : (refreshMode s).footing = s.footing := by simp [refreshMode]
@[simp] theorem freezeIndex_footing (st : IndexState) (s : State) : (freezeIndex st s).footing = s.footing := by simp [freezeIndex]
@[simp] theorem commit_footing (high : Nat) (byPitchMax : Bool) (s : State) : (commit high byPitchMax s).2.footing = s.footing := by
  unfold commit
  dsimp only
  (repeat' split) <;> simp
  rfl
@[simp] theorem dropAtLimit_footing (s : State) : (dropAtLimit s).footing = s.footing := by unfold dropAtLimit; dsimp only; split <;> rfl
@[simp] theorem parkedTest_footing (s : State) : (parkedTest s).footing = s.footing := by unfold parkedTest; (repeat' split) <;> rfl
@[simp] theorem pitchMaxTest_footing (s : State) : (pitchMaxTest s).footing = s.footing := by
  unfold pitchMaxTest; dsimp only; (repeat' split) <;> simp
@[simp] theorem limitTest_footing (old : Nat) (s : State) : (limitTest old s).footing = s.footing := by
  unfold limitTest; dsimp only; (repeat' split) <;> simp
@[simp] theorem askRescan_footing (e : Nat) (s : State) : (askRescan e s).footing = s.footing := by
  have stopped := askStop_footing .rescan s
  unfold askRescan
  simp only [submit_footing]
  exact (setMode_footing _ _).trans stopped
@[simp] theorem missTest_footing (old : Nat) (s : State) : (missTest old s).footing = s.footing := by
  unfold missTest
  dsimp only
  (repeat' split)
  · rfl
  · exact askRescan_footing _ s
  all_goals rfl
@[simp] theorem rescanTest_footing (old : Nat) (s : State) : (rescanTest old s).footing = s.footing := by
  unfold rescanTest; (repeat' split) <;> rfl
@[simp] theorem compareMarks_footing (g : Gather) (s : State) : (compareMarks g s).footing = s.footing := by
  rw [State.footing, compareMarks_transport, compareMarks_tracker, State.footing]
@[simp] theorem gatheringTest_footing (s : State) : (gatheringTest s).footing = s.footing := by
  unfold gatheringTest closeGathering
  split
  · exact foldl_keeps State.footing (fun s g => compareMarks_footing g s) _ _
  · rfl
@[simp] theorem runReported_footing (a : Armed) (s : State) : (runReported a s).footing = s.footing := by simp [runReported]
@[simp] theorem takeTrigger_footing (a : Armed) (s : State) : (takeTrigger a s).footing = s.footing := by
  unfold takeTrigger missInRun; (repeat' split) <;> simp
@[simp] theorem takeTriggers_footing (old n : Nat) (s : State) : (takeTriggers old n s).footing = s.footing := by
  induction n generalizing s with
  | zero => rfl
  | succ n ih => unfold takeTriggers; split <;> simp [ih]
@[simp] theorem tailTest_footing (s : State) : (tailTest s).footing = s.footing := by
  have put (e : Option Nat) (u : State) : ((putRollEnd e u).onTransport fun t => { t with tailLimit := none }).footing = u.footing := by
    unfold putRollEnd; split <;> rfl
  unfold tailTest setRollEnd
  (repeat' split) <;> simp [put]

/-! ### EXACT with no edge unmatched -/

/-- The reference is EXACT and no edge is unmatched. -/
def Sure (s : State) : Prop := s.footing = (.exact, false)

theorem enterIndexing_sure {s : State} (h : Sure s) : Sure (enterIndexing s) := by
  have reference : s.transport.reference = .exact := congrArg Prod.fst h
  unfold enterIndexing
  split
  · rw [reference]
    dsimp only
    rw [Sure, parkedTest_footing, raiseFrontier_footing]
    exact (setMode_footing .indexing s).trans h
  · exact h

theorem passedTest_sure (old : Nat) (d : Direction) {s : State} (h : Sure s) : Sure (passedTest old d s) := by
  obtain ⟨n, calm⟩ := passedTest_calm old d (congrArg Prod.snd h)
  rw [calm]
  exact h

theorem trackerMoved_sure (old : Nat) (d : Direction) {s : State} (h : Sure s) : Sure (trackerMoved old d s) := by
  have entered : Sure (if s.tracker.mode = .indexing then raiseFrontier s.transport.position s
      else if d = .forward ∧ old ≤ s.index.frontier ∧ s.index.frontier < s.transport.position then enterIndexing s else s) := by
    split
    · exact (raiseFrontier_footing _ s).trans h
    · split
      · exact enterIndexing_sure h
      · exact h
  unfold trackerMoved
  dsimp only
  cases d with
  | forward => exact (gatheringTest_footing _).trans (passedTest_sure old .forward (by simpa [Sure] using entered))
  | reverse => exact passedTest_sure old .reverse (by simpa [Sure] using entered)

theorem positionMoved_sure (old : Nat) (d : Direction) {s : State} (h : Sure s) : Sure (positionMoved old d s) := by
  have moved := trackerMoved_sure old d ((tailTest_footing s).trans h)
  unfold positionMoved
  split
  · exact h
  · cases d with
    | forward => exact (takeTriggers_footing _ _ _).trans moved
    | reverse => exact moved

/-! ### A trim to a recorded low edge (R49) -/

theorem trim_position_eq {low : Nat} {s : State} (room : low ≤ s.transport.upperLimit) :
    (trim ((s.transport.position : Int) - low) s).transport.position = low := by
  have forward := carryPosition_forward_position (-((s.transport.position : Int) - low)).toNat s
  have reverse := carryPosition_reverse_position ((s.transport.position : Int) - low).toNat s
  simp only [State.still] at forward reverse
  unfold trim
  split
  · omega
  · split
    · rw [reverse]; omega
    · rw [forward, if_pos (by omega)]; omega

theorem trim_sure {low : Nat} {s : State} (h : Sure s) (room : low ≤ s.transport.upperLimit) :
    Sure (trim ((s.transport.position : Int) - low) s) := by
  unfold trim
  split
  · exact h
  · split
    · next back =>
      have none_absorbed : ((s.transport.position : Int) - low).toNat - s.transport.position = 0 := by omega
      simp only [carryPosition, none_absorbed, if_true]
      exact positionMoved_sure _ _ (by exact h)
    · next onward =>
      have within : s.transport.position + (-((s.transport.position : Int) - low)).toNat ≤ s.transport.upperLimit := by omega
      simp only [carryPosition, within, if_true, Nat.add_sub_cancel_left, Nat.sub_self]
      exact positionMoved_sure _ _ (by exact h)

end Sys2Proof.Machine

end

section
/-! PROOFS. LOW_EDGE and passed entries while VERIFYING: trims and losses of the reference. -/

namespace Sys2Proof.Machine

/-! ### The pass over one entry (R48) -/

/-- With one entry in the index none is gathered that the match would compare. -/
theorem edgeMatched_first (s : State) : edgeMatched 0 s = s.onTracker fun t =>
    { t with unmatchedRun := 0, edgeUnmatched := false,
             gathering := if s.transport.travel = .forward ∧ !t.matched.contains 0 then t.gathering ++ [{ frame := 0, marks := [] }]
               else t.gathering,
             matched := if t.matched.contains 0 then t.matched else t.matched ++ [0] } := by
  unfold edgeMatched
  rw [closeGathering_none fun g _ => by simp, ite_self]

theorem takeLowEdge_single {e : Entry} {s : State} (mode : s.tracker.mode = .verifying) (parked : s.tracker.parked = none)
    (entries : s.index.entries = [e]) (near : dist s.transport.position e.low ≤ s.tracker.window) :
    takeLowEdge s = correctPosition e.low (edgeMatched 0 s) := by
  have found := nearestEntry_unique (es := [e]) (i := 0) rfl near (fun j x hx ne => by cases j <;> simp_all) 0
  rw [takeLowEdge_verifying mode parked, matchEdge_found (k := 0) (e := e) (by rw [entries, found])]

/-! ### The count corrected (R49) -/

section
variable {low : Nat} {s : State}

theorem natAbs_eq_dist (a b : Nat) : ((a : Int) - b).natAbs = dist a b := by unfold dist; omega

theorem correctPosition_trim (reference : s.transport.reference = .exact) (far : 8 < dist s.transport.position low)
    (near : dist s.transport.position low ≤ s.transport.profile.slipTol) :
    correctPosition low s = trim ((s.transport.position : Int) - low) s := by
  simp only [correctPosition, reference, natAbs_eq_dist, Nat.not_le.mpr far, near, if_true, if_false]

theorem correctPosition_lost (reference : s.transport.reference = .exact) (far : 8 < dist s.transport.position low)
    (beyond : s.transport.profile.slipTol < dist s.transport.position low) : correctPosition low s = askLoss s := by
  simp only [correctPosition, reference, natAbs_eq_dist, Nat.not_le.mpr far, Nat.not_le.mpr beyond, if_false]

theorem correctPosition_drifted (reference : s.transport.reference = .drifted)
    (near : dist s.transport.position low ≤ 5 * s.transport.profile.slipTol) :
    correctPosition low s = trim (((setReference .exact s).transport.position : Int) - low) (setReference .exact s) := by
  have position : (setReference .exact s).transport.position = s.transport.position :=
    congrArg (fun x => x.base.position) (setReference_still .exact s)
  simp only [correctPosition, reference, natAbs_eq_dist, near, if_true, position]

theorem correctPosition_drifted_lost (reference : s.transport.reference = .drifted)
    (beyond : 5 * s.transport.profile.slipTol < dist s.transport.position low) : correctPosition low s = askLoss s := by
  simp only [correctPosition, reference, natAbs_eq_dist, Nat.not_le.mpr beyond, if_false]

/-- A trim leaves the fault record and settles the count at the low edge. -/
theorem trimmed (room : low ≤ s.transport.upperLimit) :
    (trim ((s.transport.position : Int) - low) s).transport.position = low ∧
      (trim ((s.transport.position : Int) - low) s).fault = s.fault :=
  ⟨trim_position_eq room, fault_of_still (trim_fault _ s)⟩

end

/-- A DRIFTED count that becomes EXACT with no edge unmatched. -/
theorem setReference_exact_sure {s : State} (h : s.transport.reference = .drifted) (matched : s.tracker.edgeUnmatched = false) :
    Sure (setReference .exact s) := by
  have film : (setReference .exact s).film = s.film := by simp [setReference, h]
  rw [Sure, State.footing, setReference_transport (by decide), tracker_of_film film, matched]

theorem setReference_exact_limits (s : State) : (setReference .exact s).transport.upperLimit = s.transport.upperLimit ∧
    (setReference .exact s).fault = s.fault :=
  ⟨congrArg (fun x : Still => x.rollEnd.getD Config.maxPosition) (setReference_still .exact s),
    fault_of_still (congrArg (fun x => x.base.fault) (setReference_still .exact s))⟩

/-! ### Entries passed (R50) -/

/-- A count from `old` to `new` passes an entry of the pass that began at `start`. -/
def Entry.passed (old new w start : Nat) (d : Direction) (e : Entry) : Prop :=
  match d with
  | .forward => old ≤ e.low + w ∧ e.low + w < new ∧ start ≤ e.low
  | .reverse => new + w < e.low ∧ e.low ≤ old + w ∧ e.low ≤ start

section
variable {old new w start : Nat} {d : Direction}

theorem passedFrom_none {es : List Entry} (h : ∀ x ∈ es, ¬ x.passed old new w start d) (k : Nat) :
    passedFrom old new w start d k es = [] := by
  induction es generalizing k with
  | nil => rfl
  | cons e es ih =>
    have rest := ih (fun x hx => h x (List.mem_cons_of_mem e hx)) (k + 1)
    have own := h e List.mem_cons_self
    cases d <;> exact (if_neg own).trans rest

/-- Where one entry alone is passed, its frame is the list. -/
theorem passedFrom_one {es : List Entry} {i : Nat} {e : Entry} (held : es[i]? = some e) (passed : e.passed old new w start d)
    (others : ∀ (j : Nat) x, es[j]? = some x → j ≠ i → ¬ x.passed old new w start d) (k : Nat) :
    passedFrom old new w start d k es = [k + i] := by
  induction es generalizing i k with
  | nil => simp at held
  | cons x es ih =>
    cases i with
    | zero =>
      obtain rfl : x = e := by simpa using held
      have rest := passedFrom_none (es := es) (fun y hy => by
        obtain ⟨j, hj⟩ := List.getElem?_of_mem hy
        exact others (j + 1) y hj (by omega)) (k + 1)
      cases d <;> exact (if_pos passed).trans (congrArg (k :: ·) rest)
    | succ i =>
      have rest := ih held (fun j y hy ne => others (j + 1) y hy (by omega)) (k + 1)
      have own := others 0 x rfl (by omega)
      rw [show k + (i + 1) = k + 1 + i by omega]
      cases d <;> exact (if_neg own).trans rest

end

section
variable {k : Nat} {s : State}

theorem countPassed_matched (h : k ∈ s.tracker.matched) : countPassed k s = s := by simp [countPassed, h]

theorem countPassed_counts (mode : s.tracker.mode = .verifying) (h : k ∉ s.tracker.matched) (few : s.tracker.unmatchedRun < 2) :
    countPassed k s = s.onTracker fun t => { t with unmatchedRun := t.unmatchedRun + 1 } := by
  have third : s.tracker.unmatchedRun + 1 < 3 := by omega
  simp [countPassed, mode, h, third]

theorem countPassed_third (mode : s.tracker.mode = .verifying) (h : k ∉ s.tracker.matched) (run : 2 ≤ s.tracker.unmatchedRun) :
    countPassed k s = if s.tracker.edgeUnmatched then askLoss (s.onTracker fun t => { t with unmatchedRun := 0 })
      else s.onTracker fun t => { t with unmatchedRun := 0 } := by
  have third : ¬ s.tracker.unmatchedRun + 1 < 3 := by omega
  simp [countPassed, mode, h, third]

theorem gatheringTest_empty (h : s.tracker.gathering = []) : gatheringTest s = s := by
  unfold gatheringTest
  split
  · exact closeGathering_none (by simp [h])
  · rfl

end

/-- One entry alone comes to lie W behind the count. -/
theorem Passing.passes {d : Direction} {s : State} {k : Nat} {e : Entry} (h : Passing d s) (held : s.index.entries[k]? = some e)
    (apart : ∀ (i : Nat) x, s.index.entries[i]? = some x → i ≠ k → x.low ≠ e.low)
    (forward : d = .forward → s.transport.position = e.low + s.tracker.window ∧ s.tracker.passStart ≤ e.low)
    (reverse : d = .reverse → s.transport.position + s.tracker.window = e.low ∧ e.low ≤ s.tracker.passStart) :
    passedTest s.transport.position d (counted d s) = countPassed k (counted d s) := by
  obtain ⟨mode, -, -, -, -, -, -, -, -, start, -, -, -⟩ := h
  have passed : passedFrom s.transport.position (counted d s).transport.position s.tracker.window s.tracker.passStart d 0
      s.index.entries = [k] := by
    have one := passedFrom_one (old := s.transport.position) (new := (counted d s).transport.position) (w := s.tracker.window)
      (start := s.tracker.passStart) (d := d) held
    rw [counted_position] at one ⊢
    cases d with
    | forward =>
      obtain ⟨at_bound, begun⟩ := forward rfl
      refine (one ⟨by omega, by rw [if_pos rfl]; omega, begun⟩ (fun j x hx ne => ?_) 0).trans (by rw [Nat.zero_add])
      have := apart j x hx ne
      simp only [Entry.passed, if_true]
      omega
    | reverse =>
      obtain ⟨at_bound, begun⟩ := reverse rfl
      refine (one ⟨by rw [if_neg (by decide)]; omega, by omega, begun⟩ (fun j x hx ne => ?_) 0).trans (by rw [Nat.zero_add])
      have := apart j x hx ne
      simp only [Entry.passed, reduceCtorEq, if_false]
      omega
  simp only [passedTest, counted_tracker, counted_index, mode, if_true, passed]
  rfl

/-- What the count of a passed entry leaves, with no trigger armed and nothing gathered. -/
theorem Passing.capstanMoves_eq {d : Direction} {s : State} {k : Nat} (h : Passing d s)
    (passes : passedTest s.transport.position d (counted d s) = countPassed k (counted d s))
    (gathers : (countPassed k (counted d s)).tracker.gathering = []) (unarmed : (countPassed k (counted d s)).capture.armed = []) :
    capstanMoves d s = countPassed k (counted d s) := by
  cases d with
  | forward => rw [h.capstanMoves_forward, passes, gatheringTest_empty gathers, takeTriggers_unarmed _ _ unarmed]
  | reverse => rw [h.capstanMoves_reverse, passes]

end Sys2Proof.Machine

open Sys2Proof Sys2Proof.Machine

/-- Settles O48: the matched edge by the reference and the deviation, the unmatched edge, and the entry passed by W. -/
theorem lowEdgeTrims : Obligations.LowEdgeTrims := by
  intro s rescanGone w hw goneIff
  have window : s.tracker.window = w := by rw [window_eq, hw]
  have gone {u v : State} (budget : v.tracker.budget = s.tracker.budget) (miss : v.tracker.missAccepted = s.tracker.missAccepted)
      (lost : Lost v u) : u.transport.reference = .lost ∧ u.tracker.mode = .idle ∧ rescanGone u := by
    have tracker := tracker_of_film_eq lost.film
    rw [goneIff, tracker]
    exact ⟨lost.reference, rfl, rfl, lost.entry, budget, miss⟩
  refine ⟨?_, ?_, ?_⟩
  · intro e off mode parked entries hoff near search _ room
    rw [← Machine.dist_eq] at hoff
    subst hoff
    have first := edgeMatched_first s
    have transport : (edgeMatched 0 s).transport = s.transport := by rw [first]; rfl
    have edge {t : State} (h : correctPosition e.low (edgeMatched 0 s) = t) : exec .lowEdge s = .next (settle t) :=
      exec_lowEdge_taken (by rw [mode]; decide) (by rw [takeLowEdge_single mode parked entries (by rw [window]; exact near), h])
    have settled {t : State} (h : correctPosition e.low (edgeMatched 0 s) = t) {p : Nat} (position : t.transport.position = p)
        (fault : t.fault = s.fault) : ∃ t, exec .lowEdge s = .next t ∧ t.transport.position = p ∧ t.fault = s.fault :=
      ⟨_, edge h, (settle_position_eq t).trans position, (settle_fault_eq t).trans fault⟩
    have loss (known : s.transport.reference ≠ .lost) (h : correctPosition e.low (edgeMatched 0 s) = askLoss (edgeMatched 0 s)) :
        Settles .lowEdge s fun u => u.transport.reference = .lost ∧ u.transport.position = s.transport.position ∧
          u.tracker.mode = .idle ∧ rescanGone u := by
      have lost : Lost (edgeMatched 0 s) (askLoss (edgeMatched 0 s)) :=
        askLoss_lost (by rw [first]; exact mode) (by rw [transport]; exact known) (by rw [transport]; exact search)
      obtain ⟨reference, idle, withdrawn⟩ := gone (by rw [first]; rfl) (by rw [first]; rfl) lost
      exact ⟨_, edge h, reference, (congrArg (fun x => x.base.position) lost.still).trans (congrArg Transport.position transport),
        idle, withdrawn⟩
    have same : (edgeMatched 0 s).fault = s.fault := by rw [first]; rfl
    refine ⟨fun reference close => ?_, fun reference far inTol => ?_, fun reference far beyond => ?_, fun reference inTol => ?_,
      fun reference beyond => ?_⟩
    · have left := correctPosition_near (low := e.low) (s := edgeMatched 0 s) (by rw [transport, reference]) (by rw [transport]; exact close)
      refine ⟨settled left (congrArg Transport.position transport) same, _, edge left, transport, ?_⟩
      rw [first]
      exact ⟨rfl, rfl, rfl, rfl⟩
    · have trims := correctPosition_trim (low := e.low) (s := edgeMatched 0 s) (by rw [transport, reference])
        (by rw [transport]; exact far) (by rw [transport]; exact inTol)
      obtain ⟨position, fault⟩ := trimmed (low := e.low) (s := edgeMatched 0 s) (by rw [transport]; exact room)
      exact settled trims position (fault.trans same)
    · exact loss (by simp [reference]) (correctPosition_lost (by rw [transport, reference]) (by rw [transport]; exact far)
        (by rw [transport]; exact beyond))
    · have trims := correctPosition_drifted (low := e.low) (s := edgeMatched 0 s) (by rw [transport, reference])
        (by rw [transport]; exact inTol)
      obtain ⟨limit, kept⟩ := setReference_exact_limits (edgeMatched 0 s)
      have room' : e.low ≤ (setReference .exact (edgeMatched 0 s)).transport.upperLimit := by rw [limit, transport]; exact room
      obtain ⟨position, fault⟩ := trimmed room'
      have sure := trim_sure (setReference_exact_sure (s := edgeMatched 0 s) (by rw [transport, reference]) (by rw [first]; rfl)) room'
      have fault' := fault.trans (kept.trans same)
      exact ⟨settled trims position fault', _, edge trims, congrArg Prod.fst sure, position, fault'⟩
    · exact loss (by simp [reference]) (correctPosition_drifted_lost (by rw [transport, reference]) (by rw [transport]; exact beyond))
  · intro mode parked far
    refine exec_lowEdge_taken (by rw [mode]; decide) ?_
    rw [takeLowEdge_verifying mode parked, matchEdge_unmatched fun x hx => by rw [window, Machine.dist_eq]; exact far x hx]
    rfl
  · intro d k e passing gathering held apart forward reverse
    have passes := passing.passes held apart (by rw [window]; exact forward) (by rw [window]; exact reverse)
    have ⟨mode, _, _, state, _, reference, search, _, _, _, _, _, unarmed⟩ := passing
    have row {u : State} (h : countPassed k (counted d s) = u) (gathers : u.tracker.gathering = []) (armed : u.capture.armed = []) :
        exec (.capstanCount d) s = .next (settle u) := by
      rw [exec_capstanCount_taken (by simp [state]) d,
        passing.capstanMoves_eq passes (by rw [h]; exact gathers) (by rw [h]; exact armed), h]
    have position : (counted d s).transport.position =
      if d = .forward then s.transport.position + 1 else s.transport.position - 1 := rfl
    by_cases matched : k ∈ s.tracker.matched
    · exact ⟨_, row (countPassed_matched matched) gathering unarmed, rfl, rfl, position, fun _ => ⟨rfl, reference⟩,
        fun other => absurd matched other⟩
    rcases Nat.lt_or_ge s.tracker.unmatchedRun 2 with few | run
    · exact ⟨_, row (countPassed_counts mode matched few) gathering unarmed, rfl, rfl, position, fun h => absurd h matched,
        fun _ => ⟨fun _ => ⟨rfl, reference⟩, fun run => absurd few (Nat.not_lt.mpr run)⟩⟩
    have third := countPassed_third (k := k) (s := counted d s) mode matched run
    cases edge : s.tracker.edgeUnmatched with
    | false =>
      rw [if_neg (by simp [edge])] at third
      exact ⟨_, row third gathering unarmed, rfl, rfl, position, fun h => absurd h matched,
        fun _ => ⟨fun few => absurd few (Nat.not_lt.mpr run), fun _ => ⟨rfl, fun _ => ⟨reference, mode⟩, nofun⟩⟩⟩
    | true =>
      rw [if_pos (by simp [edge])] at third
      have lost : Lost ((counted d s).onTracker fun t => { t with unmatchedRun := 0 })
          (askLoss ((counted d s).onTracker fun t => { t with unmatchedRun := 0 })) :=
        askLoss_lost mode (by simp [reference]) (by simp [counted, putPosition, searchTravels, search])
      have tracker := tracker_of_film_eq lost.film
      refine ⟨_, row third (by rw [tracker]; rfl) lost.armed, index_of_film_eq lost.film,
        fault_of_still (congrArg (fun x => x.base.fault) lost.still), (congrArg (fun x => x.base.position) lost.still).trans position,
        fun h => absurd h matched,
        fun _ => ⟨fun few => absurd few (Nat.not_lt.mpr run), fun _ => ⟨by rw [tracker]; rfl, nofun, fun _ => ?_⟩⟩⟩
      exact gone (v := (counted d s).onTracker fun t => { t with unmatchedRun := 0 }) rfl rfl lost

end

section
/-! SUPPORT. The motion that goes on while jobs withdraw and submit their entries, with none of the tracker's brought in (R117, R118). -/

namespace Sys2Proof.Machine

/-- What a motion is: whose, of which kind, on which leg. A cause of a stop leaves it what it is. -/
def Current.motion (c : Current) : Requester × QKind × Leg := (c.requester, c.kind, c.leg)

/-- The motion current. -/
def Arbiter.motion (a : Arbiter) : Option (Requester × QKind × Leg) := a.current.map Current.motion

/-- From one state to the other no motion was interrupted, no entry of the tracker's came in, and a motion in flight goes on. -/
structure Steady (s t : State) : Prop where
  interrupted : s.arbiter.interrupted = none → t.arbiter.interrupted = none
  entry       : .tracker ∉ s.arbiter.requesters → .tracker ∉ t.arbiter.requesters
  motion      : s.transport.move.isSome → t.transport.move.isSome ∧ t.arbiter.motion = s.arbiter.motion

namespace Steady
variable {s t u : State}

theorem refl (s : State) : Steady s s := ⟨id, id, fun h => ⟨h, rfl⟩⟩

theorem trans (h : Steady s t) (k : Steady t u) : Steady s u where
  interrupted free := k.interrupted (h.interrupted free)
  entry free := k.entry (h.entry free)
  motion moves := by
    obtain ⟨moves', motion⟩ := h.motion moves
    exact ⟨(k.motion moves').1, (k.motion moves').2.trans motion⟩

/-- Nothing of it changes with the other blocks. -/
theorem of_eq (transport : t.transport = s.transport) (arbiter : t.arbiter = s.arbiter) : Steady s t :=
  ⟨by rw [arbiter]; exact id, by rw [arbiter]; exact id, fun moves => ⟨transport ▸ moves, by rw [arbiter]⟩⟩

/-- A change of the arbiter's that keeps the motion current. -/
theorem of_arbiter {f : Arbiter → Arbiter} (interrupted : s.arbiter.interrupted = none → (f s.arbiter).interrupted = none)
    (entry : .tracker ∉ s.arbiter.requesters → .tracker ∉ (f s.arbiter).requesters)
    (current : (f s.arbiter).current = s.arbiter.current) : Steady s (s.onArbiter f) :=
  ⟨interrupted, entry, fun moves => ⟨moves, congrArg (Option.map Current.motion) current⟩⟩

theorem foldl {α : Type} {f : State → α → State} (h : ∀ s a, Steady s (f s a)) (xs : List α) (s : State) : Steady s (xs.foldl f s) := by
  induction xs generalizing s with
  | nil => exact refl s
  | cons x xs ih => exact (h s x).trans (ih _)

end Steady

/-! ### Stops -/

theorem stopMove_moves {s : State} (h : s.transport.move.isSome) : (stopMove s).transport.move.isSome := by
  unfold stopMove
  (repeat' split)
  · exact h
  · rfl
  · exact h

theorem stopCurrent_steady {c : Current} {s : State} (hc : s.arbiter.current = some c) (why : Option StopCause) :
    Steady s (stopMove (disarmRun c (s.onArbiter fun a => { a with current := some { c with stop := why } }))) where
  interrupted free := by rw [stopMove_arbiter, disarmRun_arbiter]; exact free
  entry free := by rw [stopMove_arbiter, disarmRun_arbiter]; exact free
  motion moves := by
    refine ⟨stopMove_moves (by rw [disarmRun_transport]; exact moves), ?_⟩
    rw [stopMove_arbiter, disarmRun_arbiter, Arbiter.motion, Arbiter.motion, hc]
    rfl

theorem askStop_steady (why : StopCause) (s : State) : Steady s (askStop why s) := by
  unfold askStop
  split
  · exact .refl s
  · next c hc =>
    split
    · exact .refl s
    · exact stopCurrent_steady hc _

/-- With no move in flight the motion may end. -/
theorem clearCurrent_steady {s : State} (h : s.transport.move = none) : Steady s (clearCurrent s) where
  interrupted free := by
    simp only [clearCurrent, State.onArbiter_arbiter, Arbiter.clearCurrent]
    split <;> exact free
  entry free := by rw [Arbiter.requesters, clearCurrent_queue]; exact free
  motion moves := by simp [h] at moves

theorem dropCurrent_steady (s : State) : Steady s (dropCurrent s) := by
  unfold dropCurrent
  split
  · exact .refl s
  · next c hc =>
    split
    · next moves => exact clearCurrent_steady (by simpa using moves)
    · exact stopCurrent_steady hc _

theorem suspendTest_steady (s : State) : Steady s (suspendTest s) := by
  unfold suspendTest
  (repeat' split)
  · exact .refl s
  · exact askStop_steady _ s
  · exact .refl s

theorem yieldTest_steady (s : State) : Steady s (yieldTest s) := by
  unfold yieldTest
  (repeat' split)
  · exact .refl s
  · exact askStop_steady _ s
  · exact .refl s

/-! ### Entries -/

theorem place_interrupted (e : QEntry) (a : Arbiter) : (a.place e).interrupted = a.interrupted := by
  unfold Arbiter.place; dsimp only; split <;> rfl

theorem withdraw_steady (r : Requester) (s : State) : Steady s (withdraw r s) := by
  have removed : Steady s (s.onArbiter fun a => if a.interrupted = some r then (a.remove r).dropInterrupted else a.remove r) := by
    refine .of_arbiter (fun free => ?_) (fun free held => free ?_) ?_
    · rw [if_neg (by simp [free])]
      exact free
    · split at held
      · rw [Arbiter.requesters, dropInterrupted_queue] at held
        exact (List.filter_sublist.map _).subset held
      · exact (List.filter_sublist.map _).subset held
    · split
      · exact dropInterrupted_current _
      · rfl
  unfold withdraw
  dsimp only
  split
  · exact removed.trans (dropCurrent_steady _)
  · exact removed

/-- Another requester's submission. -/
theorem submit_steady {r : Requester} (hr : r ≠ .tracker) (cls : QClass) (k : QKind) (frame : Option Nat) (s : State) :
    Steady s (submit r cls k frame s) := by
  unfold submit
  dsimp only
  split
  · refine Steady.trans ?_ (yieldTest_steady _)
    have placed (e : QEntry) (he : e.requester = r) : Steady s (s.onArbiter fun a => a.place e) := by
      refine .of_arbiter (place_interrupted e s.arbiter).trans (fun free => ?_) (place_current e s.arbiter)
      rw [Arbiter.requesters_place, he]
      simpa using ⟨free, hr.symm⟩
    split
    · exact (placed _ rfl).trans (suspendTest_steady _)
    · exact placed _ rfl
  · refine Steady.trans ?_ (yieldTest_steady _)
    refine Steady.trans (t := s.onArbiter fun a => a.modifyEntry r fun e =>
      { e with cls := cls, kind := k, frame := frame, start := startPosition r k frame s }) ?_ ?_
    · exact .of_arbiter id (by rw [Arbiter.requesters_modifyEntry]; exact fun h => h; exact fun _ => rfl) rfl
    · (repeat' split)
      · next none_moves => exact clearCurrent_steady (by simpa using none_moves)
      · exact askStop_steady _ _
      · exact .refl _
      · exact .refl _

theorem submitJob_steady (n : Nat) (k : QKind) (frame : Option Nat) (s : State) : Steady s (submitJob n k frame s) := by
  unfold submitJob
  split
  · exact .refl s
  · exact submit_steady (by simp) _ _ _ s

theorem ensureIndex_steady (n : Nat) (s : State) : Steady s (ensureIndex n s) := by
  unfold ensureIndex
  split
  · exact .refl s
  · exact submitJob_steady n _ _ s

/-! ### Jobs -/

theorem modifyJob_steady (n : Nat) (f : Job → Job) (s : State) : Steady s (modifyJob n f s) := .of_eq rfl rfl
theorem modifySweep_steady (n : Nat) (f : SweepRec → SweepRec) (s : State) : Steady s (modifySweep n f s) := .of_eq rfl rfl
theorem modifyItems_steady (n : Nat) (f : List Item → List Item) (s : State) : Steady s (modifyItems n f s) := .of_eq rfl rfl
theorem setJobState_steady (n : Nat) (st : JobState) (s : State) : Steady s (setJobState n st s) := .of_eq rfl rfl

theorem endJob_steady (n : Nat) (st : JobState) (why : EndReason) (s : State) : Steady s (endJob n st why s) := by
  unfold endJob
  split
  · exact .refl s
  · next j hj =>
    dsimp only
    have withdrawn : Steady s (discardRevisit n (withdraw (.job n) (modifyJob n (fun j =>
        { j with state := st, endReason := why, waitClear := false, body := closeBody s j.body }) s))) :=
      (modifyJob_steady n _ s).trans ((withdraw_steady _ _).trans (.of_eq rfl rfl))
    split
    · exact withdrawn.trans ((Steady.of_arbiter (f := fun a => { a with rollClaim := false }) id id rfl).trans (.of_eq rfl rfl))
    · exact withdrawn.trans (.of_eq rfl rfl)

theorem fetchChoose_steady (n : Nat) (s : State) : Steady s (fetchChoose n s) := by
  unfold fetchChoose
  (repeat' split)
  · exact (modifyItems_steady n _ s).trans ((setJobState_steady n _ _).trans (submitJob_steady n _ _ _))
  · exact (setJobState_steady n _ s).trans (ensureIndex_steady n _)
  · exact endJob_steady n _ _ s
  · exact .refl s

theorem seekTry_steady (n : Nat) (final : Bool) (s : State) : Steady s (seekTry n final s) := by
  unfold seekTry
  (repeat' split)
  · exact (modifyJob_steady n _ s).trans (submitJob_steady n _ _ _)
  · exact (setJobState_steady n _ s).trans (ensureIndex_steady n _)
  · exact endJob_steady n _ _ s
  · exact .refl s

theorem indexToTry_steady (n : Nat) (final : Bool) (s : State) : Steady s (indexToTry n final s) := by
  unfold indexToTry
  (repeat' split)
  · exact endJob_steady n _ _ s
  · exact endJob_steady n _ _ s
  · exact endJob_steady n _ _ s
  · exact (setJobState_steady n _ s).trans (ensureIndex_steady n _)
  · exact (modifyJob_steady n _ s).trans (endJob_steady n _ _ _)
  · exact endJob_steady n _ _ s
  · exact (setJobState_steady n _ s).trans (ensureIndex_steady n _)
  · exact .refl s

theorem sweepTry_steady (n : Nat) (final : Bool) (s : State) : Steady s (sweepTry n final s) := by
  unfold sweepTry
  split
  · next r _ =>
    split
    · exact .refl s
    · dsimp only
      have bounds (f : SweepRec → SweepRec) : Steady s (modifySweep n f s) := modifySweep_steady n f s
      (repeat' split)
      · exact (bounds _).trans (endJob_steady n _ _ _)
      · exact (bounds _).trans (endJob_steady n _ _ _)
      · exact (bounds _).trans (endJob_steady n _ _ _)
      · exact (bounds _).trans ((modifySweep_steady n _ _).trans ((setJobState_steady n _ _).trans (submitJob_steady n _ _ _)))
      · exact (bounds _).trans ((setJobState_steady n _ _).trans (ensureIndex_steady n _))
  · exact .refl s

theorem retryJob_steady (final : Bool) (n : Nat) (s : State) : Steady s (retryJob final n s) := by
  unfold retryJob
  (repeat' split)
  · exact .refl s
  · exact .refl s
  · exact seekTry_steady n final s
  · exact (modifyItems_steady n _ s).trans (fetchChoose_steady n _)
  · exact modifyItems_steady n _ s
  · exact sweepTry_steady n final s
  · exact indexToTry_steady n final s
  · exact .refl s
  · exact .refl s

theorem retryJobs_steady (s : State) : Steady s (retryJobs s) := .foldl (fun s n => retryJob_steady false n s) _ s

/-! ### The index and the tracker's mode -/

theorem setIndexState_steady (st : IndexState) (s : State) : Steady s (setIndexState st s) := by
  unfold setIndexState
  split
  · exact .refl s
  · exact Steady.trans (.of_eq (t := raise .indexProgress (s.onIndex fun ix => { ix with state := st })) rfl rfl) (retryJobs_steady _)

theorem completeTest_steady (s : State) : Steady s (completeTest s) := by
  unfold completeTest
  (repeat' split)
  · exact setIndexState_steady _ s
  · exact .refl s
  · exact .refl s

theorem raiseFrontier_steady (p : Nat) (s : State) : Steady s (raiseFrontier p s) := by
  unfold raiseFrontier
  split
  · refine Steady.trans (.of_eq (t := s.onIndex fun ix => { ix with frontier := p }) rfl rfl) (Steady.trans ?_ (completeTest_steady _))
    split
    · exact setIndexState_steady _ _
    · exact .refl _
  · exact .refl s

theorem setMode_steady (m : TrackerMode) (s : State) : Steady s (setMode m s) := .of_eq (setMode_transport m s) (setMode_arbiter m s)

theorem parkedTest_steady (s : State) : Steady s (parkedTest s) := by
  unfold parkedTest
  (repeat' split)
  · exact .refl s
  · exact .of_eq rfl rfl
  · exact .refl s

/-- With EXACT, INDEXING is entered without a loss of reference. -/
theorem enterIndexing_steady {s : State} (h : s.transport.reference = .exact) : Steady s (enterIndexing s) := by
  unfold enterIndexing
  split
  · rw [h]
    refine (setMode_steady .indexing s).trans (Steady.trans ?_ ((raiseFrontier_steady _ _).trans (parkedTest_steady _)))
    exact .of_eq rfl rfl
  · exact .refl s

/-! ### A move starts (R7, R99) -/

theorem armTrigger_transport (a : Armed) (s : State) : (armTrigger a s).transport = s.transport := rfl
theorem armTrigger_arbiter (a : Armed) (s : State) : (armTrigger a s).arbiter = s.arbiter := rfl

theorem armFrames_steady (job n : Nat) (s : State) : Steady s (armFrames job n s) := by
  induction n generalizing s with
  | zero => exact .refl s
  | succ n ih =>
    unfold armFrames
    (repeat' split)
    · exact .refl s
    · exact .refl s
    · exact .refl s
    · exact .refl s
    · exact askStop_steady _ s
    · exact Steady.trans (.of_eq (armTrigger_transport _ s) (armTrigger_arbiter _ s)) (ih _)

theorem armRun_steady (s : State) : Steady s (armRun s) := by
  unfold armRun
  split
  · exact armFrames_steady _ _ s
  · exact .refl s

theorem moveDriven_steady (m : MoveRecord) (s : State) : Steady s (moveDriven m s) where
  interrupted free := by rw [moveDriven_current]; exact free
  entry free := by rw [moveDriven_current]; exact free
  motion moves := by
    obtain ⟨d, _, _, transport⟩ := moveDriven_transport m s
    rw [moveDriven_current, transport]
    exact ⟨moves, rfl⟩

theorem startMove_steady {m : MoveRecord} {s : State} (h : s.transport.reference = .exact) : Steady s (startMove m s) := by
  have refreshed : Steady s (refreshMode (moveDriven m s)) :=
    (moveDriven_steady m s).trans ((setMode_steady _ _).trans (setMode_steady _ _))
  have known : (refreshMode (moveDriven m s)).transport.reference = .exact := by
    obtain ⟨d, _, _, transport⟩ := moveDriven_transport m s
    rw [refreshMode_transport, transport]
    exact h
  rw [startMove_eq]
  refine Steady.trans ?_ ((parkedTest_steady _).trans (armRun_steady _))
  split
  · exact refreshed.trans (enterIndexing_steady known)
  · exact refreshed

/-! ### A leg handed (R108, R119, R122) -/

theorem takeRecord_ready {m : MoveRecord} {s : State} (ready : s.transport.state = .ready) (reference : s.transport.reference = .exact)
    (purpose : m.purpose ≠ .reference) : takeRecord m s = startMove m (s.onTransport fun t => { t with move := some m }) := by
  simp [takeRecord, ready, reference, purpose]

theorem beginStationary_transport (a : Armed) (s : State) : (beginStationary a s).transport = s.transport := rfl
theorem beginStationary_arbiter (a : Armed) (s : State) : (beginStationary a s).arbiter = s.arbiter := rfl

/-- The record of the current leg goes to the transport, with a stationary capture begun at most. -/
theorem handRecord_takes {c : Current} {s : State} (hc : s.arbiter.current = some c) : ∃ t, t.transport = s.transport ∧
    t.arbiter = s.arbiter ∧ handRecord s = takeRecord (clampRecord c s) t := by
  unfold handRecord
  rw [hc]
  dsimp only
  (repeat' split)
  · next a _ => exact ⟨_, beginStationary_transport a s, beginStationary_arbiter a s, rfl⟩
  · exact ⟨s, rfl, rfl, rfl⟩
  · exact ⟨s, rfl, rfl, rfl⟩

/-- From READY with EXACT the current leg starts to move, and the motion goes on. -/
theorem handRecord_steady {c : Current} {s : State} (hc : s.arbiter.current = some c) (ready : s.transport.state = .ready)
    (reference : s.transport.reference = .exact) (purpose : (clampRecord c s).purpose ≠ .reference) :
    (s.arbiter.interrupted = none → (handRecord s).arbiter.interrupted = none) ∧
    (.tracker ∉ s.arbiter.requesters → .tracker ∉ (handRecord s).arbiter.requesters) ∧
    (handRecord s).arbiter.motion = some c.motion := by
  obtain ⟨t, transport, arbiter, handed⟩ := handRecord_takes hc
  rw [takeRecord_ready (by rw [transport, ready]) (by rw [transport, reference]) purpose] at handed
  obtain ⟨interrupted, entry, motion⟩ := startMove_steady (m := clampRecord c s)
    (s := t.onTransport fun t => { t with move := some (clampRecord c s) }) (by rw [State.onTransport_transport, transport]; exact reference)
  rw [State.onTransport_arbiter, arbiter] at interrupted entry motion
  rw [handed]
  exact ⟨interrupted, entry, by rw [(motion rfl).2, Arbiter.motion, hc]; rfl⟩

/-- Only a REFERENCE motion's leg has that purpose. -/
theorem clampRecord_purpose {c : Current} (s : State) (leg : c.leg ≠ .reference) : (clampRecord c s).purpose ≠ .reference := by
  unfold clampRecord legRecord
  dsimp only
  (repeat' split) <;> simp_all

theorem firstLeg_moves {k : QKind} (h : k ≠ .reference) (frame : Option Nat) (s : State) : firstLeg k frame s ≠ .reference := by
  unfold firstLeg
  (repeat' split) <;> simp_all

end Sys2Proof.Machine
end

section
/-! SUPPORT. The legs of a RESCAN, and the motion that goes on after it (R43, R44, R130). -/

namespace Sys2Proof.Machine

/-! ### The tracker's rescan while a leg ends and another starts -/

/-- What the tracker holds of rescans: the record, the budget and whether the miss is accepted. -/
def Tracker.rescans (t : Tracker) : Option Rescan × Nat × Bool := (t.rescan, t.budget, t.missAccepted)

theorem setMode_rescans (m : TrackerMode) (s : State) : (setMode m s).tracker.rescans = s.tracker.rescans := by
  unfold setMode leaveIndexing
  (repeat' split) <;> rfl

theorem refreshMode_rescans (s : State) : (refreshMode s).tracker.rescans = s.tracker.rescans := by
  rw [refreshMode, setMode_rescans, setMode_rescans]

@[simp] theorem enterState_film (st : TransportState) (s : State) : (enterState st s).film = s.film := by
  unfold enterState; split <;> rfl

theorem newPass_rescans (s : State) : (newPass s).tracker.rescans = s.tracker.rescans := rfl

theorem turnTravel_rescans (d : Direction) (s : State) : (turnTravel d s).tracker.rescans = s.tracker.rescans := by
  unfold turnTravel
  split
  · rfl
  · have turned : (setTravel d s).tracker.rescans = s.tracker.rescans := by unfold setTravel; split <;> rfl
    rw [newPass_rescans, refreshMode_rescans, turned]

theorem moveDriven_rescans (m : MoveRecord) (s : State) : (moveDriven m s).tracker.rescans = s.tracker.rescans := by
  have entered := tracker_of_film (enterState_film .moving (turnTravel (moveDirection m s) s))
  exact (congrArg Tracker.rescans entered).trans (turnTravel_rescans _ s)

theorem passEnded_rescans (s : State) : (passEnded s).tracker.rescans = s.tracker.rescans := by
  refine (refreshMode_rescans _).trans ?_
  exact congrArg (fun t => Tracker.rescans { t with heldIdle := false })
    (tracker_of_film (enterState_film .ready ((driveOff s).onTransport fun t => { t with move := none })))

theorem disarm_tracker (s : State) : (disarm s).tracker = s.tracker := rfl
theorem disarm_fault (s : State) : (disarm s).fault = s.fault := rfl

theorem atRest_rescans (o : MoveOutcome) (s : State) : (atRest o s).tracker.rescans = s.tracker.rescans := by
  unfold atRest
  split
  · rw [disarm_tracker, passEnded_rescans]
  · exact passEnded_rescans s

theorem atRest_rescan (o : MoveOutcome) (s : State) : (atRest o s).tracker.rescan = s.tracker.rescan :=
  congrArg Prod.fst (atRest_rescans o s)
theorem atRest_budget (o : MoveOutcome) (s : State) : (atRest o s).tracker.budget = s.tracker.budget :=
  congrArg (fun x => x.2.1) (atRest_rescans o s)
theorem atRest_missAccepted (o : MoveOutcome) (s : State) : (atRest o s).tracker.missAccepted = s.tracker.missAccepted :=
  congrArg (fun x => x.2.2) (atRest_rescans o s)

theorem atRest_fault (o : MoveOutcome) (s : State) : (atRest o s).fault = s.fault := by
  have ended : (passEnded s).fault = s.fault := fault_of_still (by simp [passEnded, driveOff])
  unfold atRest
  split
  · rw [disarm_fault, ended]
  · exact ended

theorem parkedTest_rescan (s : State) : (parkedTest s).tracker.rescan = s.tracker.rescan := by
  unfold parkedTest
  (repeat' split) <;> rfl

theorem enterIndexing_rescan {s : State} (h : s.transport.reference = .exact) :
    (enterIndexing s).tracker.rescan = s.tracker.rescan := by
  unfold enterIndexing
  split
  · rw [h]
    refine (parkedTest_rescan _).trans ((congrArg Tracker.rescan (tracker_of_grown (raiseFrontier_grown _ _))).trans ?_)
    exact congrArg Prod.fst (setMode_rescans .indexing s)
  · rfl

theorem startMove_rescan {m : MoveRecord} {s : State} (h : s.transport.reference = .exact) :
    (startMove m s).tracker.rescan = s.tracker.rescan := by
  have refreshed : (refreshMode (moveDriven m s)).tracker.rescan = s.tracker.rescan :=
    congrArg Prod.fst ((refreshMode_rescans _).trans (moveDriven_rescans m s))
  have known : (refreshMode (moveDriven m s)).transport.reference = .exact := by
    obtain ⟨d, _, _, transport⟩ := moveDriven_transport m s
    rw [refreshMode_transport, transport]
    exact h
  rw [startMove_eq, tracker_of_film (armRun_film _), parkedTest_rescan]
  split
  · exact (enterIndexing_rescan known).trans refreshed
  · exact refreshed

/-! ### The forward leg starts (R43) -/

theorem Transport.stopped_some {t : Transport} {m : MoveRecord} (h : t.move = some m) :
    t.stopped = { t with move := some { m with stopping := true }, drive := none, stallLimit := false } := by
  simp [Transport.stopped, h]

/-- Asked to stop or not, the move goes toward its target at its speed. -/
theorem Asks.moves {s t : State} {m : MoveRecord} (h : Asks s t) (hm : s.transport.move = some m) :
    t.transport.state = s.transport.state ∧ t.transport.move.map (fun m => (m.target, m.speed)) = some (m.target, m.speed) := by
  rcases h.transport with same | ⟨stopped, _⟩
  · rw [same, hm]
    exact ⟨rfl, rfl⟩
  · rw [stopped, Transport.stopped_some hm]
    exact ⟨rfl, rfl⟩

/-- A record taken with EXACT starts, with its motion current and the rescan open as it was. -/
theorem startMove_goes {m : MoveRecord} {s : State} (reference : s.transport.reference = .exact)
    (noRun : ∀ c, s.arbiter.current = some c → c.kind ≠ .run) (hm : s.transport.move = some m) :
    (startMove m s).transport.state = .moving ∧ (startMove m s).arbiter.motion = s.arbiter.motion ∧
    (startMove m s).transport.move.map (fun m => (m.target, m.speed)) = some (m.target, m.speed) ∧
    (startMove m s).tracker.rescan = s.tracker.rescan := by
  obtain ⟨d, -, -, driven⟩ := moveDriven_transport m s
  obtain ⟨state, move⟩ := (startMove_asks reference noRun).moves (m := m) (by rw [driven]; exact hm)
  exact ⟨by rw [state, driven], ((startMove_steady reference).motion (by simp [hm])).2, move, startMove_rescan reference⟩

theorem targetLimit_eq (t : Transport) : t.targetLimit = t.tailLimit.getD (t.rollEnd.getD 16000000) := by
  unfold Transport.targetLimit
  cases t.tailLimit <;> rfl

/-- The record of the forward leg. -/
theorem clampRecord_forward {c : Current} {r : Rescan} {s : State} (leg : c.leg = .forward) (open_ : s.tracker.rescan = some r) :
    (clampRecord c s).target = min r.forwardTarget s.transport.targetLimit ∧ (clampRecord c s).speed = .creep ∧
      (clampRecord c s).purpose = .creep := by
  simp [clampRecord, legRecord, leg, open_]

/-- A RESCAN's forward leg is handed from READY with EXACT. -/
theorem handLeg_forward {c : Current} {r : Rescan} {s : State} (hc : s.arbiter.current = some c) (leg : c.leg = .forward)
    (kind : c.kind = .rescan) (open_ : s.tracker.rescan = some r) (ready : s.transport.state = .ready)
    (reference : s.transport.reference = .exact) :
    (handLeg s).transport.state = .moving ∧ (handLeg s).arbiter.motion = some c.motion ∧
    (handLeg s).transport.move.map (fun m => (m.target, m.speed)) = some (min r.forwardTarget s.transport.targetLimit, .creep) ∧
    (handLeg s).tracker.rescan = some r := by
  obtain ⟨target, speed, purpose⟩ := clampRecord_forward leg open_
  have starts : handLeg s = startMove (clampRecord c s) (s.onTransport fun t => { t with move := some (clampRecord c s) }) := by
    have goes : ¬ (completesAtOnce c s = true ∧ s.transport.state = .ready ∧ s.transport.reference ≠ .lost) := by
      simp [completesAtOnce, leg]
    rw [← takeRecord_ready ready reference (by rw [purpose]; decide)]
    simp [handLeg, handRecord, hc, goes, Current.stopsAtTrigger, leg]
  obtain ⟨state, motion, move, rescan⟩ := startMove_goes (m := clampRecord c s)
    (s := s.onTransport fun t => { t with move := some (clampRecord c s) }) reference
    (fun x hx => by cases hc.symm.trans hx; rw [kind]; decide) rfl
  rw [starts]
  refine ⟨state, ?_, ?_, rescan.trans open_⟩
  · rw [motion, Arbiter.motion, State.onTransport_arbiter, hc, Option.map_some]
  · rw [← target, ← speed, move]

/-! ### The interrupted motion goes on (R130) -/

theorem tellCurrent_keeps (r : Requester) (k : QKind) (s : State) : (tellCurrent r k s).transport = s.transport ∧
    (tellCurrent r k s).arbiter = s.arbiter := by
  unfold tellCurrent
  (repeat' split) <;> exact ⟨rfl, rfl⟩

/-- Whose motion is current and of which kind. -/
def Arbiter.work (a : Arbiter) : Option (Requester × QKind) := a.current.map fun c => (c.requester, c.kind)

theorem work_of_motion {a : Arbiter} {c : Current} (h : a.motion = some c.motion) : a.work = some (c.requester, c.kind) := by
  unfold Arbiter.motion at h
  unfold Arbiter.work
  cases hc : a.current with
  | none => simp [hc] at h
  | some x =>
    rw [hc] at h
    simp only [Option.map_some, Option.some.injEq, Current.motion, Prod.mk.injEq] at h ⊢
    exact ⟨h.1, h.2.1⟩

/-- The motion is current and moves, with none interrupted and no entry of the tracker's. -/
def GoesOn (r : Requester) (k : QKind) (s : State) : Prop :=
  s.arbiter.interrupted = none ∧ .tracker ∉ s.arbiter.requesters ∧ s.arbiter.work = some (r, k)

theorem handRecord_goesOn {c : Current} {s : State} (hc : s.arbiter.current = some c) (ready : s.transport.state = .ready)
    (reference : s.transport.reference = .exact) (leg : c.leg ≠ .reference) (free : s.arbiter.interrupted = none)
    (left : .tracker ∉ s.arbiter.requesters) : GoesOn c.requester c.kind (handRecord s) := by
  obtain ⟨interrupted, entry, motion⟩ := handRecord_steady hc ready reference (clampRecord_purpose s leg)
  exact ⟨interrupted free, entry left, work_of_motion motion⟩

theorem handLeg_goesOn {c : Current} {s : State} (hc : s.arbiter.current = some c) (ready : s.transport.state = .ready)
    (reference : s.transport.reference = .exact) (leg : c.leg ≠ .reference) (free : s.arbiter.interrupted = none)
    (left : .tracker ∉ s.arbiter.requesters) : GoesOn c.requester c.kind (handLeg s) := by
  unfold handLeg
  rw [hc]
  dsimp only
  split
  · exact handRecord_goesOn (c := { c with leg := .main }) (s := modifyCurrent (fun c => { c with leg := .main }) s)
      (by simp [modifyCurrent, hc]) ready reference (by simp) free left
  · exact handRecord_goesOn hc ready reference leg free left

theorem makeCurrent_goesOn {e : QEntry} {s : State} (kind : e.kind ≠ .reference) (ready : s.transport.state = .ready)
    (reference : s.transport.reference = .exact) (free : s.arbiter.interrupted = none) (left : .tracker ∉ s.arbiter.requesters) :
    GoesOn e.requester e.kind (makeCurrent e s) := by
  obtain ⟨transport, arbiter⟩ := tellCurrent_keeps e.requester e.kind (s.onArbiter fun a =>
    { a with current := some { requester := e.requester, cls := e.cls, kind := e.kind, frame := e.frame,
                               leg := firstLeg e.kind e.frame s, stop := none, search := none } })
  exact handLeg_goesOn (by rw [arbiter]; rfl) (by rw [transport]; exact ready) (by rw [transport]; exact reference)
    (firstLeg_moves kind e.frame s) (by rw [arbiter]; exact free) (by rw [arbiter]; exact left)

theorem Arbiter.entryOf_remove_other {r x : Requester} (h : r ≠ x) (a : Arbiter) : (a.remove x).entryOf r = a.entryOf r := by
  unfold Arbiter.entryOf Arbiter.remove
  rw [List.find?_filter]
  refine congrArg (fun p => a.queue.find? p) (funext fun e => ?_)
  by_cases own : e.requester = r
  · simp [own, h]
  · simp [own]

theorem refreshStarts_entryOf (r : Requester) (s : State) : (refreshStarts s).arbiter.entryOf r =
    (s.arbiter.entryOf r).map fun e => { e with start := startPosition e.requester e.kind e.frame s } := by
  simp only [refreshStarts, State.onArbiter_arbiter, Arbiter.entryOf, List.find?_map]
  rfl

theorem refreshStarts_requesters (s : State) : (refreshStarts s).arbiter.requesters = s.arbiter.requesters := by
  simp only [refreshStarts, State.onArbiter_arbiter, Arbiter.requesters, List.map_map]
  rfl

theorem startOccupancy_keeps (e : QEntry) (s : State) : (startOccupancy e s).transport = s.transport ∧
    (startOccupancy e s).arbiter.interrupted = s.arbiter.interrupted ∧
    (startOccupancy e s).arbiter.requesters = s.arbiter.requesters := by
  have requesters := Arbiter.requesters_modifyEntry s.arbiter e.requester (fun x => { x with resume := false }) fun _ => rfl
  unfold startOccupancy
  simp only [State.onArbiter_arbiter, State.onArbiter_transport]
  split
  · exact ⟨trivial, rfl, requesters⟩
  · exact ⟨trivial, rfl, requesters⟩

/-- Where a selection might be made and its entry is eligible, the interrupted motion is current again. -/
theorem resumeInterrupted_goesOn {r : Requester} {e : QEntry} {s : State} (interrupted : s.arbiter.interrupted = some r)
    (held : s.arbiter.entryOf r = some e) (may : maySelect s = true) (fit : eligible s e = true) (notArbiter : r ≠ .arbiter)
    (ready : s.transport.state = .ready) (reference : s.transport.reference = .exact) (kind : e.kind ≠ .reference)
    (left : .tracker ∉ s.arbiter.requesters) : GoesOn r e.kind (resumeInterrupted s) := by
  have own : e.requester = r := by simpa using List.find?_some held
  have again : (refreshStarts (s.onArbiter fun a => { a with interrupted := none })).arbiter.entryOf r =
      some { e with start := startPosition e.requester e.kind e.frame (s.onArbiter fun a => { a with interrupted := none }) } := by
    rw [refreshStarts_entryOf]
    exact congrArg (Option.map _) held
  have left' : .tracker ∉ (refreshStarts (s.onArbiter fun a => { a with interrupted := none })).arbiter.requesters := by
    rw [refreshStarts_requesters]
    exact left
  have resumed : resumeInterrupted s = makeCurrent
      { e with start := startPosition e.requester e.kind e.frame (s.onArbiter fun a => { a with interrupted := none }) }
      (if e.resume then startOccupancy e (refreshStarts (s.onArbiter fun a => { a with interrupted := none }))
        else refreshStarts (s.onArbiter fun a => { a with interrupted := none })) := by
    simp [resumeInterrupted, interrupted, held, may, fit, notArbiter, again]
  obtain ⟨transport, free, requesters⟩ := startOccupancy_keeps e (refreshStarts (s.onArbiter fun a => { a with interrupted := none }))
  rw [resumed, ← own]
  split
  · refine makeCurrent_goesOn (e := { e with start := _ }) kind ?_ ?_ free ?_
    · rw [transport]; exact ready
    · rw [transport]; exact reference
    · rw [requesters]; exact left'
  · exact makeCurrent_goesOn (e := { e with start := _ }) kind ready reference rfl left'

/-! ### A RESCAN's last leg (R43, R44) -/

/-- The rescan has ended with its forward leg: not found, if nothing decided it before. -/
def rescanClosed (s : State) : State := if s.tracker.rescan.isSome then rescanNotFound s else s

theorem rescanClosed_tracker (s : State) : (rescanClosed s).tracker.rescan = none ∧
    (rescanClosed s).tracker.budget = s.tracker.budget ∧
    (s.tracker.rescan ≠ none → (rescanClosed s).tracker.missAccepted = true) ∧
    (s.tracker.rescan = none → (rescanClosed s).tracker.missAccepted = s.tracker.missAccepted) := by
  unfold rescanClosed
  split
  · next opened => exact ⟨rfl, rfl, fun _ => rfl, fun closed => by simp [closed] at opened⟩
  · next closed => exact ⟨by simpa using closed, rfl, fun opened => absurd (by simpa using closed) opened, fun _ => rfl⟩

/-- The RESCAN has left the queue, and no motion is current. -/
def rescanLeft (c : Current) (s : State) : State := rescanClosed (clearCurrent (s.onArbiter fun a => a.remove c.requester))

theorem rescanLeft_keeps (c : Current) (s : State) : (rescanLeft c s).transport = s.transport ∧ (rescanLeft c s).jobs = s.jobs ∧
    (rescanLeft c s).fault = s.fault ∧ (rescanLeft c s).arbiter = (s.arbiter.remove c.requester).clearCurrent := by
  unfold rescanLeft rescanClosed
  split
  · exact ⟨rfl, rfl, rfl, rfl⟩
  · exact ⟨rfl, rfl, rfl, rfl⟩

/-- A motion other than a run's is no longer current. -/
theorem clearCurrent_plain {c : Current} {a : Arbiter} (hc : a.current = some c) (kind : c.kind ≠ .run) :
    a.clearCurrent = { a with current := none } := by
  simp [Arbiter.clearCurrent, hc, kind]

theorem completeMove_forward {c : Current} {o : MoveOutcome} {s : State} (hc : s.arbiter.current = some c) (kind : c.kind = .rescan)
    (leg : c.leg = .forward) (ho : o ≠ .stopped) : completeMove o s = resumeInterrupted (rescanLeft c (atRest o s)) := by
  rw [completeMove_eq, legDone_main (by rw [atRest_arbiter, hc]) (by rw [leg]; rfl) ho]
  unfold motionDone
  rw [kind]
  rfl

end Sys2Proof.Machine
end

section
/-! PROOFS. A commit, a window miss, and the legs of its rescan. -/

namespace Sys2Proof.Machine

/-! ### A count while INDEXING with nothing to commit (R28, R36, R41) -/

section
variable {s : State}

/-- The frontier at the position count, where it lay below. -/
def frontierRaised (s : State) : State := s.onIndex fun ix => { ix with frontier := max ix.frontier s.transport.position }

/-- Once the index grows and no roll end is known, the frontier rises and nothing else happens. -/
theorem raiseFrontier_growing (growing : s.index.state = .growing) (rollEnd : s.transport.rollEnd = none) :
    raiseFrontier s.transport.position s = frontierRaised s := by
  unfold raiseFrontier frontierRaised
  split
  · next below => simp [completeTest, growing, rollEnd, State.onIndex, max_eq_right below.le]
  · next reached => simp [State.onIndex, max_eq_left (Nat.not_lt.mp reached)]

theorem modeNow_indexing (mode : s.tracker.mode = .indexing) (state : s.transport.state = .moving)
    (travel : s.transport.travel = .forward) (reference : s.transport.reference = .exact) (held : s.tracker.heldIdle = false)
    (growing : s.index.state = .growing) : modeNow s = .indexing := by
  simp [modeNow, mode, state, travel, reference, held, Index.frozen, growing]

theorem pitchMaxTest_short (h : ∀ c, s.tracker.candidate = some c → s.transport.position ≤ c.low + s.transport.profile.pitchMax) :
    pitchMaxTest s = s := by
  unfold pitchMaxTest
  split
  · next c hc => exact if_neg fun ⟨_, passed⟩ => absurd (h c hc) (Nat.not_le.mpr passed)
  · rfl

theorem limitTest_short (old : Nat) (h : s.transport.position < s.transport.upperLimit) : limitTest old s = s := by
  unfold limitTest
  dsimp only
  split
  · exact if_neg fun ⟨_, _, limit⟩ => absurd limit h.ne
  · rfl

theorem rescanTest_closed (old : Nat) (h : s.tracker.rescan = none) : rescanTest old s = s := by simp [rescanTest, h]

theorem passedTest_other (old : Nat) (d : Direction) (h : s.tracker.mode ≠ .verifying) : passedTest old d s = s := if_neg h

theorem gatheringTest_other (h : s.tracker.mode ≠ .verifying) : gatheringTest s = s := if_neg fun ⟨mode, _⟩ => h mode

/-- The count reaches a position while INDEXING with nothing parked, nothing to commit and no rescan: the test for a miss is left. -/
theorem trackerMoved_indexing (old : Nat) (mode : s.tracker.mode = .indexing) (state : s.transport.state = .moving)
    (travel : s.transport.travel = .forward) (reference : s.transport.reference = .exact) (held : s.tracker.heldIdle = false)
    (growing : s.index.state = .growing) (rollEnd : s.transport.rollEnd = none) (parked : s.tracker.parked = none)
    (short : ∀ c, s.tracker.candidate = some c → s.transport.position ≤ c.low + s.transport.profile.pitchMax)
    (room : s.transport.position < s.transport.upperLimit) : trackerMoved old .forward s = gatheringTest (passedTest old .forward
      (rescanTest old (missTest old (frontierRaised s)))) := by
  simp only [trackerMoved, mode, if_true, raiseFrontier_growing growing rollEnd]
  rw [refreshMode_same ((modeNow_indexing (s := frontierRaised s) mode state travel reference held growing).trans mode.symm),
    parkedTest_none (s := frontierRaised s) parked, pitchMaxTest_short (s := frontierRaised s) short, limitTest_short (s := frontierRaised s) _ room]

theorem missTest_passed {old e : Nat} (last : s.tracker.eLast = some e) (mode : s.tracker.mode = .indexing)
    (accepted : s.tracker.missAccepted = false) (rescan : s.tracker.rescan = none)
    (before : old ≤ s.tracker.predicted e + s.tracker.window) (after : s.tracker.predicted e + s.tracker.window < s.transport.position) :
    missTest old s = if 0 < s.tracker.budget then askRescan e s else s.onTracker fun t => { t with missAccepted := true } := by
  simp [missTest, last, mode, accepted, rescan, before, after]

end

/-! ### A rescan asked for (R42) -/

/-- The tracker held IDLE in a new pass with its rescan record, an open candidate parked (R30, R42). -/
def Tracker.rescanAsked (e pos : Nat) (t : Tracker) : Tracker :=
  { t with
    mode := .idle, budget := t.budget - 1, heldIdle := true, candidate := none,
    parked := (t.candidate.map Candidate.park).or t.parked, openMark := none, unmatchedRun := 0, passStart := pos, matched := [],
    gathering := [],
    rescan := some { origin := e, predicted := t.predicted e, window := t.window2, reverseTarget := e - t.window,
                     forwardTarget := t.predicted e + t.window2 } }

/-- Where the frontier comes down to (R30, R42). -/
def missFrontier (s : State) : Nat :=
  match s.tracker.candidate with
  | some c => c.low
  | none => (s.index.last?.map (·.high)).getD s.index.frontier

/-- The tracker's part of asking for a rescan, before its entry is submitted. -/
def rescanRecorded (e : Nat) (s : State) : State :=
  ((setMode .idle ((askStop .rescan s).onTracker fun t => { t with budget := t.budget - 1, heldIdle := true })).onIndex fun ix =>
    { ix with frontier := missFrontier s }).onTracker fun t => { t with rescan := (s.tracker.rescanAsked e 0).rescan }

theorem askRescan_eq (e : Nat) (s : State) : askRescan e s = submit .tracker .internal .rescan none (rescanRecorded e s) := rfl

theorem rescanRecorded_transport (e : Nat) (s : State) : (rescanRecorded e s).transport = (askStop .rescan s).transport :=
  setMode_transport .idle _
theorem rescanRecorded_arbiter (e : Nat) (s : State) : (rescanRecorded e s).arbiter = (askStop .rescan s).arbiter :=
  setMode_arbiter .idle _
theorem rescanRecorded_capture (e : Nat) (s : State) : (rescanRecorded e s).capture = (askStop .rescan s).capture :=
  setMode_capture .idle _

theorem setMode_idle_film {s : State} (mode : s.tracker.mode = .indexing) : (setMode .idle s).tracker =
    { s.tracker with
      mode := .idle, candidate := none, parked := (s.tracker.candidate.map Candidate.park).or s.tracker.parked, openMark := none,
      unmatchedRun := 0, passStart := s.transport.position, matched := [], gathering := [] } ∧
    (setMode .idle s).index.entries = s.index.entries := by
  unfold setMode leaveIndexing
  cases hc : s.tracker.candidate with
  | none => simp [mode, newPass, hc]
  | some c => simp [mode, newPass, State.onIndex]

theorem askStop_position (why : StopCause) (s : State) : (askStop why s).transport.position = s.transport.position :=
  congrArg (fun x => x.base.position) (askStop_still why s)

theorem askRescan_film (e : Nat) {s : State} (mode : s.tracker.mode = .indexing) :
    (askRescan e s).tracker = s.tracker.rescanAsked e s.transport.position ∧ (askRescan e s).index.entries = s.index.entries ∧
      (askRescan e s).index.frontier = missFrontier s := by
  have film := askStop_film .rescan s
  obtain ⟨tracker, entries⟩ := setMode_idle_film
    (s := (askStop .rescan s).onTracker fun t => { t with budget := t.budget - 1, heldIdle := true })
    (by rw [State.onTracker_tracker, tracker_of_film film]; exact mode)
  have recorded := submit_film .tracker .internal .rescan none (rescanRecorded e s)
  rw [askRescan_eq, tracker_of_film recorded, index_of_film recorded]
  refine ⟨?_, entries.trans (congrArg Index.entries (index_of_film (t := askStop .rescan s) film)), rfl⟩
  rw [rescanRecorded, State.onTracker_tracker, State.onIndex_tracker, tracker, State.onTracker_tracker, State.onTracker_transport,
    tracker_of_film film, askStop_position]
  rfl

theorem askRescan_armed (e : Nat) {s : State} (h : s.capture.armed = []) : (askRescan e s).capture.armed = [] :=
  submit_armed (s := rescanRecorded e s) (by rw [rescanRecorded_capture]; exact askStop_armed h _) _ _ _ _

/-- The RESCAN waits in the queue. -/
theorem askRescan_entry (e : Nat) {s : State} (h : s.arbiter.entryOf .tracker = none) :
    ∃ q, (askRescan e s).arbiter.entryOf .tracker = some q ∧ q.cls = .internal ∧ q.kind = .rescan ∧ q.skip = 0 := by
  have free : (rescanRecorded e s).arbiter.entryOf .tracker = none := by
    rw [rescanRecorded_arbiter, Arbiter.entryOf, askStop_queue]
    exact h
  rw [askRescan_eq, submit, free]
  simp only [Arbiter.entryOf, yieldTest_queue]
  obtain ⟨q, held, kind, cls, skip⟩ := place_entry (a := (rescanRecorded e s).arbiter)
    (e := { requester := .tracker, cls := .internal, kind := .rescan, frame := none,
            start := startPosition .tracker .rescan none (rescanRecorded e s), arrival := 0, skip := 0, resume := false }) free
  exact ⟨q, held, cls, kind, skip⟩

/-- A motion already asked to stop does not yield. -/
theorem yieldTest_stopping {s : State} (h : ∀ c, s.arbiter.current = some c → c.stop ≠ none) : yieldTest s = s := by
  unfold yieldTest
  split
  · rfl
  · next c hc => exact if_neg fun ⟨_, free, _⟩ => h c hc free

/-- A move in flight is stopped for the rescan, unless a cause stands already (log 11). -/
theorem askStop_moving {c : Current} {m : MoveRecord} {s : State} (why : StopCause) (hc : s.arbiter.current = some c)
    (hm : s.transport.move = some m) (state : s.transport.state = .moving) :
    (askStop why s).transport.move = some { m with stopping := true } ∧ (askStop why s).transport.drive = none ∧
      (askStop why s).arbiter.current = some { c with stop := c.stop.or (some why) } := by
  have moves : s.transport.move.isNone = false := by simp [hm]
  have stops (t : State) (same : t.transport = s.transport) : (stopMove t).transport.move = some { m with stopping := true } ∧
      (stopMove t).transport.drive = none := by simp [stopMove, same, hm, state, driveOff]
  rw [askStop, hc]
  simp only [moves, Bool.false_eq_true, if_false]
  obtain ⟨move, drive⟩ := stops (disarmRun c (s.onArbiter fun a => { a with current := some { c with stop := c.stop.or (some why) } }))
    (disarmRun_transport c _)
  exact ⟨move, drive, by rw [stopMove_arbiter, disarmRun_arbiter]; rfl⟩

theorem askRescan_moving (e : Nat) {c : Current} {m : MoveRecord} {s : State} (free : s.arbiter.entryOf .tracker = none)
    (hc : s.arbiter.current = some c) (hm : s.transport.move = some m) (state : s.transport.state = .moving) :
    (askRescan e s).transport.move = some { m with stopping := true } ∧ (askRescan e s).transport.drive = none ∧
      (askRescan e s).arbiter.current = some { c with stop := c.stop.or (some .rescan) } := by
  have free' : (rescanRecorded e s).arbiter.entryOf .tracker = none := by
    rw [rescanRecorded_arbiter, Arbiter.entryOf, askStop_queue]
    exact free
  obtain ⟨move, drive, current⟩ := askStop_moving .rescan hc hm state
  have placed (q : QEntry) : ((rescanRecorded e s).onArbiter fun a => a.place q).arbiter.current =
      some { c with stop := c.stop.or (some .rescan) } := by
    rw [State.onArbiter_arbiter, place_current, rescanRecorded_arbiter, current]
  rw [askRescan_eq, submit, free']
  simp only [reduceCtorEq, if_false]
  rw [yieldTest_stopping (fun x hx => by cases (placed _).symm.trans hx; cases c.stop <;> simp), State.onArbiter_transport,
    rescanRecorded_transport, placed]
  exact ⟨move, drive, rfl⟩

/-! ### The window miss (R41, R42) -/

/-- The test for a miss that a count leaves is the whole of the count, if no other test follows it up. -/
theorem exec_capstanCount_indexing {s t : State} (mode : s.tracker.mode = .indexing) (state : s.transport.state = .moving)
    (travel : s.transport.travel = .forward) (reference : s.transport.reference = .exact) (held : s.tracker.heldIdle = false)
    (growing : s.index.state = .growing) (rollEnd : s.transport.rollEnd = none) (tail : s.transport.tailLimit = none)
    (parked : s.tracker.parked = none) (room : s.transport.position + 1 < 16000000)
    (short : ∀ c, s.tracker.candidate = some c → s.transport.position + 1 ≤ c.low + s.transport.profile.pitchMax)
    (test : missTest s.transport.position (frontierRaised (counted .forward s)) = t)
    (closed : rescanTest s.transport.position t = t) (other : t.tracker.mode ≠ .verifying) (unarmed : t.capture.armed = []) :
    exec (.capstanCount .forward) s = .next (settle t) := by
  have limit : s.transport.upperLimit = 16000000 := by simp [Transport.upperLimit, rollEnd, Config.maxPosition]
  rw [exec_capstanCount_taken (by simp [state]) .forward, capstanMoves_along (by simp [state]) travel tail (by rw [limit]; exact room.le),
    trackerMoved_indexing (s := counted .forward s) _ mode state travel reference held growing rollEnd parked short
      (Nat.lt_of_lt_of_eq room limit.symm), test, closed, passedTest_other _ _ other, gatheringTest_other other,
    takeTriggers_unarmed _ _ unarmed]

/-! ### The legs of the rescan (R43, R44) -/

section
variable {c : Current} {o : MoveOutcome} {s : State} (hc : s.arbiter.current = some c)
include hc

/-- The reverse leg is followed by the forward leg. -/
theorem completeMove_reverse (leg : c.leg = .reverse) (ho : o ≠ .stopped) (free : s.fault.halted = false) :
    completeMove o s = handLeg (modifyCurrent (fun c => { c with leg := .forward }) (atRest o s)) := by
  have current : (atRest o s).arbiter.current = some c := by rw [atRest_arbiter, hc]
  rw [completeMove_eq, legDone, current]
  simp [ho, leg, nextLeg, atRest_fault, free]

/-- A leg STOPPED for no cause of the arbiter's own withdraws the rescan. -/
theorem completeMove_withdrawn (requester : c.requester = .tracker) (kind : c.kind = .rescan)
    (cause : c.stop = none ∨ c.stop = some .lossOfRef) :
    completeMove .stopped s = withdrawRescan (clearCurrent (atRest .stopped s)) := by
  have current : (atRest .stopped s).arbiter.current = some c := by rw [atRest_arbiter, hc]
  rw [completeMove_eq, legDone, current]
  rcases cause with h | h <;> simp [legStopped, h, requester, kind]

/-- The RESCAN ended with its forward leg. -/
theorem rescanLeft_ended (requester : c.requester = .tracker) (kind : c.kind = .rescan) :
    (rescanLeft c (atRest o s)).transport = s.transport.rested ∧ (rescanLeft c (atRest o s)).jobs = s.jobs ∧
    (rescanLeft c (atRest o s)).fault = s.fault ∧
    (rescanLeft c (atRest o s)).arbiter = { s.arbiter.remove .tracker with current := none } := by
  obtain ⟨transport, jobs, fault, arbiter⟩ := rescanLeft_keeps c (atRest o s)
  refine ⟨transport.trans (atRest_transport o s), jobs.trans (atRest_jobs o s), fault.trans (atRest_fault o s), ?_⟩
  rw [arbiter, atRest_arbiter, requester]
  exact clearCurrent_plain (a := s.arbiter.remove .tracker) hc (by simp [kind])

end

/-- Eligibility is the job table's to say. -/
theorem eligible_congr {s t : State} (h : t.jobs = s.jobs) (e : QEntry) : eligible t e = eligible s e := by simp [eligible, h]

end Sys2Proof.Machine

open Sys2Proof Sys2Proof.Machine

/-- Settles O50: the entry that a commit appends; a window miss with budget and without; the rescan's legs by how each completes. -/
theorem commitAppends : Obligations.CommitAppends := by
  unfold Obligations.CommitAppends
  refine fun s => ⟨fun c a high byMax hc room _ address => ?_, ?_, fun c hc requester kind =>
    ⟨fun r o leg ho opened free reference => ?_, fun o leg ho free => ?_,
      fun o i q leg ho interrupted notTracker notArbiter held fit free noCapture noSearch noRoll unblocked reference other => ?_,
      fun cause unheld => ?_⟩⟩
  · have grown := commit_grown high byMax hc room address
    obtain ⟨low, high', level, gap, missing, overlong⟩ := candidateEntry_closed high c a s
    have tracker := tracker_of_grown grown
    exact ⟨by rw [commit_entry high byMax hc room address], _, entries_of_grown grown, low, high', rfl, level, rfl, rfl, gap, missing,
      overlong, by rw [tracker]; rfl, by rw [tracker]; rfl⟩
  · intro e pitch w w2 mode state travel reference growing rollEnd tail rescan parked held accepted unarmed last hp hw hw2 at_ room short
    subst hw2 hw hp
    rw [← at_] at room short
    have test := missTest_passed (s := frontierRaised (counted .forward s)) (old := s.transport.position) last mode accepted rescan
      (by rw [at_]; exact Nat.le_refl _) (by show _ < s.transport.position + 1; rw [at_]; exact Nat.lt_succ_self _)
    have moves {t : State} := exec_capstanCount_indexing (t := t) mode state travel reference held growing rollEnd tail parked room short
    refine ⟨fun budget free => ?_, fun spent => ?_⟩
    · obtain ⟨tracker, entries, frontier⟩ := askRescan_film e (s := frontierRaised (counted .forward s)) mode
      have idle : (askRescan e (frontierRaised (counted .forward s))).tracker.mode = .idle := by rw [tracker]; rfl
      refine ⟨_, moves (test.trans (if_pos budget)) (rescanTest_other _ (by simp [idle])) (by simp [idle]) (askRescan_armed e unarmed),
        by rw [tracker]; rfl, by rw [tracker]; exact accepted, idle, by rw [tracker]; rfl, askRescan_entry e free, fun c hc => ?_,
        fun x hc hx => ?_, fun m c hm hc => askRescan_moving e free hc hm state, entries,
        congrArg (fun x => x.base.fault) (askRescan_still e (frontierRaised (counted .forward s)))⟩
      · have hc' : (frontierRaised (counted .forward s)).tracker.candidate = some c := hc
        exact ⟨by rw [tracker]; rfl, by simp [frontier, missFrontier, hc'], by simp [tracker, Tracker.rescanAsked, hc', Candidate.park]⟩
      · have hc' : (frontierRaised (counted .forward s)).tracker.candidate = none := hc
        have hx' : (frontierRaised (counted .forward s)).index.last? = some x := hx
        have parked' : (frontierRaised (counted .forward s)).tracker.parked = none := parked
        exact ⟨by simp [frontier, missFrontier, hc', hx'], by simp [tracker, Tracker.rescanAsked, hc', parked']⟩
    · have budget : ¬ 0 < (frontierRaised (counted .forward s)).tracker.budget := Nat.not_lt.mpr (Nat.le_of_eq spent)
      have indexing : (frontierRaised (counted .forward s)).tracker.mode ≠ .verifying := by
        rw [show (frontierRaised (counted .forward s)).tracker.mode = .indexing from mode]
        decide
      exact ⟨_, moves (test.trans (if_neg budget)) (rescanTest_closed _ rescan) indexing unarmed,
        rfl, mode, rescan, spent, rfl, rfl, rfl, rfl, rfl⟩
  · have ended := atRest_transport o s
    obtain ⟨state, motion, move, rescan⟩ := handLeg_forward (c := { c with leg := .forward }) (r := r)
      (s := modifyCurrent (fun c => { c with leg := .forward }) (atRest o s)) (by simp [modifyCurrent, atRest_arbiter, hc]) rfl kind
      ((atRest_rescan o s).trans opened) (congrArg Transport.state ended) ((congrArg Transport.reference ended).trans reference)
    rw [completeMove_reverse hc leg ho free]
    refine ⟨state, motion.trans ?_, move.trans ?_, rescan⟩
    · simp [Current.motion, requester, kind]
    · have limit : (modifyCurrent (fun c => { c with leg := .forward }) (atRest o s)).transport.targetLimit = s.transport.targetLimit :=
        (congrArg Transport.targetLimit (atRest_transport o s)).trans rfl
      rw [limit, targetLimit_eq]
  · obtain ⟨transport, -, -, arbiter⟩ := rescanLeft_ended (o := o) hc requester kind
    obtain ⟨closed, budget, found, decided⟩ := rescanClosed_tracker
      (clearCurrent ((atRest o s).onArbiter fun a => a.remove c.requester))
    have done : completeMove o s = rescanLeft c (atRest o s) := by
      rw [completeMove_forward hc kind leg ho]
      simp [resumeInterrupted, arbiter, Arbiter.remove, free]
    rw [done, arbiter, transport]
    refine ⟨closed, Arbiter.entryOf_remove _ _, rfl, rfl, budget.trans (atRest_budget o s), fun opened => found ?_, fun closed => ?_⟩
    · exact (atRest_rescan o s).trans_ne opened
    · exact (decided ((atRest_rescan o s).trans closed)).trans (atRest_missAccepted o s)
  · obtain ⟨transport, jobs, fault, arbiter⟩ := rescanLeft_ended (o := o) hc requester kind
    obtain ⟨none_left, left, work⟩ := resumeInterrupted_goesOn (r := i) (e := q) (s := rescanLeft c (atRest o s))
      (by rw [arbiter]; exact interrupted) (by rw [arbiter]; exact (Arbiter.entryOf_remove_other notTracker s.arbiter).trans held)
      (by simp [maySelect, transport, fault, arbiter, Transport.rested, Arbiter.remove, free, noCapture, noSearch, noRoll, unblocked])
      (by rw [eligible_congr jobs]; exact fit) notArbiter (by rw [transport]; rfl) (by rw [transport]; exact reference) other
      (by rw [arbiter]; exact entryOf_eq_none.mp (Arbiter.entryOf_remove .tracker s.arbiter))
    rw [completeMove_forward hc kind leg ho]
    exact ⟨none_left, entryOf_eq_none.mpr left, work⟩
  · have film := withdrawRescan_film (clearCurrent (atRest .stopped s))
    rw [completeMove_withdrawn hc requester kind cause]
    have tracker := tracker_of_film_eq film
    exact ⟨by rw [tracker], withdrawRescan_entry _, (withdrawRescan_asks _).current_none rfl,
      by rw [tracker]; exact atRest_budget .stopped s, by rw [tracker]; exact atRest_missAccepted .stopped s⟩

end

section
/-! SUPPORT. The index requests of a link unit at rest: each is read back to its order and performed on the state as it stands (R176,
R193). -/

namespace Sys2Proof.Machine

/-- A request that reads back to itself and passes the body check is performed, and answered (R176). -/
theorem requestArrives_checked {l : LinkId} {tag : Byte} {r : Request} {o : Order} {s : State} (h : Listens l s)
    (hlen : (r.body tag).length ≤ 250) (hkind : requestKinds.contains r.kind = true) (hread : readBody (r.body tag) = some (tag, r))
    (hcheck : checkRequest r = some o) :
    requestArrives l tag r s =
      replied l (replyKind r.kind) tag (perform l o s).result (perform l o s).data (perform l o s).state :=
  requestArrives_listens h hlen hkind (by simp [readRequest, hread, hcheck])

theorem get16_put_last (w : BitVec 16) : get16 (put16 w) = some (w, []) := by
  have read := get16_put w []
  rwa [List.append_nil] at read

theorem readBody_getEntries (tag : Byte) (n : BitVec 16) (count : Byte) :
    readBody ((Request.getEntries n count).body tag) = some (tag, .getEntries n count) := by
  simp [Request.body, Request.kind, Request.params, readBody, readParams, whole]

theorem readBody_findAddress (tag : Byte) (b d p : BitVec 16) :
    readBody ((Request.findAddress b d p).body tag) = some (tag, .findAddress b d p) := by
  simp [Request.body, Request.kind, Request.params, readBody, readParams, whole, get16_put_last]

theorem readBody_verifySegment (tag seg : Byte) :
    readBody ((Request.verifySegment seg).body tag) = some (tag, .verifySegment seg) := by
  simp [Request.body, Request.kind, Request.params, readBody, readParams, oneByte, whole]

theorem readBody_unverifySegment (tag seg : Byte) :
    readBody ((Request.unverifySegment seg).body tag) = some (tag, .unverifySegment seg) := by
  simp [Request.body, Request.kind, Request.params, readBody, readParams, oneByte, whole]

theorem readBody_truncateIndex (tag : Byte) (n : BitVec 16) :
    readBody ((Request.truncateIndex n).body tag) = some (tag, .truncateIndex n) := by
  simp [Request.body, Request.kind, Request.params, readBody, readParams, whole, get16_put_last]

/-- A row that is the arrival of such a request. -/
theorem exec_request {c : Instr} {l : LinkId} {tag kind : Byte} {r : Request} {o : Order} {s s' : State} (h : Listens l s')
    (hexec : exec c s = .next (requestArrives l tag r s')) (hkind : r.kind = kind) (hlen : (r.body tag).length ≤ 250)
    (known : requestKinds.contains kind = true) (hread : readBody (r.body tag) = some (tag, r)) (hcheck : checkRequest r = some o) :
    exec c s = .next (replied l (replyKind kind) tag (perform l o s').result (perform l o s').data (perform l o s').state) := by
  subst hkind
  rw [hexec, requestArrives_checked h hlen known hread hcheck]

theorem exec_getEntries {l : LinkId} {s : State} (h : Listens l s) (tag : Byte) {n : BitVec 16} {count : Byte} (frame : n.toNat ≤ 16383)
    (some_ : 1 ≤ count.toNat) (few : count.toNat ≤ 8) : exec (.getEntries l tag n count) s =
      .next (replied l 0x84 tag (getEntries n.toNat count.toNat s).result (getEntries n.toNat count.toNat s).data
        (getEntries n.toNat count.toNat s).state) :=
  exec_request (c := .getEntries l tag n count) (kind := 0x04) (o := .getEntries n.toNat count.toNat) h rfl rfl
    (by simp [Request.body, Request.params, put16]) (by decide) (readBody_getEntries tag n count)
    (if_pos ⟨frame, some_, few⟩)

theorem exec_findAddress {l : LinkId} {s : State} (h : Listens l s) (tag : Byte) {b d p : BitVec 16} (hb : b ≠ 0) (hd : d ≠ 0)
    (hp : p ≠ 0) : exec (.findAddress l tag b d p) s =
      .next (replied l 0x85 tag (findAddress ⟨b.toNat, d.toNat, p.toNat⟩ s).result (findAddress ⟨b.toNat, d.toNat, p.toNat⟩ s).data
        (findAddress ⟨b.toNat, d.toNat, p.toNat⟩ s).state) :=
  exec_request (c := .findAddress l tag b d p) (kind := 0x05) (o := .findAddress ⟨b.toNat, d.toNat, p.toNat⟩) h rfl rfl
    (by simp [Request.body, Request.params, put16]) (by decide) (readBody_findAddress tag b d p) (if_pos ⟨hb, hd, hp⟩)

theorem exec_verifySegment {l : LinkId} {s : State} (h : Listens l s) (tag : Byte) {seg : Byte} (hseg : seg.toNat < 64) :
    exec (.verifySegment l tag seg) s =
      .next (replied l 0x89 tag (verifySegment l seg.toNat s).result (verifySegment l seg.toNat s).data
        (verifySegment l seg.toNat s).state) :=
  exec_request (c := .verifySegment l tag seg) (kind := 0x09) (o := .verifySegment seg.toNat) h rfl rfl
    (by simp [Request.body, Request.params]) (by decide) (readBody_verifySegment tag seg) (if_pos hseg)

theorem exec_unverifySegment {l : LinkId} {s : State} (h : Listens l s) (tag : Byte) {seg : Byte} (hseg : seg.toNat < 64) (lv : Levels) :
    exec (.unverifySegment l tag seg lv) s =
      .next (replied l 0x8A tag (unverifySegment l seg.toNat (takeLevels lv s)).result
        (unverifySegment l seg.toNat (takeLevels lv s)).data (unverifySegment l seg.toNat (takeLevels lv s)).state) :=
  exec_request (c := .unverifySegment l tag seg lv) (kind := 0x0A) (o := .unverifySegment seg.toNat) (s' := takeLevels lv s) h rfl rfl
    (by simp [Request.body, Request.params]) (by decide) (readBody_unverifySegment tag seg) (if_pos hseg)

theorem exec_truncateIndex {l : LinkId} {s : State} (h : Listens l s) (tag : Byte) {n : BitVec 16} (frame : n.toNat ≤ 16383)
    (lv : Levels) : exec (.truncateIndex l tag n lv) s =
      .next (replied l 0x8B tag (truncateIndex n.toNat (takeLevels lv s)).result (truncateIndex n.toNat (takeLevels lv s)).data
        (truncateIndex n.toNat (takeLevels lv s)).state) :=
  exec_request (c := .truncateIndex l tag n lv) (kind := 0x0B) (o := .truncateIndex n.toNat) (s' := takeLevels lv s) h rfl rfl
    (by simp [Request.body, Request.params, put16]) (by decide) (readBody_truncateIndex tag n) (if_pos frame)

end Sys2Proof.Machine
end

section
/-! PROOFS. The index read: lookups by address, and the wire form of its records. -/

namespace Sys2Proof.Machine

/-! ### Address order (00_scope) -/

theorem Address.lt_iff {a b : Address} : a.lt b = true ↔ a.batch < b.batch ∨ a.batch = b.batch ∧
    (a.document < b.document ∨ a.document = b.document ∧ a.page < b.page) := by
  simp [Address.lt]

theorem Address.lt_trans {a b c : Address} (h : a.lt b = true) (k : b.lt c = true) : a.lt c = true := by
  rw [Address.lt_iff] at *
  omega

theorem Address.lt_irrefl (a : Address) : a.lt a = false := by simp [Address.lt]

theorem Address.lt_asymm {a b : Address} (h : a.lt b = true) : b.lt a = false := by
  cases k : b.lt a with
  | false => rfl
  | true => rw [← a.lt_irrefl, Address.lt_trans h k]

theorem Address.ne_of_lt {a b : Address} (h : a.lt b = true) : a ≠ b := fun same => by
  rw [same, Address.lt_irrefl] at h
  cases h

/-! ### Lookup by address (R62) -/

/-- The entries' addresses ascend. -/
def Ascending (es : List Entry) : Prop := es.Pairwise fun x y => x.address.lt y.address = true

theorem findExact_none {a : Address} {es : List Entry} (h : ∀ e ∈ es, e.address ≠ a) (k : Nat) : findExact a es k = none := by
  induction es generalizing k with
  | nil => rfl
  | cons e es ih => rw [findExact, if_neg (h e List.mem_cons_self), ih fun x hx => h x (List.mem_cons_of_mem _ hx)]

/-- The first entry with an address is found where no entry before it has it. -/
theorem findExact_append {a : Address} {before after : List Entry} {e : Entry} (h : ∀ x ∈ before, x.address ≠ a) (he : e.address = a)
    (k : Nat) : findExact a (before ++ e :: after) k = some (k + before.length) := by
  induction before generalizing k with
  | nil => simp [findExact, he]
  | cons x xs ih =>
    rw [List.cons_append, findExact, if_neg (h x List.mem_cons_self), ih fun y hy => h y (List.mem_cons_of_mem _ hy),
      List.length_cons]
    congr 1
    omega

/-- The index split at an address that no entry has: the entries below it, and those above. -/
structure SplitAt (a : Address) (es below above : List Entry) : Prop where
  split : es = below ++ above
  under : ∀ x ∈ below, x.address.lt a = true
  beyond  : ∀ y ∈ above, a.lt y.address = true

namespace SplitAt
variable {a : Address} {es below above : List Entry}

theorem not_found (h : SplitAt a es below above) (k : Nat) : findExact a es k = none := by
  refine findExact_none (fun e he => ?_) k
  rw [h.split, List.mem_append] at he
  rcases he with under | beyond
  · exact Address.ne_of_lt (h.under e under)
  · exact (Address.ne_of_lt (h.beyond e beyond)).symm

theorem countBelow (h : SplitAt a es below above) : Machine.countBelow a es = below.length := by
  have under : below.filter (fun e => e.address.lt a) = below := List.filter_eq_self.mpr h.under
  have beyond : above.filter (fun e => e.address.lt a) = [] := by
    simp only [List.filter_eq_nil_iff, Bool.not_eq_true]
    exact fun y hy => Address.lt_asymm (h.beyond y hy)
  rw [Machine.countBelow, h.split, List.filter_append, under, beyond, List.append_nil]

/-- The frame below the address, if there is one. -/
def frameBelow (below : List Entry) : Option Nat := if below.length = 0 then none else some (below.length - 1)

/-- An address below the last entry is not found. -/
theorem lookup_within {ix : Index} (h : SplitAt a ix.entries below above) (some_ : above ≠ []) (start : Address) :
    lookupAddress a start ix = .notFound (frameBelow below) := by
  have fewer : below.length < ix.count := by
    have := List.length_pos_of_ne_nil some_
    rw [Index.count, h.split, List.length_append]
    omega
  simp only [lookupAddress, h.not_found, h.countBelow, if_pos fewer, frameBelow]

/-- An address above every entry is BEYOND where the index can still come to it, and not found else. -/
theorem lookup_past {ix : Index} (h : SplitAt a ix.entries below []) {start : Address} {grows : Bool}
    (test : (ix.growing && (ix.count != 0 || !a.lt start)) = grows) :
    lookupAddress a start ix = if grows then .beyond (frameBelow below) else .notFound (frameBelow below) := by
  have all : ¬ below.length < ix.count := by
    rw [Index.count, h.split, List.append_nil]
    exact Nat.lt_irrefl _
  simp only [lookupAddress, h.not_found, h.countBelow, if_neg all, frameBelow, test]

end SplitAt

/-- With ascending addresses an entry's address is found at its frame. -/
theorem lookup_exact {ix : Index} (ascending : Ascending ix.entries) {n : Nat} {e : Entry} (h : ix.entries[n]? = some e)
    (start : Address) : lookupAddress e.address start ix = .found n := by
  obtain ⟨hn, he⟩ := List.getElem?_eq_some_iff.mp h
  have split : ix.entries = ix.entries.take n ++ e :: ix.entries.drop (n + 1) := by
    rw [← he, ← List.drop_eq_getElem_cons hn, List.take_append_drop]
  have found : findExact e.address ix.entries 0 = some n := by
    have earlier : ∀ x ∈ ix.entries.take n, x.address ≠ e.address := by
      have pairs := ascending
      rw [Ascending, split, List.pairwise_append] at pairs
      exact fun x hx => Address.ne_of_lt (pairs.2.2 x hx e List.mem_cons_self)
    have first := findExact_append (after := ix.entries.drop (n + 1)) earlier rfl 0
    rw [← split, List.length_take_of_le (Nat.le_of_lt hn), Nat.zero_add] at first
    exact first
  simp only [lookupAddress, found]

/-- The entries from one above the address on lie above it. -/
theorem Ascending.beyond {a : Address} {y : Entry} {ys : List Entry} (h : Ascending (y :: ys)) (hy : a.lt y.address = true) :
    ∀ x ∈ y :: ys, a.lt x.address = true := by
  intro x hx
  rcases List.mem_cons.mp hx with same | later
  · rwa [same]
  · exact Address.lt_trans hy ((List.pairwise_cons.mp h).1 x later)

/-- The entries up to one below the address lie below it. -/
theorem Ascending.under {a : Address} {x : Entry} {xs : List Entry} (h : Ascending (xs ++ [x])) (hx : x.address.lt a = true) :
    ∀ y ∈ xs ++ [x], y.address.lt a = true := by
  intro y hy
  rcases List.mem_append.mp hy with earlier | last
  · exact Address.lt_trans ((List.pairwise_append.mp h).2.2 y earlier x List.mem_cons_self) hx
  · rwa [List.mem_singleton.mp last]

/-- The entries split at an address between two neighbours. -/
theorem Ascending.splitAt_between {a : Address} {es : List Entry} (h : Ascending es) {n : Nat} {x y : Entry} (hx : es[n]? = some x)
    (hy : es[n + 1]? = some y) (under : x.address.lt a = true) (beyond : a.lt y.address = true) :
    SplitAt a es (es.take (n + 1)) (es.drop (n + 1)) where
  split := (List.take_append_drop _ _).symm
  under := by
    have last : es.take (n + 1) = es.take n ++ [x] := by rw [List.take_add_one, hx]; rfl
    have part : Ascending (es.take (n + 1)) := h.sublist (List.take_sublist _ _)
    rw [last] at part ⊢
    exact part.under under
  beyond := by
    obtain ⟨hn, hy⟩ := List.getElem?_eq_some_iff.mp hy
    have first : es.drop (n + 1) = y :: es.drop (n + 2) := by rw [List.drop_eq_getElem_cons hn, hy]
    have part : Ascending (es.drop (n + 1)) := h.sublist (List.drop_sublist _ _)
    rw [first] at part ⊢
    exact part.beyond beyond

/-- The entries split at an address below the first. -/
theorem Ascending.splitAt_first {a : Address} {es : List Entry} (h : Ascending es) {x : Entry} (hx : es.head? = some x)
    (beyond : a.lt x.address = true) : SplitAt a es [] es where
  split := rfl
  under := by simp
  beyond := by
    obtain ⟨xs, rfl⟩ := List.head?_eq_some_iff.mp hx
    exact h.beyond beyond

/-- The entries split at an address above the last. -/
theorem Ascending.splitAt_last {a : Address} {es : List Entry} (h : Ascending es) {x : Entry} (hx : es.getLast? = some x)
    (under : x.address.lt a = true) : SplitAt a es es [] where
  split := (List.append_nil _).symm
  under := by
    obtain ⟨xs, rfl⟩ := List.getLast?_eq_some_iff.mp hx
    exact h.under under
  beyond := by simp

/-! ### Wire forms (R196, R198) -/

theorem bitsOf_nil : bitsOf [] = 0 := rfl

theorem bitsOf_cons (b : Bool) (bs : List Bool) : bitsOf (b :: bs) = b.toNat + 2 * bitsOf bs := by cases b <;> rfl

/-- The flags field of an entry, bit by bit (R198). -/
theorem EntryFlags.bits_eq (f : EntryFlags) : f.bits = f.noMark.toNat + 2 * f.multiMark.toNat + 4 * f.markLong.toNat +
    8 * f.markDispute.toNat + 16 * f.pitchOdd.toNat + 32 * f.pitchClamp.toNat + 64 * f.gapBefore.toNat + 128 * f.splice.toNat +
    256 * f.spliceUnlisted.toNat + 512 * f.noise.toNat + 1024 * f.overlong.toNat + 2048 * f.rescanned.toNat +
    4096 * f.focusWeak.toNat := by
  simp only [EntryFlags.bits, bitsOf_cons, bitsOf_nil]
  ring

theorem entriesFrom_eq (n : Nat) (es : List Entry) :
    entriesFrom n es = (es.zipIdx n).flatMap fun x => entryBytes x.2 x.1 := by
  induction es generalizing n with
  | nil => rfl
  | cons e es ih => rw [entriesFrom, ih, List.zipIdx_cons, List.flatMap_cons]

end Sys2Proof.Machine

open Sys2Proof Sys2Proof.Machine

/-- Settles O23: GET_ENTRIES by whether frame n exists, FIND_ADDRESS by where the address splits the ascending entries. -/
theorem indexRead : Obligations.IndexRead := by
  unfold Obligations.IndexRead
  intro l tag s
  refine ⟨fun listens => ⟨fun n count frame some_ few => ?_, fun b d p a hb hd hp ha ascending => ?_⟩, entriesFrom_eq, fun n e => ?_,
    fun n sg hsg => ?_, wire_two _ |>.symm, wire_three _ |>.symm, fun n => (wire_one n).symm⟩
  · rw [exec_getEntries listens tag frame some_ few]
    refine ⟨fun held => ?_, fun past => ?_⟩
    · simp [getEntries, Index.count, Nat.not_le.mpr held, Config.segmentSize]
    · simp [getEntries, Index.count, past]
  · rw [exec_findAddress listens tag hb hd hp, ← ha]
    refine ⟨fun n e at_ same => ?_, fun x first beyond => ?_, fun n x y atx aty under beyond => ?_, fun n e last count under => ?_,
      fun none_ => ?_⟩
    · subst same
      simp [findAddress, lookup_exact ascending at_, at_, Index.count]
    · have split := Ascending.splitAt_first ascending first beyond
      have some_ : s.index.entries ≠ [] := fun none_ => by simp [none_] at first
      have lookup := split.lookup_within some_ s.transport.profile.startAddress
      simp [findAddress, lookup, Index.count, SplitAt.frameBelow, opt16, be16]
    · have split := Ascending.splitAt_between ascending atx aty under beyond
      obtain ⟨hn, -⟩ := List.getElem?_eq_some_iff.mp aty
      have lookup := split.lookup_within (by simp [hn]) s.transport.profile.startAddress
      have below : SplitAt.frameBelow (s.index.entries.take (n + 1)) = some n := by
        simp [SplitAt.frameBelow, Nat.min_eq_left (Nat.le_of_lt hn)]
      simp [findAddress, lookup, below, Index.count, opt16]
    · have split := Ascending.splitAt_last ascending last under
      have below : SplitAt.frameBelow s.index.entries = some n := by simp [SplitAt.frameBelow, count]
      refine ⟨fun grows => ?_, fun ended => ?_⟩
      · have lookup := split.lookup_past (start := s.transport.profile.startAddress) (grows := true) (by
          simp [Index.growing, grows, Index.count, count])
        simp [findAddress, lookup, below, Index.count, opt16]
      · have lookup := split.lookup_past (start := s.transport.profile.startAddress) (grows := false) (by
          rcases ended with h | h | h <;> simp [Index.growing, h])
        simp [findAddress, lookup, below, Index.count, opt16]
    · have split : SplitAt a s.index.entries [] [] := ⟨none_, by simp, by simp⟩
      have held : s.index.count = 0 := by rw [Index.count, none_]; rfl
      refine ⟨fun grows from_ => ?_, fun settled => ?_⟩
      · have lookup := split.lookup_past (start := s.transport.profile.startAddress) (grows := true) (by
          rcases grows with h | h <;> simp [Index.growing, h, from_])
        simp [findAddress, lookup, held, SplitAt.frameBelow, opt16, be16]
      · have lookup := split.lookup_past (start := s.transport.profile.startAddress) (grows := false) (by
          rcases settled with h | h | h | h <;> simp [Index.growing, h, held])
        simp [findAddress, lookup, held, SplitAt.frameBelow, opt16, be16]
  · simp only [entryBytes, addressBytes, wire_one, wire_two, wire_three, wireOpt_two, EntryFlags.bits_eq, List.append_assoc]
  · simp only [segmentRecord, segmentBytes, hsg, Option.getD_some, wire_one, wire_two, wireFlag_eq]

end
section
/-! PROOFS. Segments verified and unverified. -/

namespace Sys2Proof.Machine

/-- The segment record put for VERIFY_SEGMENT (R66). -/
def Segment.verifiedBy (l : LinkId) (held : Nat) : Segment := { verified := true, link := some l, verifiedAt := held }

theorem segmentEntries_eq (ix : Index) (n : Nat) : ix.segmentEntries n = min 256 (ix.entries.length - 256 * n) := rfl

theorem segmentComplete_iff {n : Nat} {ix : Index} : segmentComplete n ix = true ↔ ix.segmentEntries n = 256 ∨
    0 < ix.segmentEntries n ∧ (ix.state = .complete ∨ ix.state = .frozenFull ∨ ix.state = .frozenAddress) := by
  simp [segmentComplete, Index.frozen, Config.segmentSize]

/-- An index that is COMPLETE or FROZEN neither is EMPTY nor grows (R58). -/
theorem IndexState.not_ended {st : IndexState} (h : st = .empty ∨ st = .growing) :
    ¬(st = .complete ∨ st = .frozenFull ∨ st = .frozenAddress) := by
  rcases h with rfl | rfl <;> decide

theorem verifySegment_incomplete {n : Nat} {s : State} (h : segmentComplete n s.index = false) (l : LinkId) :
    verifySegment l n s = refuse .incomplete s := by simp [verifySegment, h]

section
variable {n : Nat} {sg : Segment} {s : State} (held : s.index.segments[n]? = some sg)
include held

theorem verifySegment_notOwner (complete : segmentComplete n s.index = true) (verified : sg.verified = true) {k l : LinkId}
    (owner : sg.link = some k) (other : k ≠ l) : verifySegment l n s = refuse .notOwner s := by
  simp [verifySegment, complete, held, verified, owner, other]

theorem verifySegment_ok (complete : segmentComplete n s.index = true) {l : LinkId}
    (free : sg.verified = false ∨ sg.link = none ∨ sg.link = some l) : verifySegment l n s =
      { state := putSegment n (.verifiedBy l (s.index.segmentEntries n)) s, result := .ok,
        data := segmentBytes n (.verifiedBy l (s.index.segmentEntries n)) } := by
  have own : (sg.verified && sg.link.any fun k => k != l) = false := by rcases free with h | h | h <;> simp [h]
  simp [verifySegment, complete, held, own, Segment.verifiedBy]

theorem unverifySegment_wrongState (free : s.pins.levels.protectKey = false) (unverified : sg.verified = false) (l : LinkId) :
    unverifySegment l n s = refuse .wrongState s := by simp [unverifySegment, free, held, unverified]

theorem unverifySegment_notOwner (free : s.pins.levels.protectKey = false) (verified : sg.verified = true) {k l : LinkId}
    (owner : sg.link = some k) (other : k ≠ l) : unverifySegment l n s = refuse .notOwner s := by
  simp [unverifySegment, free, held, verified, owner, other]

theorem unverifySegment_ok (free : s.pins.levels.protectKey = false) (verified : sg.verified = true) {l : LinkId}
    (own : sg.link = none ∨ sg.link = some l) :
    unverifySegment l n s = { state := putSegment n {} s, result := .ok, data := segmentBytes n {} } := by
  have mine : (sg.link.any fun k => k != l) = false := by rcases own with h | h <;> simp [h]
  simp [unverifySegment, free, held, verified, mine]

end

theorem unverifySegment_guarded {s : State} (protect : s.pins.levels.protectKey = true) (l : LinkId) (n : Nat) :
    unverifySegment l n s = refuse .guarded s := by simp [unverifySegment, protect]

end Sys2Proof.Machine

open Sys2Proof Sys2Proof.Machine

/-- Settles O27: the checks in order, each a case of the request's one operation. -/
theorem segmentsVerified : Obligations.SegmentsVerified := by
  unfold Obligations.SegmentsVerified
  intro l tag seg lv sg held s listens hseg record entries
  rw [← segmentEntries_eq] at entries
  rw [exec_verifySegment listens tag hseg, exec_unverifySegment listens tag hseg lv]
  have record' : (takeLevels lv s).index.segments[seg.toNat]? = some sg := record
  refine ⟨fun few ended => ?_, fun full => ?_, fun protect => ?_, fun free unverified => ?_, fun k free verified owner other => ?_,
    fun free verified own => ?_⟩
  · have incomplete : segmentComplete seg.toNat s.index = false := by
      rw [← Bool.not_eq_true, segmentComplete_iff, ← entries]
      rintro (whole | ⟨some_, state⟩)
      · omega
      · rcases ended with none_ | grows
        · omega
        · exact IndexState.not_ended grows state
    rw [verifySegment_incomplete incomplete]
    rfl
  · have complete : segmentComplete seg.toNat s.index = true := segmentComplete_iff.mpr (entries ▸ full)
    refine ⟨fun k verified owner other => ?_, fun free sg' hsg' => ?_⟩
    · rw [verifySegment_notOwner record complete verified owner other]
      rfl
    · rw [verifySegment_ok record complete free, ← entries, hsg']
      rfl
  · rw [unverifySegment_guarded (s := takeLevels lv s) protect]
    rfl
  · rw [unverifySegment_wrongState record' free unverified]
    rfl
  · rw [unverifySegment_notOwner record' free verified owner other]
    rfl
  · rw [unverifySegment_ok record' free verified own]
    exact ⟨_, rfl, rfl⟩

end

section
/-! PROOFS. TRUNCATE_INDEX: its checks, the removal, and the tracker on the new last entry. -/

namespace Sys2Proof.Machine

/-! ### The checks (R70) -/

/-- A verified segment of the list that holds entries reaches frame n or above (R70 check 4). -/
theorem verifiedReaches_of_mem {n count : Nat} {segs : List Segment} {i : Nat} {sg : Segment} (h : segs[i]? = some sg)
    (verified : sg.verified = true) (below : n < count) (k : Nat) (holds : 256 * (k + i) < count) (reaches : n < 256 * (k + i + 1)) :
    verifiedReaches n count k segs = true := by
  induction segs generalizing i k with
  | nil => simp at h
  | cons x xs ih =>
    cases i with
    | zero =>
      cases h
      simp [verifiedReaches, verified, Config.segmentSize, below, show 256 * k < count from holds,
        show n < 256 * (k + 1) from reaches]
    | succ i =>
      have later := ih (by simpa using h) (k + 1) (by omega) (by omega)
      simp [verifiedReaches, later]

theorem verifiedReaches_none {segs : List Segment} (h : ∀ sg ∈ segs, sg.verified = false) (n count k : Nat) :
    verifiedReaches n count k segs = false := by
  induction segs generalizing k with
  | nil => rfl
  | cons x xs ih =>
    simp [verifiedReaches, h x List.mem_cons_self, ih (fun sg hsg => h sg (List.mem_cons_of_mem _ hsg))]

theorem reaches_some {n k : Nat} (h : n ≤ k) : reaches n (some k) = true := by simpa [reaches] using h

/-- What of an open job holds a frame at or above n (R70 check 5). -/
theorem jobReaches_of_body {n : Nat} {s : State} {j : Job} (opened : j.isOpen = true)
    (h : (∃ t o p k, j.body = .seek t (some k) o p ∧ n ≤ k) ∨
      (∃ is, j.body = .fetch is ∧ ∃ i ∈ is, ∃ k, i.resolved = some k ∧ n ≤ k) ∨
      (∃ r, j.body = .sweep r ∧ (r.endFrame = some .rollEnd ∨ ∃ k, n ≤ k ∧
        (r.fromFrame = some k ∨ r.nextFrame = some k ∨ r.endFrame = some (.frame k) ∨
          ∃ fs, s.capture.revisitOf j.number = some fs ∧ k ∈ fs)))) : jobReaches n s j = true := by
  rcases h with ⟨t, o, p, k, body, above⟩ | ⟨is, body, i, hi, k, resolved, above⟩ | ⟨r, body, h⟩
  · simp [jobReaches, opened, body, reaches_some above]
  · simp only [jobReaches, opened, body, Bool.true_and, List.any_eq_true]
    exact ⟨i, hi, by rw [resolved, reaches_some above]⟩
  · rcases h with rollEnd | ⟨k, above, from_ | next | end_ | ⟨fs, list, hk⟩⟩
    · simp [jobReaches, opened, body, rollEnd]
    · simp [jobReaches, opened, body, from_, reaches_some above]
    · simp [jobReaches, opened, body, next, reaches_some above]
    · simp [jobReaches, opened, body, end_, above]
    · have listed : (fs.any fun f => n ≤ f) = true := by
        rw [List.any_eq_true]
        exact ⟨k, hk, by simpa using above⟩
      simp [jobReaches, opened, body, list, listed]

theorem jobReaches_closed {s : State} (h : ∀ j ∈ s.jobs.slots, j.isOpen = false) (n : Nat) : s.jobs.slots.any (jobReaches n s) = false := by
  rw [List.any_eq_false]
  intro j hj
  simp [jobReaches, h j hj]

/-- The ring or the outstanding trigger holds a frame at or above n (R70 check 6). -/
theorem capturesReach_of_held {n : Nat} {c : Capture} (h : (∃ r ∈ c.ring, n ≤ r.frame) ∨
    (∃ lim shot, c.outstanding = some (.capture lim shot) ∧ n ≤ shot.trigger.frame)) : capturesReach n c = true := by
  rcases h with ⟨r, hr, above⟩ | ⟨lim, shot, outstanding, above⟩
  · have held : (c.ring.any fun r => n ≤ r.frame) = true := by
      rw [List.any_eq_true]
      exact ⟨r, hr, by simpa using above⟩
    simp [capturesReach, held]
  · simp [capturesReach, outstanding, above]

theorem capturesReach_empty {c : Capture} (ring : c.ring = []) (outstanding : c.outstanding = none) (n : Nat) :
    capturesReach n c = false := by simp [capturesReach, ring, outstanding]

theorem rescanHeld_of_tracker {s : State} (h : (∃ q ∈ s.arbiter.queue, q.requester = .tracker) ∨
    (∃ c, s.arbiter.current = some c ∧ c.requester = .tracker)) : rescanHeld s = true := by
  rcases h with ⟨q, hq, own⟩ | ⟨c, current, own⟩
  · have entry : (s.arbiter.entryOf .tracker).isSome = true := by
      rw [Arbiter.entryOf, List.find?_isSome]
      exact ⟨q, hq, by simp [own]⟩
    simp [rescanHeld, entry]
  · simp [rescanHeld, current, own]

section
variable {n : Nat} {s : State}

theorem truncateIndex_refused {r : Result} (h : truncateCheck n s = r) (refused : r ≠ .ok) : truncateIndex n s = refuse r s := by
  unfold truncateIndex
  rw [h]
  split
  · exact absurd rfl refused
  · rfl

theorem truncateIndex_accepted {e : Entry} (h : truncateCheck n s = .ok) (at_ : s.index.entries[n]? = some e) :
    truncateIndex n s = { state := settleBlocks (truncateAt n s), result := .ok, data := be16 n ++ be24 e.low } := by
  unfold truncateIndex
  rw [h, at_]
  rfl

variable (free : s.pins.levels.protectKey = false) (held : n < s.index.entries.length)
include free held

theorem truncateCheck_verified (verified : verifiedReaches n s.index.count 0 s.index.segments = true) : truncateCheck n s = .guarded := by
  simp [truncateCheck, free, Index.count, Nat.not_le.mpr held, show verifiedReaches n s.index.entries.length 0 _ = true from verified]

variable (unverified : ∀ sg ∈ s.index.segments, sg.verified = false)
include unverified

theorem truncateCheck_jobs (h : s.jobs.slots.any (jobReaches n s) = true) : truncateCheck n s = .inUse := by
  simp only [truncateCheck, free, Index.count, Nat.not_le.mpr held, verifiedReaches_none unverified, h]
  rfl

variable (closed : ∀ j ∈ s.jobs.slots, j.isOpen = false)
include closed

theorem truncateCheck_captures (h : capturesReach n s.capture = true) : truncateCheck n s = .inUse := by
  simp only [truncateCheck, free, Index.count, Nat.not_le.mpr held, verifiedReaches_none unverified, jobReaches_closed closed, h]
  rfl

variable (ring : s.capture.ring = []) (outstanding : s.capture.outstanding = none)
include ring outstanding

theorem truncateCheck_idle : truncateCheck n s = if s.tracker.mode = .indexing ∨ rescanHeld s = true then .busy else .ok := by
  simp only [truncateCheck, free, Index.count, Nat.not_le.mpr held, verifiedReaches_none unverified, jobReaches_closed closed,
    capturesReach_empty ring outstanding]
  rfl

end

/-! ### The removal (R53, R59, R71, R93) -/

theorem openJob_closed {s : State} (h : ∀ j ∈ s.jobs.slots, j.isOpen = false) (n : Nat) : openJob n s = none := by
  rw [openJob, List.find?_eq_none]
  intro j hj
  simp [h j hj]

/-- With no open job no job tries again. -/
theorem retryJobs_closed {s : State} (h : ∀ j ∈ s.jobs.slots, j.isOpen = false) : retryJobs s = s := by
  unfold retryJobs
  induction jobNumbers s with
  | nil => rfl
  | cons n ns ih =>
    have same : retryJob false n s = s := by simp [retryJob, openJob_closed h]
    rw [List.foldl_cons, same, ih]

/-- With no open job a change of index state is all there is, but for the notice. -/
theorem setIndexState_closed (st : IndexState) {s : State} (h : ∀ j ∈ s.jobs.slots, j.isOpen = false) :
    OnlyLinks (s.onIndex fun ix => { ix with state := st }) (setIndexState st s) := by
  unfold setIndexState
  split
  · next same => subst same; rfl
  · rw [retryJobs_closed (s := raise .indexProgress (s.onIndex fun ix => { ix with state := st })) h]
    rfl

/-- The film at rest keeps the tracker out of INDEXING: the mode becomes IDLE, with the pass under way ended (R28). -/
theorem refreshMode_still_film {s : State} (h : s.transport.state ≠ .moving) (mode : s.tracker.mode ≠ .indexing) :
    refreshMode s = s ∨ refreshMode s = newPass (s.onTracker fun t => { t with mode := .idle }) := by
  have idle (u : State) (hu : u.transport.state ≠ .moving) : modeNow u = .idle := by simp [modeNow, hu]
  have again (u : State) (hu : u.transport.state ≠ .moving) (hm : u.tracker.mode = .idle) : setMode (modeNow u) u = u := by
    rw [idle u hu, setMode, if_pos hm]
  unfold refreshMode
  by_cases same : s.tracker.mode = .idle
  · exact .inl (by dsimp only; rw [again s h same, again s h same])
  · have first : setMode (modeNow s) s = newPass (s.onTracker fun t => { t with mode := .idle }) := by
      rw [idle s h, setMode, if_neg same, if_neg mode]
    exact .inr (by dsimp only; rw [first]; exact again _ h rfl)

/-- The tracker realigned on the last entry of an index (R53). -/
def Tracker.realigned (p : Profile) (last : Option Entry) (t : Tracker) : Tracker :=
  { t with eLast := last.map (·.low), counters := last.map (·.address), candidate := none, parked := none, missAccepted := false,
           budget := p.rescanLimit, pendingNoise := false, pendingSplice := false, lastByPitchMax := false }

theorem realign_eq (s : State) : realign s = s.onTracker (.realigned s.transport.profile s.index.entries.getLast?) := rfl

/-- The index cut at frame n, whose low edge becomes the frontier (R71). -/
def Index.cutAt (n frontier : Nat) (ix : Index) : Index :=
  { ix with entries := ix.entries.take n, state := .growing, frontier := frontier,
            lastDispute := if ix.lastDispute.any fun d => n ≤ d.frame then none else ix.lastDispute }

/-- The state after the removal and the realignment, before the tracker's mode is set again. -/
def cutTo (n : Nat) (s : State) : State :=
  realign (setIndexState .growing (raise .indexProgress ((removeEntries n s).onIndex fun ix =>
    { ix with frontier := ((s.index.entries[n]?).map (·.low)).getD s.index.frontier })))

theorem truncateAt_eq (n : Nat) (s : State) : truncateAt n s =
    if (cutTo n s).index.frontier < (cutTo n s).transport.position ∧ mayIndex (cutTo n s) then enterIndexing (cutTo n s)
    else refreshMode (cutTo n s) := rfl

/-- The last miss after a cut at frame n (R93). -/
def Capture.cutAt (n : Nat) (c : Capture) : Capture :=
  { c with lastMiss := c.lastMiss.filter fun m => m.1 < n }

theorem trimLastMiss_eq {n : Nat} {s : State} (h : s.index.count = n) : trimLastMiss s = s.onCapture (.cutAt n) := by
  unfold trimLastMiss
  rw [h]
  simp only [State.onCapture]
  generalize s.capture = c
  obtain ⟨_, _, _, _, _, _, _, _, _, miss⟩ := c
  rcases miss with _ | ⟨k, why⟩
  · rfl
  · by_cases removed : n ≤ k <;> simp [Capture.cutAt, Option.filter, removed]

theorem removeEntries_eq {n : Nat} {s : State} (held : n < s.index.entries.length) : removeEntries n s =
    { s with index := { s.index with entries := s.index.entries.take n, lastDispute :=
               if s.index.lastDispute.any fun d => n ≤ d.frame then none else s.index.lastDispute },
             capture := s.capture.cutAt n } :=
  trimLastMiss_eq (List.length_take_of_le (Nat.le_of_lt held))

/-- The removal with no open job: index, last miss and tracker, and the notices raised (R53, R71). -/
theorem cutTo_closed {n : Nat} {e : Entry} {s : State} (h : s.index.entries[n]? = some e) (closed : ∀ j ∈ s.jobs.slots, j.isOpen = false) :
    OnlyLinks { s with index := s.index.cutAt n e.low, capture := s.capture.cutAt n,
                       tracker := s.tracker.realigned s.transport.profile (s.index.entries.take n).getLast? } (cutTo n s) := by
  obtain ⟨held, -⟩ := List.getElem?_eq_some_iff.mp h
  have state := setIndexState_closed .growing (s := raise .indexProgress ((removeEntries n s).onIndex fun ix =>
    { ix with frontier := ((s.index.entries[n]?).map (·.low)).getD s.index.frontier })) closed
  unfold OnlyLinks at *
  rw [cutTo, realign_eq, state, removeEntries_eq held, h]
  rfl

/-- An accepted truncation with no open job and the film not moving (R53, R71). -/
theorem truncateAt_closed {n : Nat} {e : Entry} {s : State} (h : s.index.entries[n]? = some e)
    (closed : ∀ j ∈ s.jobs.slots, j.isOpen = false) (state : s.transport.state ≠ .moving) (mode : s.tracker.mode ≠ .indexing) :
    ∃ t : Tracker, truncateAt n s = { s with index := s.index.cutAt n e.low, capture := s.capture.cutAt n, tracker := t,
                                             links := (truncateAt n s).links } ∧
      (t = s.tracker.realigned s.transport.profile (s.index.entries.take n).getLast? ∨
        t = { s.tracker.realigned s.transport.profile (s.index.entries.take n).getLast? with
          mode := .idle, openMark := none, unmatchedRun := 0, passStart := s.transport.position, matched := [], gathering := [] }) := by
  have cut := cutTo_closed h closed
  have resting : (cutTo n s).transport.state ≠ .moving := by rw [cut]; exact state
  have away : (cutTo n s).tracker.mode ≠ .indexing := by rw [cut]; exact mode
  have stays : mayIndex (cutTo n s) = false := by simp [mayIndex, resting]
  rw [truncateAt_eq, if_neg (by simp [stays])]
  rcases refreshMode_still_film resting away with same | idle
  · exact ⟨_, by rw [same]; exact cut, .inl rfl⟩
  · refine ⟨_, ?_, .inr rfl⟩
    rw [idle, cut]
    rfl

end Sys2Proof.Machine

open Sys2Proof Sys2Proof.Machine

/-- Settles O28: the checks in order, and what an accepted truncation leaves. -/
theorem indexTruncated : Obligations.IndexTruncated := by
  unfold Obligations.IndexTruncated
  intro l tag n lv e s refused listens frame hrefused
  have refuses {r : Result} (check : truncateCheck n.toNat (takeLevels lv s) = r) (hr : r ≠ .ok) : refused r := by
    rw [hrefused, exec_truncateIndex listens tag frame lv, truncateIndex_refused check hr]
    rfl
  refine ⟨fun protect => ?_, fun free above => ?_, fun free held => ⟨fun k sg hsg verified holds reaches => ?_, fun unverified =>
    ⟨fun j hj opened holds => ?_, fun closed => ⟨fun holds => ?_, fun ring outstanding held' => ?_⟩⟩⟩,
    fun free at_ unverified closed ring outstanding mode queue current state => ?_⟩
  · exact refuses (by simp [truncateCheck, takeLevels, protect]) (by decide)
  · exact refuses (by simp [truncateCheck, takeLevels, free, Index.count, above]) (by decide)
  · refine refuses (truncateCheck_verified (s := takeLevels lv s) free held ?_) (by decide)
    exact verifiedReaches_of_mem hsg verified held 0 (by simpa using holds) (by simpa using reaches)
  · refine refuses (truncateCheck_jobs (s := takeLevels lv s) free held unverified ?_) (by decide)
    exact List.any_eq_true.mpr ⟨j, hj, jobReaches_of_body opened holds⟩
  · exact refuses (truncateCheck_captures (s := takeLevels lv s) free held unverified closed (capturesReach_of_held holds)) (by decide)
  · refine refuses ((truncateCheck_idle (s := takeLevels lv s) free held unverified closed ring outstanding).trans (if_pos ?_)) (by decide)
    exact held'.imp id fun own => rescanHeld_of_tracker (s := takeLevels lv s) own
  · obtain ⟨held, -⟩ := List.getElem?_eq_some_iff.mp at_
    have accepted : truncateCheck n.toNat (takeLevels lv s) = .ok := by
      rw [truncateCheck_idle (s := takeLevels lv s) free held unverified closed ring outstanding, if_neg]
      simp [rescanHeld, takeLevels, mode, queue, current, Arbiter.entryOf]
    obtain ⟨t, cut, tracker⟩ := truncateAt_closed (s := takeLevels lv s) at_ closed state mode
    refine ⟨truncateAt n.toNat (takeLevels lv s), ?_, ?_⟩
    · rw [exec_truncateIndex listens tag frame lv, truncateIndex_accepted (s := takeLevels lv s) accepted at_]
    · rw [cut]
      refine ⟨rfl, rfl, rfl, fun k why miss => ?_, ?_⟩
      · simp [Capture.cutAt, takeLevels, miss, Option.filter]
      · rcases tracker with rfl | rfl <;> exact ⟨rfl, rfl, rfl, rfl, rfl, rfl, rfl, rfl, rfl, rfl⟩

end

section
/-! SUPPORT. What a camera answer is filed in, and which operations of jobs and arbiter leave it alone (R96, R103): one lemma per
operation, at the stronger of two levels. `station`: the index, the handshake, answer_lock, the outstanding record and the ring, with the
held capture and capture_hold. `station.filing`: the first five. -/

namespace Sys2Proof.Machine

/-- The index, the handshake, answer_lock, the outstanding record and the ring. -/
structure Filing where
  index       : Index
  handshake   : Handshake
  answerLock  : Bool
  outstanding : Option Outstanding
  ringHead    : Nat
  ring        : List CaptureRecord

/-- With them the held capture and capture_hold. -/
structure Station where
  filing      : Filing
  holding     : Option Stationary
  captureHold : Bool

/-- What most operations of jobs and arbiter keep. -/
def State.station (s : State) : Station where
  filing := { index := s.index, handshake := s.capture.handshake, answerLock := s.capture.answerLock,
              outstanding := s.capture.outstanding, ringHead := s.capture.ringHead, ring := s.capture.ring }
  holding := s.capture.holding
  captureHold := s.arbiter.captureHold

/-! ### Updates of one block -/

@[simp] theorem onTransport_station (f : Transport → Transport) (s : State) : (s.onTransport f).station = s.station := rfl
@[simp] theorem onFocus_station (f : Focus → Focus) (s : State) : (s.onFocus f).station = s.station := rfl
@[simp] theorem onJobs_station (f : Jobs → Jobs) (s : State) : (s.onJobs f).station = s.station := rfl
@[simp] theorem onLink_station (l : LinkId) (f : LinkUnit → LinkUnit) (s : State) : (s.onLink l f).station = s.station := rfl
@[simp] theorem onArbiter_filing (f : Arbiter → Arbiter) (s : State) : (s.onArbiter f).station.filing = s.station.filing := rfl
@[simp] theorem onArbiter_station {f : Arbiter → Arbiter} {s : State} (h : (f s.arbiter).captureHold = s.arbiter.captureHold) :
    (s.onArbiter f).station = s.station := by simp [State.station, h]

/-! ### Operations -/

@[simp] theorem driveOff_station (s : State) : (driveOff s).station = s.station := rfl
@[simp] theorem stopMove_station (s : State) : (stopMove s).station = s.station := by unfold stopMove; (repeat' split) <;> simp
@[simp] theorem disarm_station (s : State) : (disarm s).station = s.station := rfl
@[simp] theorem armTrigger_station (a : Armed) (s : State) : (armTrigger a s).station = s.station := rfl
@[simp] theorem unarm_station (frame : Nat) (s : State) : (unarm frame s).station = s.station := rfl
@[simp] theorem modifyRevisit_station (n : Nat) (f : List Nat → List Nat) (s : State) : (modifyRevisit n f s).station = s.station := rfl
@[simp] theorem discardRevisit_station (n : Nat) (s : State) : (discardRevisit n s).station = s.station := rfl
@[simp] theorem modifyJob_station (n : Nat) (f : Job → Job) (s : State) : (modifyJob n f s).station = s.station := rfl
@[simp] theorem modifySweep_station (n : Nat) (f : SweepRec → SweepRec) (s : State) : (modifySweep n f s).station = s.station := rfl
@[simp] theorem modifyItems_station (n : Nat) (f : List Item → List Item) (s : State) : (modifyItems n f s).station = s.station := rfl
@[simp] theorem modifyItem_station (n k : Nat) (f : Item → Item) (s : State) : (modifyItem n k f s).station = s.station := rfl
@[simp] theorem setJobState_station (n : Nat) (st : JobState) (s : State) : (setJobState n st s).station = s.station := rfl
@[simp] theorem advanceSweep_station (n frame : Nat) (s : State) : (advanceSweep n frame s).station = s.station := rfl
@[simp] theorem setRollClaim_station (v : Bool) (s : State) : (setRollClaim v s).station = s.station := rfl
@[simp] theorem queueJobDone_station (l : LinkId) (n : Nat) (s : State) : (queueJobDone l n s).station = s.station := rfl
@[simp] theorem dropSearchStop_station (a : Armed) (s : State) : (dropSearchStop a s).station = s.station := rfl
@[simp] theorem clearCurrent_station (s : State) : (clearCurrent s).station = s.station :=
  onArbiter_station (by unfold Arbiter.clearCurrent; split <;> rfl)
@[simp] theorem disarmRun_station (c : Current) (s : State) : (disarmRun c s).station = s.station := by
  unfold disarmRun; split <;> simp
@[simp] theorem askStop_station (why : StopCause) (s : State) : (askStop why s).station = s.station := by
  unfold askStop; (repeat' split) <;> simp
@[simp] theorem dropCurrent_station (s : State) : (dropCurrent s).station = s.station := by
  unfold dropCurrent; (repeat' split) <;> simp
theorem dropInterrupted_captureHold (a : Arbiter) : a.dropInterrupted.captureHold = a.captureHold := by
  unfold Arbiter.dropInterrupted; split <;> rfl
@[simp] theorem withdraw_station (r : Requester) (s : State) : (withdraw r s).station = s.station := by
  have removed : (s.onArbiter fun a => if a.interrupted = some r then (a.remove r).dropInterrupted else a.remove r).station =
      s.station := onArbiter_station (by
    split
    · exact dropInterrupted_captureHold _
    · rfl)
  unfold withdraw
  dsimp only
  split
  · rw [dropCurrent_station, removed]
  · exact removed
@[simp] theorem suspendTest_station (s : State) : (suspendTest s).station = s.station := by
  unfold suspendTest; (repeat' split) <;> simp
@[simp] theorem yieldTest_station (s : State) : (yieldTest s).station = s.station := by unfold yieldTest; (repeat' split) <;> simp
@[simp] theorem place_station (e : QEntry) (s : State) : (s.onArbiter fun a => a.place e).station = s.station :=
  onArbiter_station (place_captureHold e s.arbiter)
@[simp] theorem submit_station (r : Requester) (cls : QClass) (k : QKind) (frame : Option Nat) (s : State) :
    (submit r cls k frame s).station = s.station := by
  unfold submit
  dsimp only
  split
  · rw [yieldTest_station]
    split <;> simp
  · have moved (f : QEntry → QEntry) : (s.onArbiter fun a => a.modifyEntry r f).station = s.station := onArbiter_station rfl
    rw [yieldTest_station]
    (repeat' split) <;> simp [moved]
@[simp] theorem submitJob_station (n : Nat) (k : QKind) (frame : Option Nat) (s : State) :
    (submitJob n k frame s).station = s.station := by
  unfold submitJob; split <;> simp
@[simp] theorem ensureIndex_station (n : Nat) (s : State) : (ensureIndex n s).station = s.station := by
  unfold ensureIndex; split <;> simp
@[simp] theorem endJob_station (n : Nat) (st : JobState) (why : EndReason) (s : State) : (endJob n st why s).station = s.station := by
  unfold endJob; (repeat' split) <;> simp
@[simp] theorem fetchChoose_station (n : Nat) (s : State) : (fetchChoose n s).station = s.station := by
  unfold fetchChoose; (repeat' split) <;> simp
@[simp] theorem endSweep_station (n : Nat) (s : State) : (endSweep n s).station = s.station := by unfold endSweep; split <;> simp
@[simp] theorem revisitNext_station (n : Nat) (s : State) : (revisitNext n s).station = s.station := by
  unfold revisitNext; split <;> simp
@[simp] theorem sweepChoose_station (n : Nat) (s : State) : (sweepChoose n s).station = s.station := by
  unfold sweepChoose; dsimp only; (repeat' split) <;> simp
@[simp] theorem sweepDecide_station (n : Nat) (s : State) : (sweepDecide n s).station = s.station := by
  unfold sweepDecide; split <;> simp
@[simp] theorem jobCaptureEnded_station (a : Armed) (o : ItemOutcome) (s : State) : (jobCaptureEnded a o s).station = s.station := by
  unfold jobCaptureEnded; dsimp only; (repeat' split) <;> simp
@[simp] theorem jobDoneFiled_station (a : Armed) (s : State) : (jobDoneFiled a s).station = s.station := by
  unfold jobDoneFiled; split <;> simp
@[simp] theorem offerRevisit_station (job frame : Nat) (s : State) : (offerRevisit job frame s).station = s.station := by
  unfold offerRevisit; (repeat' split) <;> simp
@[simp] theorem countSearchFrame_station (s : State) : (countSearchFrame s).station = s.station := by
  unfold countSearchFrame; split <;> simp

@[simp] theorem abandonSearch_station (s : State) : (abandonSearch s).station = s.station := by
  unfold abandonSearch; split <;> rfl

/-- A capture dropped for good gives up its hold, and is filed nowhere. -/
@[simp] theorem dropCaptures_filing (job : Nat) (s : State) : (dropCaptures job s).station.filing = s.station.filing := by
  have released (u : State) : (release ((disarm (abandonSearch u)).onCapture fun c => { c with holding := none })).station.filing =
      u.station.filing := by
    have kept := congrArg Station.filing (abandonSearch_station u)
    exact kept
  unfold dropCaptures
  dsimp only
  (repeat' split) <;> simp [released]

@[simp] theorem dropRepeat_filing (a : Armed) (s : State) : (dropRepeat a s).station.filing = s.station.filing := by
  unfold dropRepeat; dsimp only; (repeat' split) <;> simp

/-- The end of a held capture gives up the hold. -/
theorem endStationary_station (a : Armed) (o : ItemOutcome) (s : State) :
    (endStationary a o s).station = { s.station with holding := none, captureHold := false } := by
  have released (u : State) : (release u).station = { u.station with captureHold := false } := rfl
  unfold endStationary
  rw [jobCaptureEnded_station, released, countSearchFrame_station]
  rfl

/-- What the answer decides files nothing more. -/
@[simp] theorem captureDecides_filing (shot : CaptureShot) (o : CaptureOutcome) (s : State) :
    (captureDecides shot o s).station.filing = s.station.filing := by
  have retried (a : Armed) : (retryStationary a s).station.filing = s.station.filing := rfl
  unfold captureDecides
  (repeat' split) <;> simp [endStationary_station, retried]

end Sys2Proof.Machine
end


section
/-! SUPPORT. What the record of a job keeps while the job chooses its next motion or ends (R144 to R146, R151 to R153, R154). -/

namespace Sys2Proof.Machine

/-! ### An open sweep's record changed -/

/-- An open SWEEP with its record changed; any other job as it is. -/
def Job.mapSweep (f : SweepRec → SweepRec) (j : Job) : Job :=
  match j.body with
  | .sweep r => if j.isOpen then { j with body := .sweep (f r) } else j
  | _ => j

theorem Job.mapSweep_number (f : SweepRec → SweepRec) (j : Job) : (j.mapSweep f).number = j.number := by
  unfold Job.mapSweep; (repeat' split) <;> rfl

theorem modifySweep_eq (n : Nat) (f : SweepRec → SweepRec) (s : State) : modifySweep n f s = modifyJob n (Job.mapSweep f) s := rfl

theorem findJob_modifySweep {n : Nat} (f : SweepRec → SweepRec) {s : State} {j : Job} (h : findJob n s = some j) :
    findJob n (modifySweep n f s) = some (j.mapSweep f) := by
  rw [modifySweep_eq]
  exact findJob_modifyJob_same (fun j => j.mapSweep_number f) h

theorem findJob_modifySweep_open {n : Nat} (f : SweepRec → SweepRec) {s : State} {j : Job} {r : SweepRec} (h : findJob n s = some j)
    (opened : j.isOpen = true) (body : j.body = .sweep r) : findJob n (modifySweep n f s) = some { j with body := .sweep (f r) } := by
  simp [findJob_modifySweep f h, Job.mapSweep, opened, body]

/-! ### A job whose body has a property -/

/-- The job with a number is there, and its body has a property. -/
def HoldsBody (n : Nat) (B : JobBody → Prop) (s : State) : Prop := ∃ k, findJob n s = some k ∧ B k.body

/-- The item in a place of a FETCH has a property. -/
def itemHas (p : Nat) (Q : Item → Prop) : JobBody → Prop
  | .fetch is => ∃ i, is[p]? = some i ∧ Q i
  | _ => False

/-- The record of a SWEEP has a property. -/
def sweepHas (Q : SweepRec → Prop) : JobBody → Prop
  | .sweep r => Q r
  | _ => False

theorem itemHas_iff {p : Nat} {Q : Item → Prop} {b : JobBody} : itemHas p Q b ↔ ∃ is i, b = .fetch is ∧ is[p]? = some i ∧ Q i := by
  cases b <;> simp [itemHas]

theorem sweepHas_iff {Q : SweepRec → Prop} {b : JobBody} : sweepHas Q b ↔ ∃ r, b = .sweep r ∧ Q r := by
  cases b <;> simp [sweepHas]

/-- A property of a body that the choice of a job's next motion keeps, and the end of a job. -/
structure ChoiceKeeps (B : JobBody → Prop) : Prop where
  closed   : ∀ s b, B b → B (closeBody s b)
  runEnded : ∀ r o, B (.sweep r) → B (.sweep { r with runEnded := o })
  endFrame : ∀ r e, B (.sweep r) → B (.sweep { r with endFrame := e })
  chosen   : ∀ is k, B (.fetch is) → B (.fetch (is.modify k Item.chosen))
  released : ∀ is, B (.fetch is) → B (.fetch (is.map Item.released))

/-- A change of one item that keeps a property of the items keeps it in every place. -/
theorem itemHas_modify {p : Nat} {Q : Item → Prop} {is : List Item} {f : Item → Item} (hf : ∀ i, Q i → Q (f i)) (k : Nat)
    (h : itemHas p Q (.fetch is)) : itemHas p Q (.fetch (is.modify k f)) := by
  obtain ⟨i, at_, hi⟩ := h
  by_cases same : k = p
  · subst same
    exact ⟨f i, by simp [at_], hf i hi⟩
  · exact ⟨i, by simp [same, at_], hi⟩

theorem itemHas_keeps (p : Nat) {Q : Item → Prop} (h : ∀ i b, Q i → Q { i with inCapture := b }) : ChoiceKeeps (itemHas p Q) where
  closed s b hb := by cases b <;> exact hb
  runEnded _ _ hr := hr
  endFrame _ _ hr := hr
  chosen _ k his := itemHas_modify (fun i hi => h i true hi) k his
  released is his := by
    obtain ⟨i, at_, hi⟩ := his
    exact ⟨i.released, by simp [at_], h i false hi⟩

theorem sweepHas_keeps {Q : SweepRec → Prop} (runEnded : ∀ r o, Q r → Q { r with runEnded := o })
    (endFrame : ∀ r e, Q r → Q { r with endFrame := e }) : ChoiceKeeps (sweepHas Q) where
  closed s b hb := by cases b <;> exact hb
  runEnded := runEnded
  endFrame := endFrame
  chosen _ _ h := h
  released _ h := h

namespace HoldsBody
variable {n : Nat} {B : JobBody → Prop} {s t : State}

theorem congr (h : HoldsBody n B s) (jobs : t.jobs = s.jobs) : HoldsBody n B t := by
  obtain ⟨k, found, body⟩ := h
  exact ⟨k, (findJob_congr jobs n).trans found, body⟩

theorem modifySweep (h : HoldsBody n B s) {f : SweepRec → SweepRec} (hf : ∀ r, B (.sweep r) → B (.sweep (f r))) :
    HoldsBody n B (modifySweep n f s) := by
  obtain ⟨k, found, body⟩ := h
  refine ⟨_, findJob_modifySweep f found, ?_⟩
  unfold Job.mapSweep
  split
  · next r sweep =>
    split
    · exact hf r (sweep ▸ body)
    · exact body
  · exact body

theorem modifyItems (h : HoldsBody n B s) {f : List Item → List Item} (hf : ∀ is, B (.fetch is) → B (.fetch (f is))) :
    HoldsBody n B (modifyItems n f s) := by
  obtain ⟨k, found, body⟩ := h
  refine ⟨_, findJob_modifyItems_same f found, ?_⟩
  unfold Job.mapItems
  split
  · next is fetch =>
    split
    · exact hf is (fetch ▸ body)
    · exact body
  · exact body

theorem setJobState (h : HoldsBody n B s) (st : JobState) : HoldsBody n B (setJobState n st s) := by
  obtain ⟨k, found, body⟩ := h
  exact ⟨_, findJob_setJobState st found, body⟩

theorem submitJob (h : HoldsBody n B s) (k : QKind) (frame : Option Nat) : HoldsBody n B (submitJob n k frame s) :=
  h.congr (submitJob_jobs n k frame s)

theorem ensureIndex (h : HoldsBody n B s) : HoldsBody n B (ensureIndex n s) := h.congr (ensureIndex_jobs n s)

variable (keeps : ChoiceKeeps B)
include keeps

theorem endJob (h : HoldsBody n B s) (st : JobState) (why : EndReason) : HoldsBody n B (endJob n st why s) := by
  cases open_ : openJob n s with
  | none => rwa [Machine.endJob, open_]
  | some j =>
    obtain ⟨k, found, body⟩ := h
    exact ⟨_, (findJob_congr (endJob_jobs open_ st why) n).trans
      (findJob_modifyJob_same (f := Job.closed st why s) (fun _ => rfl) found), keeps.closed s _ body⟩

theorem fetchChoose (h : HoldsBody n B s) : HoldsBody n B (fetchChoose n s) := by
  unfold Machine.fetchChoose
  split
  · split
    · exact (((h.modifyItems fun is his => keeps.chosen is _ his).setJobState .running).submitJob _ _)
    · split
      · exact (h.setJobState .resolving).ensureIndex
      · exact h.endJob keeps _ _
  · exact h

theorem endSweep (h : HoldsBody n B s) : HoldsBody n B (endSweep n s) := by
  unfold Machine.endSweep
  split
  · exact h
  · exact h.endJob keeps _ _

theorem revisitNext (h : HoldsBody n B s) : HoldsBody n B (revisitNext n s) := by
  unfold Machine.revisitNext
  split
  · exact h.endSweep keeps
  · exact h.submitJob _ _

theorem sweepChoose (h : HoldsBody n B s) : HoldsBody n B (sweepChoose n s) := by
  have bounded (e : SweepRec → Option EndFrame) : HoldsBody n B (Machine.modifySweep n (fun r => { r with endFrame := e r }) s) :=
    h.modifySweep fun r hr => keeps.endFrame r _ hr
  unfold Machine.sweepChoose
  split
  · split
    · split
      · exact h.submitJob _ _
      · exact h
    · exact (h.modifySweep fun r hr => keeps.runEnded r _ hr).submitJob _ _
    · exact h.submitJob _ _
    · dsimp only
      split
      · split
        · exact (bounded _).revisitNext keeps
        · exact ((bounded _).setJobState _).revisitNext keeps
      · exact (bounded _).endSweep keeps
  · exact h

theorem sweepDecide (h : HoldsBody n B s) : HoldsBody n B (sweepDecide n s) := by
  unfold Machine.sweepDecide
  split
  · exact h
  · exact h.sweepChoose keeps

/-- The end of a job's capture keeps what the report to its record keeps. -/
theorem jobCaptureEnded {a : Armed} {o : ItemOutcome} (h : HoldsBody a.job B s)
    (outcome : ∀ is k, B (.fetch is) → B (.fetch (is.modify k fun i => { i with outcome := o, inCapture := false })))
    (revisits : ∀ r k, B (.sweep r) → B (.sweep { r with revisits := k }))
    (nextFrame : ∀ r k, B (.sweep r) → B (.sweep { r with nextFrame := k })) : HoldsBody a.job B (jobCaptureEnded a o s) := by
  have reported := h.modifyItems (f := fun is => is.modify (a.item.getD 0 - 1) fun i => { i with outcome := o, inCapture := false })
    fun is his => outcome is _ his
  have listed (f : List Nat → List Nat) : HoldsBody a.job B (modifyRevisit a.job f s) := h.congr rfl
  have advanced : HoldsBody a.job B (advanceSweep a.job a.frame s) := h.modifySweep fun r hr => nextFrame r _ hr
  unfold Machine.jobCaptureEnded
  split
  · dsimp only
    split
    · exact reported
    · exact (reported.modifyItems fun is his => keeps.released is his).fetchChoose keeps
  · dsimp only
    split
    · exact ((listed _).modifySweep fun r hr => revisits r _ hr).revisitNext keeps
    · split <;> split
      · exact advanced.sweepChoose keeps
      · exact advanced.sweepDecide keeps
      · exact h.sweepChoose keeps
      · exact h.sweepDecide keeps
  · exact h

end HoldsBody

end Sys2Proof.Machine
end


section
/-! SUPPORT. The outcome of a CAPTURE filed and reported, before the held capture or the job goes on (R55, R94, R96, R103, R112, R145,
R150). -/

namespace Sys2Proof.Machine

/-! ### The record filed (R103, R105) -/

theorem throttleTest_keeps (s : State) : (throttleTest s).station = s.station ∧ (throttleTest s).jobs = s.jobs ∧
    (throttleTest s).arbiter = s.arbiter ∧ (throttleTest s).capture.revisits = s.capture.revisits ∧
    (throttleTest s).transport.state = s.transport.state := by
  unfold throttleTest
  extract_lets n on
  split
  · exact ⟨rfl, rfl, rfl, rfl, rfl⟩
  · exact ⟨rfl, rfl, rfl, rfl, rfl⟩

theorem fileRecord_station (r : CaptureRecord) (s : State) :
    (fileRecord r s).station = { s.station with filing := { s.station.filing with ring := s.capture.ring ++ [r] } } :=
  (throttleTest_keeps _).1

theorem fileRecord_jobs (r : CaptureRecord) (s : State) : (fileRecord r s).jobs = s.jobs := (throttleTest_keeps _).2.1

theorem fileRecord_arbiter (r : CaptureRecord) (s : State) : (fileRecord r s).arbiter = s.arbiter := (throttleTest_keeps _).2.2.1

theorem fileRecord_revisits (r : CaptureRecord) (s : State) : (fileRecord r s).capture.revisits = s.capture.revisits :=
  (throttleTest_keeps _).2.2.2.1

theorem fileRecord_transport_state (r : CaptureRecord) (s : State) : (fileRecord r s).transport.state = s.transport.state :=
  (throttleTest_keeps _).2.2.2.2

/-! ### The answer in the entry (R55) -/

/-- An entry as the answer leaves it. -/
def Entry.answered (o : CaptureOutcome) (e : Entry) : Entry :=
  match o with
  | .done => { e with captureState := .captured, captureCount := min 15 (e.captureCount + 1) }
  | .fail => { e with captureState := .failed }

/-- The index with a frame's answer reported. -/
def Index.answered (n : Nat) (o : CaptureOutcome) (ix : Index) : Index := { ix with entries := ix.entries.modify n (Entry.answered o) }

theorem Entry.answered_edges (o : CaptureOutcome) (e : Entry) : (e.answered o).low = e.low ∧ (e.answered o).high = e.high ∧
    (e.answered o).address = e.address := by cases o <;> exact ⟨rfl, rfl, rfl⟩

/-- An answer moves no trigger position. -/
theorem triggerPosition_answered {s t : State} {n : Nat} {o : CaptureOutcome} (index : t.index = s.index.answered n o)
    (profile : t.transport.profile = s.transport.profile) (k : Nat) : triggerPosition t k = triggerPosition s k := by
  have mid (e : Entry) : (e.answered o).mid = e.mid := by
    obtain ⟨low, high, -⟩ := e.answered_edges o
    rw [Entry.mid, low, high, Entry.mid]
  unfold triggerPosition
  rw [index, profile, Index.answered, List.getElem?_modify]
  cases s.index.entries[k]? with
  | none => rfl
  | some e => by_cases same : n = k <;> simp [same, mid]

/-! ### What is filed and reported -/

/-- The outcome filed and reported; of the held capture and the job's next motion nothing is decided yet. -/
def outcomeFiled (shot : CaptureShot) (o : CaptureOutcome) (why : FailReason) (s : State) : State :=
  match o with
  | .done => jobDoneFiled shot.trigger (reportDone shot.trigger.frame (fileRecord (shot.record .done why) s))
  | .fail =>
    if shot.trigger.kind = .run then
      offerRevisit shot.trigger.job shot.trigger.frame (reportFail shot.trigger.frame (fileRecord (shot.record .fail why) s))
    else reportFail shot.trigger.frame (fileRecord (shot.record .fail why) s)

theorem settleCapture_eq (shot : CaptureShot) (o : CaptureOutcome) (why : FailReason) (s : State) :
    settleCapture shot o why s = captureDecides shot o (outcomeFiled shot o why s) := by cases o <;> rfl

theorem outcomeFiled_still (shot : CaptureShot) (o : CaptureOutcome) (why : FailReason) (s : State) :
    (outcomeFiled shot o why s).still = s.still := by
  unfold outcomeFiled
  (repeat' split) <;> simp

theorem outcomeFiled_station (shot : CaptureShot) (o : CaptureOutcome) (why : FailReason) (s : State) :
    (outcomeFiled shot o why s).station = { s.station with
      filing := { s.station.filing with index := s.index.answered shot.trigger.frame o,
                                        ring := s.capture.ring ++ [shot.record o why] } } := by
  have indexed (f : Index → Index) (u : State) :
      (u.onIndex f).station = { u.station with filing := { u.station.filing with index := f u.station.filing.index } } := rfl
  have reported : (reportFail shot.trigger.frame (fileRecord (shot.record .fail why) s)).station = { s.station with
      filing := { s.station.filing with index := s.index.answered shot.trigger.frame .fail,
                                        ring := s.capture.ring ++ [shot.record .fail why] } } := by
    rw [reportFail, modifyEntry, indexed, fileRecord_station]
    rfl
  unfold outcomeFiled
  split
  · rw [jobDoneFiled_station, reportDone, modifyEntry, indexed, fileRecord_station]
    rfl
  · split
    · rw [offerRevisit_station, reported]
    · exact reported

theorem outcomeFiled_index (shot : CaptureShot) (o : CaptureOutcome) (why : FailReason) (s : State) :
    (outcomeFiled shot o why s).index = s.index.answered shot.trigger.frame o :=
  congrArg (fun x => x.filing.index) (outcomeFiled_station shot o why s)

theorem outcomeFiled_arbiter (shot : CaptureShot) (o : CaptureOutcome) (why : FailReason) (s : State) :
    (outcomeFiled shot o why s).arbiter = s.arbiter := by
  have counted (u : State) : (jobDoneFiled shot.trigger u).arbiter = u.arbiter := by unfold jobDoneFiled; split <;> rfl
  have offered (u : State) : (offerRevisit shot.trigger.job shot.trigger.frame u).arbiter = u.arbiter := by
    unfold offerRevisit; (repeat' split) <;> rfl
  unfold outcomeFiled
  split
  · exact (counted _).trans (fileRecord_arbiter _ s)
  · split
    · exact (offered _).trans (fileRecord_arbiter _ s)
    · exact fileRecord_arbiter _ s

theorem outcomeFiled_transport_state (shot : CaptureShot) (o : CaptureOutcome) (why : FailReason) (s : State) :
    (outcomeFiled shot o why s).transport.state = s.transport.state := by
  have counted (u : State) : (jobDoneFiled shot.trigger u).transport = u.transport := by unfold jobDoneFiled; split <;> rfl
  have offered (u : State) : (offerRevisit shot.trigger.job shot.trigger.frame u).transport = u.transport := by
    unfold offerRevisit; (repeat' split) <;> rfl
  unfold outcomeFiled
  split
  · exact (congrArg Transport.state (counted _)).trans (fileRecord_transport_state _ s)
  · split
    · exact (congrArg Transport.state (offered _)).trans (fileRecord_transport_state _ s)
    · exact fileRecord_transport_state _ s

/-! ### The report to the job (R145, R150) -/

section
variable {shot : CaptureShot} {j : Job} {s : State} (found : findJob shot.trigger.job s = some j) (why : FailReason)
include found

theorem findJob_reported (o : CaptureOutcome) (f : Index → Index) :
    findJob shot.trigger.job ((fileRecord (shot.record o why) s).onIndex f) = some j :=
  (findJob_congr (fileRecord_jobs _ s) _).trans found

/-- The DONE of a sweep's trigger counts. -/
theorem outcomeFiled_done_sweep {r : SweepRec} (body : j.body = .sweep r) (none_ : shot.trigger.item = none)
    (opened : j.isOpen = true) : findJob shot.trigger.job (outcomeFiled shot .done why s) =
      some { j with body := .sweep { r with captured := min 16384 (r.captured + 1) } } := by
  have counted : outcomeFiled shot .done why s = modifySweep shot.trigger.job
      (fun r => { r with captured := min Config.maxEntries (r.captured + 1) })
      (reportDone shot.trigger.frame (fileRecord (shot.record .done why) s)) := by
    simp [outcomeFiled, jobDoneFiled, none_]
  rw [counted]
  exact findJob_modifySweep_open _ (findJob_reported found why .done _) opened body

/-- An item with one more DONE. -/
def Item.counted (i : Item) : Item := { i with captures := min 15 (i.captures + 1) }

/-- The DONE of an item's trigger counts. -/
theorem outcomeFiled_done_fetch {is : List Item} {n : Nat} (body : j.body = .fetch is)
    (item : shot.trigger.item = some n) (opened : j.isOpen = true) : findJob shot.trigger.job (outcomeFiled shot .done why s) =
      some { j with body := .fetch (is.modify (n - 1) Item.counted) } := by
  have counted : outcomeFiled shot .done why s = modifyItem shot.trigger.job n Item.counted
      (reportDone shot.trigger.frame (fileRecord (shot.record .done why) s)) := by
    simp only [outcomeFiled, jobDoneFiled, item]
    rfl
  rw [counted]
  exact findJob_modifyItem (findJob_reported found why .done _) opened body

/-- A FAIL leaves a FETCH as it is. -/
theorem outcomeFiled_fail_fetch {is : List Item} (body : j.body = .fetch is) :
    findJob shot.trigger.job (outcomeFiled shot .fail why s) = some j := by
  have reported : findJob shot.trigger.job (reportFail shot.trigger.frame (fileRecord (shot.record .fail why) s)) = some j :=
    findJob_reported found why .fail _
  have kept (f : SweepRec → SweepRec) : j.mapSweep f = j := by simp [Job.mapSweep, body]
  simp only [outcomeFiled]
  split
  · unfold offerRevisit
    (repeat' split)
    · exact reported
    · exact reported
    · exact reported
    · rw [findJob_modifySweep _ reported, kept]
  · exact reported

end

/-! ### The revisit list (R112) -/

theorem mem_insertFrame {n : Nat} {ns : List Nat} {x : Nat} : x ∈ insertFrame n ns ↔ x = n ∨ x ∈ ns := by
  induction ns with
  | nil => simp [insertFrame]
  | cons m ms ih =>
    unfold insertFrame
    split
    · simp
    · split
      · next same => simp [same]
      · simp only [List.mem_cons, ih]
        tauto

theorem insertFrame_length {n : Nat} {ns : List Nat} (h : n ∉ ns) : (insertFrame n ns).length = ns.length + 1 := by
  induction ns with
  | nil => rfl
  | cons m ms ih =>
    simp only [List.mem_cons, not_or] at h
    unfold insertFrame
    rw [if_neg h.1]
    split
    · rfl
    · simp [ih h.2]

theorem insertFrame_pairwise {n : Nat} {ns : List Nat} (h : ns.Pairwise (· < ·)) : (insertFrame n ns).Pairwise (· < ·) := by
  induction ns with
  | nil => simp [insertFrame]
  | cons m ms ih =>
    have rest := List.pairwise_cons.mp h
    unfold insertFrame
    split
    · next below =>
      refine List.pairwise_cons.mpr ⟨fun x hx => ?_, h⟩
      rcases List.mem_cons.mp hx with rfl | later
      · exact below
      · exact Nat.lt_trans below (rest.1 x later)
    · next notBelow =>
      split
      · exact h
      · next differs =>
        refine List.pairwise_cons.mpr ⟨fun x hx => ?_, ih rest.2⟩
        rcases mem_insertFrame.mp hx with rfl | later
        · omega
        · exact rest.1 x later

theorem revisitOf_modifyRevisit (n : Nat) (f : List Nat → List Nat) (s : State) :
    (modifyRevisit n f s).capture.revisitOf n = (s.capture.revisitOf n).map f := by
  simp only [modifyRevisit, State.onCapture, Capture.revisitOf]
  induction s.capture.revisits with
  | nil => rfl
  | cons r rs ih =>
    by_cases own : r.job = n
    · simp [own]
    · simpa [own] using ih

theorem revisitOf_congr {s t : State} (h : t.capture.revisits = s.capture.revisits) (n : Nat) :
    t.capture.revisitOf n = s.capture.revisitOf n := by rw [Capture.revisitOf, h, Capture.revisitOf]

/-- The offer of a frame to an open sweep's list: the list takes it, or is full and the overflow noted. -/
theorem offerRevisit_sweep {n frame : Nat} {j : Job} {r : SweepRec} {ns : List Nat} {s : State} (found : findJob n s = some j)
    (opened : j.isOpen = true) (body : j.body = .sweep r) (list : s.capture.revisitOf n = some ns) :
    ∃ r' ns', findJob n (offerRevisit n frame s) = some { j with body := .sweep r' } ∧
      (offerRevisit n frame s).capture.revisitOf n = some ns' ∧ Offered frame ns ns' ∧ r'.captured = r.captured ∧
      r'.runEnded = r.runEnded ∧ (frame ∉ ns → 64 ≤ ns.length → r'.overflow = true) := by
  have same : j = { j with body := .sweep r } := by rw [← body]
  unfold offerRevisit
  rw [list]
  dsimp only
  split
  · next listed =>
    have member : frame ∈ ns := by simpa using listed
    exact ⟨r, ns, found.trans (congrArg some same), list, ⟨fun _ => rfl, fun absent => absurd member absent⟩, rfl, rfl,
      fun absent => absurd member absent⟩
  · next unlisted =>
    have absent : frame ∉ ns := by simpa using unlisted
    split
    · next room =>
      have few : ns.length < 64 := room
      refine ⟨r, insertFrame frame ns, found.trans (congrArg some same), ?_, ⟨fun full => ?_, fun _ _ => ⟨insertFrame_length absent,
        fun x => mem_insertFrame, insertFrame_pairwise⟩⟩, rfl, rfl, fun _ full => absurd few (Nat.not_lt.mpr full)⟩
      · rw [revisitOf_modifyRevisit, list, Option.map_some]
      · exact full.elim (fun member => absurd member absent) fun full => absurd few (Nat.not_lt.mpr full)
    · next noRoom =>
      have full : ¬ ns.length < 64 := noRoom
      exact ⟨{ r with overflow := true }, ns, findJob_modifySweep_open _ found opened body, list,
        ⟨fun _ => rfl, fun _ few => absurd few full⟩, rfl, rfl, fun _ _ => rfl⟩

/-! ### The nearest frame of a list (R152) -/

/-- The distance of a frame's trigger position from the position count. -/
def travelTo (s : State) (n : Nat) : Nat := dist ((triggerPosition s n).getD 0) s.transport.position

theorem nearestFrame_cons (s : State) (n : Nat) (ns : List Nat) : nearestFrame s (n :: ns) =
    match nearestFrame s ns with
    | none => some n
    | some m => if travelTo s n ≤ travelTo s m then some n else some m := rfl

theorem nearestFrame_spec {s : State} {ns : List Nat} (h : ns ≠ []) :
    ∃ f ∈ ns, nearestFrame s ns = some f ∧ ∀ x ∈ ns, travelTo s f ≤ travelTo s x := by
  induction ns with
  | nil => exact absurd rfl h
  | cons n ns ih =>
    by_cases single : ns = []
    · subst single
      exact ⟨n, List.mem_cons_self, rfl, fun x hx => by rw [List.mem_singleton.mp hx]⟩
    · obtain ⟨m, hm, nearest, least⟩ := ih single
      rw [nearestFrame_cons, nearest]
      by_cases nearer : travelTo s n ≤ travelTo s m
      · refine ⟨n, List.mem_cons_self, if_pos nearer, fun x hx => ?_⟩
        rcases List.mem_cons.mp hx with rfl | later
        · exact Nat.le_refl _
        · exact Nat.le_trans nearer (least x later)
      · refine ⟨m, List.mem_cons_of_mem _ hm, if_neg nearer, fun x hx => ?_⟩
        rcases List.mem_cons.mp hx with rfl | later
        · exact Nat.le_of_lt (Nat.not_le.mp nearer)
        · exact least x later

end Sys2Proof.Machine
end


section
/-! PROOFS. The camera's answer and the expiry of its limit: the outstanding trigger settled, and what follows for its job. -/

namespace Sys2Proof.Machine

/-! ### The trigger settled (R94, R96, R97) -/

/-- The outcome of a shot filed: the ring, the outstanding record, and the frame's entry. -/
def Filed (shot : CaptureShot) (s : State) (o : CaptureOutcome) (why : FailReason) (u : State) : Prop :=
  u.capture.ring = s.capture.ring ++ [shot.record o why] ∧ u.capture.ringHead = s.capture.ringHead ∧ u.capture.outstanding = none ∧
    u.transport.position = s.transport.position ∧ u.fault = s.fault ∧
    ∀ e, s.index.entries[shot.trigger.frame]? = some e →
      ∃ x, u.index.entries[shot.trigger.frame]? = some x ∧ x.low = e.low ∧ x.high = e.high ∧ x.address = e.address ∧
        (o = .done → x.captureState = .captured ∧ x.captureCount = min 15 (e.captureCount + 1)) ∧
        (o = .fail → x.captureState = .failed ∧ x.captureCount = e.captureCount)

/-- The state with answer_lock set as the answer's limit runs out (R97). -/
def answerLocked (s : State) : State := s.onCapture fun c => { c with answerLock := true }

theorem settleCapture_filing (shot : CaptureShot) (o : CaptureOutcome) (why : FailReason) (s : State) :
    (settleCapture shot o why s).station.filing = { s.station.filing with
      index := s.index.answered shot.trigger.frame o, ring := s.capture.ring ++ [shot.record o why] } := by
  rw [settleCapture_eq, captureDecides_filing, outcomeFiled_station]

/-- Over a state that differs from the one before in handshake, lock and outstanding record alone. -/
theorem settleCapture_filed (shot : CaptureShot) (o : CaptureOutcome) (why : FailReason) {s t : State} (index : t.index = s.index)
    (ring : t.capture.ring = s.capture.ring) (head : t.capture.ringHead = s.capture.ringHead) (outstanding : t.capture.outstanding = none)
    (still : t.still = s.still) : Filed shot s o why (settleCapture shot o why t) := by
  have filing := settleCapture_filing shot o why t
  have kept := (settleCapture_still shot o why t).trans still
  generalize settleCapture shot o why t = u at filing kept
  have entries : u.index.entries = s.index.entries.modify shot.trigger.frame (Entry.answered o) := by
    rw [show u.index = t.index.answered shot.trigger.frame o from congrArg Filing.index filing, index]
    rfl
  refine ⟨(congrArg Filing.ring filing).trans (by rw [ring]), (congrArg Filing.ringHead filing).trans head,
    (congrArg Filing.outstanding filing).trans outstanding, congrArg (fun x => x.base.position) kept,
    congrArg (fun x => x.base.fault) kept, fun e he => ?_⟩
  obtain ⟨low, high, address⟩ := e.answered_edges o
  refine ⟨e.answered o, by rw [entries, List.getElem?_modify, he]; simp, low, high, address, fun done => ?_, fun fail => ?_⟩
  · subst done
    exact ⟨rfl, rfl⟩
  · subst fail
    exact ⟨rfl, rfl⟩

theorem clearOutstanding_filed (shot : CaptureShot) (o : CaptureOutcome) (why : FailReason) (s : State) :
    Filed shot s o why (settleCapture shot o why (clearOutstanding s)) :=
  settleCapture_filed shot o why rfl rfl rfl rfl rfl

/-- What an answer to a CAPTURE makes of it (R96). -/
def answerOutcome : CameraAnswer → CaptureOutcome × FailReason
  | .done => (.done, .none)
  | .fail | .metric _ => (.fail, .camera)

section
variable {limit : Nat} {shot : CaptureShot} {s : State} (h : s.capture.outstanding = some (.capture limit shot)) {P : State → Prop}
include h

theorem settles_answer (ans : CameraAnswer)
    (hP : P (settleCapture shot (answerOutcome ans).1 (answerOutcome ans).2 (clearOutstanding s))) :
    Settles (.cameraAnswer ans) s P := by
  have takes : takeAnswer ans s = settleCapture shot (answerOutcome ans).1 (answerOutcome ans).2 (clearOutstanding s) := by
    cases ans <;> simp only [takeAnswer, h, answerOutcome]
  exact Settles.of_taken rfl (by simp [Capture.answerOutstanding, h]) (takes ▸ hP)

theorem settles_expiry (hP : P (settleCapture shot .fail .noAnswer (clearOutstanding (answerLocked s)))) :
    Settles .answerLimitExpiry s P := by
  have expires : answerRunsOut s = settleCapture shot .fail .noAnswer (clearOutstanding (answerLocked s)) := by
    simp only [answerRunsOut, h, answerLocked]
  exact Settles.of_taken rfl (by simp [Capture.answerOutstanding, h]) (expires ▸ hP)

end

theorem answerRunsOut_locked (shot : CaptureShot) (s : State) :
    Filed shot s .fail .noAnswer (settleCapture shot .fail .noAnswer (clearOutstanding (answerLocked s))) ∧
      (settleCapture shot .fail .noAnswer (clearOutstanding (answerLocked s))).capture.answerLock = true ∧
      (settleCapture shot .fail .noAnswer (clearOutstanding (answerLocked s))).capture.handshake = .notReady := by
  have filing := settleCapture_filing shot .fail .noAnswer (clearOutstanding (answerLocked s))
  refine ⟨settleCapture_filed shot .fail .noAnswer rfl rfl rfl rfl rfl, congrArg Filing.answerLock filing,
    (congrArg Filing.handshake filing).trans ?_⟩
  simp [State.station, clearOutstanding, refreshHandshake, answerLocked]

theorem settleCapture_handshake (shot : CaptureShot) (o : CaptureOutcome) (why : FailReason) (s : State) :
    (settleCapture shot o why (clearOutstanding s)).capture.handshake =
      if s.pins.levels.cameraReady && !s.capture.answerLock then .ready else .notReady :=
  congrArg Filing.handshake (settleCapture_filing shot o why (clearOutstanding s))

/-! ### No frame held (R145, R150, R112) -/

theorem captureDecides_free {s : State} (h : s.capture.holding = none) (shot : CaptureShot) (o : CaptureOutcome) :
    captureDecides shot o s =
      if shot.orphan && o == .done then jobCaptureEnded shot.trigger .captured (dropRepeat shot.trigger s)
      else sweepDecide shot.trigger.job s := by simp [captureDecides, h]

theorem dropCaptures_jobs (n : Nat) (s : State) : (dropCaptures n s).jobs = s.jobs := by
  have released (u : State) : (release ((disarm (abandonSearch u)).onCapture fun c => { c with holding := none })).jobs = u.jobs := by
    have kept := abandonSearch_jobs u
    exact kept
  unfold dropCaptures
  dsimp only
  (repeat' split) <;> simp [released]

theorem dropRepeat_jobs (a : Armed) (s : State) : (dropRepeat a s).jobs = s.jobs := by
  have forgotten : (modifyRevisit a.job (fun ns => ns.filter fun m => m != a.frame) (dropSearchStop a s)).jobs = s.jobs := rfl
  have disarmed (u : State) : (unarm a.frame u).jobs = u.jobs := rfl
  unfold dropRepeat
  dsimp only
  (repeat' split) <;> simp [dropCaptures_jobs, disarmed, forgotten]

theorem outcomeFiled_holding (shot : CaptureShot) (o : CaptureOutcome) (why : FailReason) (s : State) :
    (outcomeFiled shot o why s).capture.holding = s.capture.holding :=
  congrArg Station.holding (outcomeFiled_station shot o why s)

/-- What the DONE of a trigger with no frame held keeps of its job's record. -/
theorem HoldsBody.captureDecides_free {shot : CaptureShot} {B : JobBody → Prop} {s : State} (h : HoldsBody shot.trigger.job B s)
    (free : s.capture.holding = none) (keeps : ChoiceKeeps B)
    (outcome : ∀ is k, B (.fetch is) → B (.fetch (is.modify k fun i => { i with outcome := .captured, inCapture := false })))
    (revisits : ∀ r k, B (.sweep r) → B (.sweep { r with revisits := k }))
    (nextFrame : ∀ r k, B (.sweep r) → B (.sweep { r with nextFrame := k })) (o : CaptureOutcome) :
    HoldsBody shot.trigger.job B (captureDecides shot o s) := by
  rw [Machine.captureDecides_free free]
  split
  · exact (h.congr (dropRepeat_jobs _ s)).jobCaptureEnded keeps outcome revisits nextFrame
  · exact h.sweepDecide keeps

/-- A sweep whose run leg is not at its boundary goes on as it is: its run is submitted at most (R151). -/
theorem sweepDecide_runs {n : Nat} {j : Job} {r : SweepRec} {s : State} (h : findJob n s = some j) (opened : j.isOpen = true)
    (body : j.body = .sweep r) (runs : r.runEnded = none) :
    (sweepDecide n s).jobs = s.jobs ∧ (sweepDecide n s).capture.revisits = s.capture.revisits := by
  have submitted : (submitJob n .run none s).capture.revisits = s.capture.revisits := by
    rw [submitJob_open h opened]
    exact submit_revisits _ _ _ _ s
  unfold sweepDecide
  split
  · exact ⟨rfl, rfl⟩
  · have chosen : sweepChoose n s = if r.fromFrame.isSome && r.endFrame.isSome then submitJob n .run none s else s := by
      unfold sweepChoose
      rw [openJob_of_findJob h opened]
      cases j
      cases body
      simp [runs]
    rw [chosen]
    split
    · exact ⟨submitJob_jobs _ _ _ s, submitted⟩
    · exact ⟨rfl, rfl⟩

section
variable {shot : CaptureShot} {j : Job} {s : State} (found : findJob shot.trigger.job s = some j) (opened : j.isOpen = true)
  (free : s.capture.holding = none)
include found opened free

theorem done_free_sweep {r : SweepRec} (body : j.body = .sweep r) (none_ : shot.trigger.item = none) :
    ∃ k r', findJob shot.trigger.job (settleCapture shot .done .none (clearOutstanding s)) = some k ∧ k.body = .sweep r' ∧
      r'.captured = min 16384 (r.captured + 1) := by
  have counted : HoldsBody shot.trigger.job (sweepHas fun x => x.captured = min 16384 (r.captured + 1))
      (outcomeFiled shot .done .none (clearOutstanding s)) :=
    ⟨_, outcomeFiled_done_sweep (s := clearOutstanding s) found .none body none_ opened, rfl⟩
  obtain ⟨k, found', has⟩ := counted.captureDecides_free ((outcomeFiled_holding _ _ _ _).trans free)
    (sweepHas_keeps (fun _ _ h => h) fun _ _ h => h) (fun _ _ h => h) (fun _ _ h => h) (fun _ _ h => h) .done
  obtain ⟨r', body', captured⟩ := sweepHas_iff.mp has
  rw [settleCapture_eq]
  exact ⟨k, r', found', body', captured⟩

theorem done_free_fetch {is : List Item} {n : Nat} {i : Item} (body : j.body = .fetch is) (item : shot.trigger.item = some n)
    (at_ : is[n - 1]? = some i) :
    ∃ k is' i', findJob shot.trigger.job (settleCapture shot .done .none (clearOutstanding s)) = some k ∧ k.body = .fetch is' ∧
      is'[n - 1]? = some i' ∧ i'.captures = min 15 (i.captures + 1) := by
  have counted : HoldsBody shot.trigger.job (itemHas (n - 1) fun x => x.captures = min 15 (i.captures + 1))
      (outcomeFiled shot .done .none (clearOutstanding s)) :=
    ⟨_, outcomeFiled_done_fetch (s := clearOutstanding s) found .none body item opened, i.counted, by simp [at_], rfl⟩
  obtain ⟨k, found', has⟩ := counted.captureDecides_free ((outcomeFiled_holding _ _ _ _).trans free)
    (itemHas_keeps _ fun _ _ h => h)
    (fun _ k h => itemHas_modify (f := fun i => { i with outcome := .captured, inCapture := false }) (fun _ captures => captures) k h)
    (fun _ _ h => h) (fun _ _ h => h) .done
  obtain ⟨is', i', body', at', captures⟩ := itemHas_iff.mp has
  rw [settleCapture_eq]
  exact ⟨k, is', i', found', body', at', captures⟩

theorem fail_free_run {r : SweepRec} {ns : List Nat} (body : j.body = .sweep r) (runs : r.runEnded = none)
    (kind : shot.trigger.kind = .run) (list : s.capture.revisitOf shot.trigger.job = some ns) :
    ∃ k r' ns', findJob shot.trigger.job (settleCapture shot .fail .camera (clearOutstanding s)) = some k ∧ k.body = .sweep r' ∧
      (settleCapture shot .fail .camera (clearOutstanding s)).capture.revisitOf shot.trigger.job = some ns' ∧
      Offered shot.trigger.frame ns ns' ∧ r'.captured = r.captured ∧
      (shot.trigger.frame ∉ ns → 64 ≤ ns.length → r'.overflow = true) := by
  have filed : outcomeFiled shot .fail .camera (clearOutstanding s) = offerRevisit shot.trigger.job shot.trigger.frame
      (reportFail shot.trigger.frame (fileRecord (shot.record .fail .camera) (clearOutstanding s))) := if_pos kind
  have reported : findJob shot.trigger.job
      (reportFail shot.trigger.frame (fileRecord (shot.record .fail .camera) (clearOutstanding s))) = some j :=
    findJob_reported (s := clearOutstanding s) found .camera .fail _
  obtain ⟨r', ns', found', list', offered, captured, runs', overflow⟩ := offerRevisit_sweep (frame := shot.trigger.frame) reported
    opened body ((revisitOf_congr (s := s) (fileRecord_revisits _ (clearOutstanding s)) _).trans list)
  obtain ⟨jobs, revisits⟩ := sweepDecide_runs found' opened rfl (runs'.trans runs)
  have decided : settleCapture shot .fail .camera (clearOutstanding s) = sweepDecide shot.trigger.job
      (outcomeFiled shot .fail .camera (clearOutstanding s)) := by
    rw [settleCapture_eq, captureDecides_free ((outcomeFiled_holding shot .fail .camera (clearOutstanding s)).trans free)]
    simp
  rw [decided, filed]
  exact ⟨_, r', ns', (findJob_congr jobs _).trans found', rfl, (revisitOf_congr revisits _).trans list', offered, captured, overflow⟩

end

/-! ### A frame held (R110, R113) -/

section
variable {shot : CaptureShot} {h : Stationary} {s : State} (held : s.capture.holding = some h) (phase : h.phase = .waitAnswer)
include held phase

theorem captureDecides_done : captureDecides shot .done s = endStationary h.trigger .captured s := by
  obtain ⟨trigger, attempt, _⟩ := h
  subst phase
  simp [captureDecides, held]

theorem captureDecides_fail_first (first : h.attempt = 1) : captureDecides shot .fail s = retryStationary h.trigger s := by
  obtain ⟨trigger, attempt, _⟩ := h
  subst phase
  simp [captureDecides, held, show attempt = 1 from first]

theorem captureDecides_fail_second (second : h.attempt ≠ 1) : captureDecides shot .fail s = endStationary h.trigger .failed s := by
  obtain ⟨trigger, attempt, _⟩ := h
  subst phase
  simp [captureDecides, held, show attempt ≠ 1 from second]

end

theorem mem_insertArmed (a : Armed) (as : List Armed) : a ∈ insertArmed a as := by
  induction as with
  | nil => simp [insertArmed]
  | cons b bs ih => unfold insertArmed; split <;> simp [ih]

/-- The state after a held capture has ended, before its job is told (R110). -/
def stationReleased (s : State) : State := release (countSearchFrame (s.onCapture fun c => { c with holding := none }))

theorem endStationary_eq (a : Armed) (o : ItemOutcome) (s : State) :
    endStationary a o s = jobCaptureEnded a o (stationReleased s) := rfl

theorem stationReleased_keeps (s : State) : (stationReleased s).jobs = s.jobs ∧
    (stationReleased s).capture.revisits = s.capture.revisits ∧ (stationReleased s).index = s.index ∧
    (stationReleased s).transport = s.transport ∧ (stationReleased s).arbiter.current = s.arbiter.current := by
  have counted (u : State) : (countSearchFrame u).jobs = u.jobs ∧ (countSearchFrame u).capture = u.capture ∧
      (countSearchFrame u).index = u.index ∧ (countSearchFrame u).transport = u.transport ∧
      (countSearchFrame u).arbiter.current = u.arbiter.current := by
    unfold countSearchFrame
    split <;> exact ⟨rfl, rfl, rfl, rfl, rfl⟩
  obtain ⟨jobs, capture, index, transport, current⟩ := counted (s.onCapture fun c => { c with holding := none })
  have revisits := congrArg Capture.revisits capture
  exact ⟨jobs, revisits, index, transport, current⟩

/-- The hold given up at the end of a held capture. -/
theorem endStationary_released (a : Armed) (o : ItemOutcome) (s : State) :
    (endStationary a o s).capture.holding = none ∧ (endStationary a o s).arbiter.captureHold = false :=
  ⟨congrArg Station.holding (endStationary_station a o s), congrArg Station.captureHold (endStationary_station a o s)⟩

/-- The frame after one, where the index and the sweep's range hold it (R150). -/
def frameAfter (frame : Nat) (r : SweepRec) (ix : Index) : Option Nat :=
  if ix.count ≤ frame + 1 || (r.endFrame.any fun e => e.below (frame + 1)) then none else some (frame + 1)

theorem frameAfter_none {frame : Nat} {r : SweepRec} {ix : Index}
    (h : ix.entries.length ≤ frame + 1 ∨ ∃ y, r.endFrame = some (.frame y) ∧ y ≤ frame) : frameAfter frame r ix = none := by
  rcases h with last | ⟨y, end_, past⟩
  · simp [frameAfter, Index.count, last]
  · simp [frameAfter, end_, EndFrame.below, Nat.lt_succ_of_le past]

theorem frameAfter_some {frame : Nat} {r : SweepRec} {ix : Index} (more : frame + 1 < ix.entries.length)
    (within : ∀ y, r.endFrame = some (.frame y) → frame < y) : frameAfter frame r ix = some (frame + 1) := by
  have inRange : (r.endFrame.any fun e => e.below (frame + 1)) = false := by
    rcases end_ : r.endFrame with _ | y | _
    · rfl
    · simpa [EndFrame.below] using within y end_
    · rfl
  simp [frameAfter, Index.count, Nat.not_le.mpr more, inRange]

section
variable {a : Armed} {j : Job} {s : State} (found : findJob a.job s = some j) (opened : j.isOpen = true)
include found opened

/-- The item of the held frame takes the outcome (R145). -/
theorem endStationary_fetch {is : List Item} {n : Nat} {i : Item} (body : j.body = .fetch is) (item : a.item = some n)
    (at_ : is[n - 1]? = some i) (o : ItemOutcome) :
    HoldsBody a.job (itemHas (n - 1) fun x => x.outcome = o ∧ x.resolved = i.resolved) (endStationary a o s) := by
  have found' := (findJob_congr (stationReleased_keeps s).1 a.job).trans found
  have keeps : ChoiceKeeps (itemHas (n - 1) fun x => x.outcome = o ∧ x.resolved = i.resolved) := itemHas_keeps _ fun _ _ h => h
  have reported : HoldsBody a.job (itemHas (n - 1) fun x => x.outcome = o ∧ x.resolved = i.resolved)
      (modifyItem a.job n (fun x => { x with outcome := o, inCapture := false }) (stationReleased s)) :=
    ⟨_, findJob_modifyItem found' opened body, { i with outcome := o, inCapture := false }, by simp [at_], rfl, rfl⟩
  have told : jobCaptureEnded a o (stationReleased s) =
      if jobInMotion a.job (modifyItem a.job n (fun x => { x with outcome := o, inCapture := false }) (stationReleased s)) then
        modifyItem a.job n (fun x => { x with outcome := o, inCapture := false }) (stationReleased s)
      else fetchChoose a.job (modifyItems a.job (fun is => is.map Item.released)
        (modifyItem a.job n (fun x => { x with outcome := o, inCapture := false }) (stationReleased s))) := by
    unfold jobCaptureEnded
    rw [openJob_of_findJob found' opened, item]
    cases j
    cases body
    rfl
  rw [endStationary_eq, told]
  split
  · exact reported
  · exact (reported.modifyItems fun is his => keeps.released is his).fetchChoose keeps

/-- The sweep's frame is passed: next_frame moves past it (R150). -/
theorem endStationary_sweep {r : SweepRec} (body : j.body = .sweep r) (kind : a.kind ≠ .revisit) (next : r.nextFrame = some a.frame)
    (o : ItemOutcome) :
    HoldsBody a.job (sweepHas fun x => x.captured = r.captured ∧ x.nextFrame = frameAfter a.frame r s.index)
      (endStationary a o s) := by
  have found' := (findJob_congr (stationReleased_keeps s).1 a.job).trans found
  have keeps : ChoiceKeeps (sweepHas fun x => x.captured = r.captured ∧ x.nextFrame = frameAfter a.frame r s.index) :=
    sweepHas_keeps (fun _ _ h => h) fun _ _ h => h
  have passed : HoldsBody a.job (sweepHas fun x => x.captured = r.captured ∧ x.nextFrame = frameAfter a.frame r s.index)
      (advanceSweep a.job a.frame (stationReleased s)) := by
    refine ⟨_, findJob_modifySweep_open _ found' opened body, rfl, ?_⟩
    rw [(stationReleased_keeps s).2.2.1]
    rfl
  have told : jobCaptureEnded a o (stationReleased s) =
      if holdsItem a.job a.frame (advanceSweep a.job a.frame (stationReleased s)) then
        sweepChoose a.job (advanceSweep a.job a.frame (stationReleased s))
      else sweepDecide a.job (advanceSweep a.job a.frame (stationReleased s)) := by
    unfold jobCaptureEnded
    rw [openJob_of_findJob found' opened]
    cases j
    cases body
    simp only [if_neg kind, next, if_true]
  rw [endStationary_eq, told]
  split
  · exact passed.sweepChoose keeps
  · exact passed.sweepDecide keeps

/-- The frame of a revisit reported: it leaves the list, and revisits counts it (R152). -/
def revisited (a : Armed) (s : State) : State :=
  modifySweep a.job (fun r => { r with revisits := min Config.revisitMax (r.revisits + 1) })
    (modifyRevisit a.job (fun ns => ns.filter fun m => m != a.frame) s)

theorem jobCaptureEnded_revisit {r : SweepRec} (body : j.body = .sweep r) (kind : a.kind = .revisit) (o : ItemOutcome) :
    jobCaptureEnded a o s = revisitNext a.job (revisited a s) := by
  unfold jobCaptureEnded
  rw [openJob_of_findJob found opened]
  cases j
  cases body
  simp only [if_pos kind]
  rfl

theorem findJob_revisited {r : SweepRec} (body : j.body = .sweep r) :
    findJob a.job (revisited a s) = some { j with body := .sweep { r with revisits := min 64 (r.revisits + 1) } } :=
  findJob_modifySweep_open (s := modifyRevisit a.job (fun ns => ns.filter fun m => m != a.frame) s) _ found opened body

end

theorem revisitOf_revisited {a : Armed} {ns : List Nat} {s : State} (list : s.capture.revisitOf a.job = some ns) :
    (revisited a s).capture.revisitOf a.job = some (ns.filter (· ≠ a.frame)) := by
  have filtered : (revisited a s).capture.revisitOf a.job = (s.capture.revisitOf a.job).map fun ns => ns.filter fun m => m != a.frame :=
    revisitOf_modifyRevisit a.job _ s
  rw [filtered, list, Option.map_some]
  congr 2
  funext m
  by_cases same : m = a.frame <;> simp [same]

section
variable {n : Nat} {j : Job} {ns : List Nat} {s : State} (found : findJob n s = some j) (opened : j.isOpen = true)
  (list : s.capture.revisitOf n = some ns)
include found opened list

/-- With a frame left the sweep revisits the nearest (R152). -/
theorem revisitNext_nearest (idle : s.arbiter.current = none) (left : ns ≠ []) :
    findJob n (revisitNext n s) = some j ∧ (revisitNext n s).capture.revisitOf n = some ns ∧
      ∃ q f, (revisitNext n s).arbiter.entryOf (.job n) = some q ∧ q.kind = .item ∧ q.frame = some f ∧ f ∈ ns ∧
        ∀ x ∈ ns, travelTo s f ≤ travelTo s x := by
  obtain ⟨f, member, nearest, least⟩ := nearestFrame_spec (s := s) left
  have submitted : revisitNext n s = submit (.job n) (if j.urgent then .urgent else .normal) .item (some f) s := by
    rw [← submitJob_open found opened]
    simp [revisitNext, list, nearest]
  obtain ⟨capture, -⟩ := submit_idle_keeps (.job n) idle (if j.urgent then .urgent else .normal) .item (some f)
  obtain ⟨q, entry, kind, -, frame⟩ := submit_entry (.job n) (if j.urgent then .urgent else .normal) .item (some f) s
  rw [submitted]
  exact ⟨(findJob_congr (submit_jobs _ _ _ _ _) n).trans found, by rw [capture]; exact list, q, f, entry, kind, frame, member, least⟩

/-- With none left the sweep ends (R153). -/
theorem revisitNext_ends {r : SweepRec} (body : j.body = .sweep r) (none_ : ns = []) :
    ∃ k, findJob n (revisitNext n s) = some k ∧ k.body = .sweep r ∧ k.endReason = .none ∧
      k.state = if r.captured = 0 then .failed else if r.captured < r.rangeSize then .part else .done := by
  have record : sweepOf n s = some r := by simp [sweepOf, openJob_of_findJob found opened, body]
  have ends : revisitNext n s =
      endJob n (if r.captured = 0 then .failed else if r.captured < r.rangeSize then .part else .done) .none s := by
    subst none_
    simp only [revisitNext, list, Option.getD_some, nearestFrame, endSweep, record]
  rw [ends]
  exact ⟨_, findJob_endJob found opened _ _, by simp [Job.closed, body, closeBody], rfl, rfl⟩

end

end Sys2Proof.Machine
end

section
/-! PROOFS. The answer to a held frame, and to a trial (R91, R110, R113, R145, R150 to R153): O56. -/

namespace Sys2Proof.Machine

/-! ### The held capture settled (R110) -/

section
variable {shot : CaptureShot} {attempt : Nat} {s : State} (held : s.capture.holding = some ⟨shot.trigger, attempt, .waitAnswer⟩)
include held

theorem settleCapture_held_done : settleCapture shot .done .none (clearOutstanding s) =
    endStationary shot.trigger .captured (outcomeFiled shot .done .none (clearOutstanding s)) := by
  rw [settleCapture_eq, captureDecides_done ((outcomeFiled_holding shot .done .none (clearOutstanding s)).trans held) rfl]

theorem settleCapture_held_fail_second (second : attempt ≠ 1) : settleCapture shot .fail .camera (clearOutstanding s) =
    endStationary shot.trigger .failed (outcomeFiled shot .fail .camera (clearOutstanding s)) := by
  rw [settleCapture_eq,
    captureDecides_fail_second ((outcomeFiled_holding shot .fail .camera (clearOutstanding s)).trans held) rfl second]

/-- The first FAIL arms the frame again (R110). -/
theorem settleCapture_held_retry (first : attempt = 1) :
    (settleCapture shot .fail .camera (clearOutstanding s)).capture.holding =
        some { trigger := shot.trigger, attempt := 2, phase := .atAxis } ∧
      shot.trigger ∈ (settleCapture shot .fail .camera (clearOutstanding s)).capture.armed ∧
      (settleCapture shot .fail .camera (clearOutstanding s)).arbiter = s.arbiter ∧
      (settleCapture shot .fail .camera (clearOutstanding s)).transport.state = s.transport.state := by
  rw [settleCapture_eq,
    captureDecides_fail_first ((outcomeFiled_holding shot .fail .camera (clearOutstanding s)).trans held) rfl first]
  exact ⟨rfl, mem_insertArmed _ _, outcomeFiled_arbiter shot .fail .camera (clearOutstanding s),
    outcomeFiled_transport_state shot .fail .camera (clearOutstanding s)⟩

variable {j : Job} (found : findJob shot.trigger.job s = some j) (opened : j.isOpen = true)
include found opened

/-- The outcome of a held frame in the item it was fetched for (R145). -/
theorem settleCapture_held_fetch_done {is : List Item} {n : Nat} {i : Item} (body : j.body = .fetch is)
    (item : shot.trigger.item = some n) (at_ : is[n - 1]? = some i) :
    HoldsBody shot.trigger.job (itemHas (n - 1) fun x => x.outcome = .captured ∧ x.resolved = i.resolved)
      (settleCapture shot .done .none (clearOutstanding s)) := by
  have counted := outcomeFiled_done_fetch (s := clearOutstanding s) found .none body item opened
  rw [settleCapture_held_done held]
  exact endStationary_fetch counted opened (i := i.counted) rfl item (by simp [at_]) .captured

theorem settleCapture_held_fetch_fail (second : attempt ≠ 1) {is : List Item} {n : Nat} {i : Item} (body : j.body = .fetch is)
    (item : shot.trigger.item = some n) (at_ : is[n - 1]? = some i) :
    HoldsBody shot.trigger.job (itemHas (n - 1) fun x => x.outcome = .failed ∧ x.resolved = i.resolved)
      (settleCapture shot .fail .camera (clearOutstanding s)) := by
  have kept := outcomeFiled_fail_fetch (s := clearOutstanding s) found .camera body
  rw [settleCapture_held_fail_second held second]
  exact endStationary_fetch kept opened body item at_ .failed

variable {r : SweepRec} (body : j.body = .sweep r) (none_ : shot.trigger.item = none)
include body none_

/-- A sweep's frame done is counted and passed (R150). -/
theorem settleCapture_held_sweep (kind : shot.trigger.kind ≠ .revisit) (next : r.nextFrame = some shot.trigger.frame) :
    HoldsBody shot.trigger.job
      (sweepHas fun x => x.captured = min 16384 (r.captured + 1) ∧ x.nextFrame = frameAfter shot.trigger.frame r
        (s.index.answered shot.trigger.frame .done))
      (settleCapture shot .done .none (clearOutstanding s)) := by
  have counted := outcomeFiled_done_sweep (s := clearOutstanding s) found .none body none_ opened
  have index : (outcomeFiled shot .done .none (clearOutstanding s)).index = s.index.answered shot.trigger.frame .done :=
    outcomeFiled_index shot .done .none (clearOutstanding s)
  rw [settleCapture_held_done held, ← index]
  exact endStationary_sweep counted opened rfl kind next .captured

end

/-! ### The revisit of a sweep's frame (R152, R153) -/

/-- The state as a held frame's DONE is filed, its hold given up and its revisit reported, before the sweep goes on. -/
def revisitFiled (shot : CaptureShot) (s : State) : State :=
  revisited shot.trigger (stationReleased (outcomeFiled shot .done .none (clearOutstanding s)))

/-- The record of a sweep with the DONE of a revisit counted. -/
def SweepRec.revisitDone (r : SweepRec) : SweepRec :=
  { r with captured := min 16384 (r.captured + 1), revisits := min 64 (r.revisits + 1) }

section
variable {shot : CaptureShot} {s : State}

theorem revisitFiled_list {ns : List Nat} (list : s.capture.revisitOf shot.trigger.job = some ns) :
    (revisitFiled shot s).capture.revisitOf shot.trigger.job = some (ns.filter (· ≠ shot.trigger.frame)) := by
  have filed : (outcomeFiled shot .done .none (clearOutstanding s)).capture.revisits = s.capture.revisits := by
    have counted (u : State) : (jobDoneFiled shot.trigger u).capture = u.capture := by unfold jobDoneFiled; split <;> rfl
    exact (congrArg Capture.revisits (counted _)).trans (fileRecord_revisits _ (clearOutstanding s))
  exact revisitOf_revisited ((revisitOf_congr ((stationReleased_keeps _).2.1.trans filed) _).trans list)

theorem revisitFiled_current : (revisitFiled shot s).arbiter.current = s.arbiter.current :=
  (stationReleased_keeps _).2.2.2.2.trans
    (congrArg Arbiter.current (outcomeFiled_arbiter shot .done .none (clearOutstanding s)))

theorem revisitFiled_position : (revisitFiled shot s).transport.position = s.transport.position :=
  (congrArg Transport.position (stationReleased_keeps _).2.2.2.1).trans
    (congrArg (fun x => x.base.position) (outcomeFiled_still shot .done .none (clearOutstanding s)))

theorem revisitFiled_triggerPosition (n : Nat) : triggerPosition (revisitFiled shot s) n = triggerPosition s n := by
  have profile : (revisitFiled shot s).transport.profile = s.transport.profile :=
    (congrArg Transport.profile (stationReleased_keeps _).2.2.2.1).trans
      (congrArg (fun x => x.base.core.profile) (outcomeFiled_still shot .done .none (clearOutstanding s)))
  have index : (revisitFiled shot s).index = s.index.answered shot.trigger.frame .done :=
    (stationReleased_keeps _).2.2.1.trans (outcomeFiled_index shot .done .none (clearOutstanding s))
  exact triggerPosition_answered index profile n

/-- The distances compared are those of the state before (R152). -/
theorem travelTo_revisitFiled {n t : Nat} (at_ : triggerPosition s n = some t) :
    travelTo (revisitFiled shot s) n = max t s.transport.position - min t s.transport.position := by
  rw [travelTo, revisitFiled_triggerPosition, at_, revisitFiled_position, Option.getD_some, dist]
  omega

variable {attempt : Nat} (held : s.capture.holding = some ⟨shot.trigger, attempt, .waitAnswer⟩) {j : Job}
  (found : findJob shot.trigger.job s = some j) (opened : j.isOpen = true) {r : SweepRec} (body : j.body = .sweep r)
  (none_ : shot.trigger.item = none)
include found opened body none_

theorem findJob_revisitFiled :
    findJob shot.trigger.job (revisitFiled shot s) = some { j with body := .sweep r.revisitDone } := by
  have counted := outcomeFiled_done_sweep (s := clearOutstanding s) found .none body none_ opened
  exact findJob_revisited ((findJob_congr (stationReleased_keeps _).1 _).trans counted) opened rfl

include held

theorem settleCapture_held_revisit (kind : shot.trigger.kind = .revisit) :
    settleCapture shot .done .none (clearOutstanding s) = revisitNext shot.trigger.job (revisitFiled shot s) := by
  have counted := outcomeFiled_done_sweep (s := clearOutstanding s) found .none body none_ opened
  rw [settleCapture_held_done held, endStationary_eq]
  exact jobCaptureEnded_revisit ((findJob_congr (stationReleased_keeps _).1 _).trans counted) opened rfl kind .captured

end

/-- The end of a sweep by its counts (R153). -/
theorem revisitDone_end {r : SweepRec} {a b : Nat} (from_ : r.fromFrame = some a) (end_ : r.endFrame = some (.frame b)) :
    ((if r.revisitDone.captured = 0 then JobState.failed
      else if r.revisitDone.captured < r.revisitDone.rangeSize then .part else .done) =
      if r.revisitDone.captured < b + 1 - a then .part else .done) := by
  have counts : r.revisitDone.captured ≠ 0 := by
    have positive : r.revisitDone.captured = min 16384 (r.captured + 1) := rfl
    omega
  have size : r.revisitDone.rangeSize = b + 1 - a := by
    simp only [SweepRec.rangeSize, SweepRec.revisitDone, from_, end_]
  rw [if_neg counts, size]

/-! ### A trial's answer (R91) -/

theorem takeAnswer_trial {lim : Nat} {sr : FocusSearch} {s : State} (outstanding : s.capture.outstanding = some (.trial lim))
    (search : s.focus.search = some sr) (fired : sr.stage = .fired) (v : BitVec 16) :
    takeAnswer (.metric v) s =
      (clearOutstanding s).onFocus fun f => { f with search := f.search.map fun sr => sr.record v.toNat true } := by
  have search' : (clearOutstanding s).focus.search = some sr := search
  obtain ⟨⟩ := sr
  subst fired
  simp only [takeAnswer, outstanding, recordTrial, search']

/-! ### The clauses of O56 -/

section
variable {limit : Nat} {shot : CaptureShot} {s : State}

section
variable (fired : s.capture.outstanding = some (.capture limit shot)) (free : s.capture.holding = none)
include fired free

theorem settles_free_done : Settles (.cameraAnswer .done) s fun u => Filed shot s .done .none u ∧
    u.capture.handshake = (if s.pins.levels.cameraReady && !s.capture.answerLock then .ready else .notReady) ∧
    (∀ j r, JobsSound s → findJob shot.trigger.job s = some j → j.isOpen = true → j.body = .sweep r →
      shot.trigger.item = none → ∃ k r', findJob shot.trigger.job u = some k ∧ k.body = .sweep r' ∧
        r'.captured = min 16384 (r.captured + 1)) ∧
    (∀ j is n i, JobsSound s → findJob shot.trigger.job s = some j → j.isOpen = true → j.body = .fetch is →
      shot.trigger.item = some n → is[n - 1]? = some i → ∃ k is' i', findJob shot.trigger.job u = some k ∧
        k.body = .fetch is' ∧ is'[n - 1]? = some i' ∧ i'.captures = min 15 (i.captures + 1)) :=
  settles_answer fired .done ⟨clearOutstanding_filed shot .done .none s, settleCapture_handshake shot .done .none s,
    fun _ _ _ found opened body none_ => done_free_sweep found opened free body none_,
    fun _ _ _ _ _ found opened body item at_ => done_free_fetch found opened free body item at_⟩

theorem settles_free_fail : Settles (.cameraAnswer .fail) s fun u => Filed shot s .fail .camera u ∧
    ∀ j r ns, JobsSound s → findJob shot.trigger.job s = some j → j.isOpen = true → j.body = .sweep r →
      r.runEnded = none → shot.trigger.kind = .run → s.capture.revisitOf shot.trigger.job = some ns →
      ∃ k r' ns', findJob shot.trigger.job u = some k ∧ k.body = .sweep r' ∧
        u.capture.revisitOf shot.trigger.job = some ns' ∧ Offered shot.trigger.frame ns ns' ∧
        r'.captured = r.captured ∧
        (shot.trigger.frame ∉ ns → 64 ≤ ns.length → r'.overflow = true) :=
  settles_answer fired .fail ⟨clearOutstanding_filed shot .fail .camera s,
    fun _ _ _ _ found opened body runs kind list => fail_free_run found opened free body runs kind list⟩

end

section
variable {attempt : Nat} {j : Job} (fired : s.capture.outstanding = some (.capture limit shot))
  (held : s.capture.holding = some ⟨shot.trigger, attempt, .waitAnswer⟩) (found : findJob shot.trigger.job s = some j)
  (opened : j.isOpen = true)
include fired held found opened

theorem settles_held_fetch {is : List Item} {n : Nat} {i : Item} {ended : ItemOutcome → State → Prop} (body : j.body = .fetch is)
    (item : shot.trigger.item = some n) (at_ : is[n - 1]? = some i)
    (ends : ∀ o u, ended o u ↔ u.capture.holding = none ∧ u.arbiter.captureHold = false ∧ ∃ k is' i',
      findJob shot.trigger.job u = some k ∧ k.body = .fetch is' ∧ is'[n - 1]? = some i' ∧ i'.outcome = o ∧
        i'.resolved = i.resolved) :
    (Settles (.cameraAnswer .done) s fun u => Filed shot s .done .none u ∧ ended .captured u) ∧
      (attempt ≠ 1 → Settles (.cameraAnswer .fail) s fun u => Filed shot s .fail .camera u ∧ ended .failed u) := by
  have ended_of {o : ItemOutcome} {u : State} (holding : u.capture.holding = none) (hold : u.arbiter.captureHold = false)
      (has : HoldsBody shot.trigger.job (itemHas (n - 1) fun x => x.outcome = o ∧ x.resolved = i.resolved) u) : ended o u := by
    obtain ⟨k, found', has⟩ := has
    obtain ⟨is', i', body', at', outcome, resolved⟩ := itemHas_iff.mp has
    exact (ends o u).mpr ⟨holding, hold, k, is', i', found', body', at', outcome, resolved⟩
  refine ⟨settles_answer fired .done ⟨clearOutstanding_filed shot .done .none s, ?_⟩,
    fun second => settles_answer fired .fail ⟨clearOutstanding_filed shot .fail .camera s, ?_⟩⟩
  · obtain ⟨holding, hold⟩ := endStationary_released shot.trigger .captured (outcomeFiled shot .done .none (clearOutstanding s))
    rw [← settleCapture_held_done held] at holding hold
    exact ended_of holding hold (settleCapture_held_fetch_done held found opened body item at_)
  · obtain ⟨holding, hold⟩ := endStationary_released shot.trigger .failed (outcomeFiled shot .fail .camera (clearOutstanding s))
    rw [← settleCapture_held_fail_second held second] at holding hold
    exact ended_of holding hold (settleCapture_held_fetch_fail held found opened second body item at_)

variable {r : SweepRec} (body : j.body = .sweep r) (none_ : shot.trigger.item = none)
include body none_

theorem settles_held_sweep (kind : shot.trigger.kind ≠ .revisit) (next : r.nextFrame = some shot.trigger.frame) :
    Settles (.cameraAnswer .done) s fun u => Filed shot s .done .none u ∧ u.capture.holding = none ∧
      u.arbiter.captureHold = false ∧ ∃ k r', findJob shot.trigger.job u = some k ∧ k.body = .sweep r' ∧
        r'.captured = min 16384 (r.captured + 1) ∧
        (s.index.entries.length ≤ shot.trigger.frame + 1 ∨ (∃ y, r.endFrame = some (.frame y) ∧ y ≤ shot.trigger.frame) →
          r'.nextFrame = none) ∧
        (shot.trigger.frame + 1 < s.index.entries.length → (∀ y, r.endFrame = some (.frame y) → shot.trigger.frame < y) →
          r'.nextFrame = some (shot.trigger.frame + 1)) := by
  obtain ⟨holding, hold⟩ := endStationary_released shot.trigger .captured (outcomeFiled shot .done .none (clearOutstanding s))
  rw [← settleCapture_held_done held] at holding hold
  obtain ⟨k, found', has⟩ := settleCapture_held_sweep held found opened body none_ kind next
  obtain ⟨r', body', captured, next'⟩ := sweepHas_iff.mp has
  have length : (s.index.answered shot.trigger.frame .done).entries.length = s.index.entries.length := List.length_modify ..
  exact settles_answer fired .done ⟨clearOutstanding_filed shot .done .none s, holding, hold, k, r', found', body', captured,
    fun last => next'.trans (frameAfter_none (length.symm ▸ last)),
    fun more within => next'.trans (frameAfter_some (length.symm ▸ more) within)⟩

theorem settles_held_revisit {ns : List Nat} (idle : s.arbiter.current = none) (kind : shot.trigger.kind = .revisit)
    (list : s.capture.revisitOf shot.trigger.job = some ns) :
    Settles (.cameraAnswer .done) s fun u => Filed shot s .done .none u ∧ u.capture.holding = none ∧
      u.arbiter.captureHold = false ∧ ∃ k r', findJob shot.trigger.job u = some k ∧ k.body = .sweep r' ∧
        r'.captured = min 16384 (r.captured + 1) ∧ r'.revisits = min 64 (r.revisits + 1) ∧
        ((∃ x ∈ ns, x ≠ shot.trigger.frame) → k.isOpen = true ∧
          u.capture.revisitOf shot.trigger.job = some (ns.filter (· ≠ shot.trigger.frame)) ∧
          ∃ q f, u.arbiter.entryOf (.job shot.trigger.job) = some q ∧ q.kind = .item ∧ q.frame = some f ∧ f ∈ ns ∧
            f ≠ shot.trigger.frame ∧
            ∀ x ∈ ns, x ≠ shot.trigger.frame → (∀ t t', triggerPosition s f = some t → triggerPosition s x = some t' →
              max t s.transport.position - min t s.transport.position ≤
                max t' s.transport.position - min t' s.transport.position)) ∧
        (∀ a b, (∀ x ∈ ns, x = shot.trigger.frame) → r.fromFrame = some a → r.endFrame = some (.frame b) → a ≤ b →
          k.endReason = .none ∧
          (r'.captured = b + 1 - a → k.state = .done) ∧ (r'.captured < b + 1 - a → k.state = .part)) := by
  obtain ⟨holding, hold⟩ := endStationary_released shot.trigger .captured (outcomeFiled shot .done .none (clearOutstanding s))
  rw [← settleCapture_held_done held] at holding hold
  refine settles_answer fired .done ⟨clearOutstanding_filed shot .done .none s, holding, hold, ?_⟩
  rw [show settleCapture shot (answerOutcome .done).1 (answerOutcome .done).2 (clearOutstanding s) =
    revisitNext shot.trigger.job (revisitFiled shot s) from settleCapture_held_revisit held found opened body none_ kind]
  have found' := findJob_revisitFiled found opened body none_
  have list' := revisitFiled_list list
  by_cases left : ∃ x ∈ ns, x ≠ shot.trigger.frame
  · obtain ⟨x, member, other⟩ := left
    have remains : ns.filter (· ≠ shot.trigger.frame) ≠ [] := List.ne_nil_of_mem (List.mem_filter.mpr ⟨member, by simpa using other⟩)
    obtain ⟨found'', list'', q, f, entry, item, frame, listed, least⟩ :=
      revisitNext_nearest found' opened list' (revisitFiled_current.trans idle) remains
    obtain ⟨inList, differs⟩ := List.mem_filter.mp listed
    refine ⟨_, r.revisitDone, found'', rfl, rfl, rfl, fun _ => ⟨opened, list'', q, f, entry, item, frame, inList,
      by simpa using differs, fun y hy other' t t' at_ at' => ?_⟩, fun _ _ all => absurd (all x member) other⟩
    rw [← travelTo_revisitFiled (shot := shot) at_, ← travelTo_revisitFiled (shot := shot) at']
    exact least y (List.mem_filter.mpr ⟨hy, by simpa using other'⟩)
  · have all : ∀ x ∈ ns, x = shot.trigger.frame := fun x hx => by_contra fun other => left ⟨x, hx, other⟩
    have empty : ns.filter (· ≠ shot.trigger.frame) = [] := List.filter_eq_nil_iff.mpr fun x hx => by simp [all x hx]
    obtain ⟨k, found'', body'', reason, ends⟩ := revisitNext_ends found' opened list' rfl empty
    refine ⟨k, r.revisitDone, found'', body'', rfl, rfl, fun more => absurd more left, fun a b _ from_ end_ _ => ⟨reason,
      fun full => ?_, fun short => ?_⟩⟩
    · rw [ends, revisitDone_end from_ end_, if_neg (by omega)]
    · rw [ends, revisitDone_end from_ end_, if_pos short]

end

end

end Sys2Proof.Machine

open Sys2Proof Sys2Proof.Machine

/-- Settles O56: the answer is filed by `settleCapture`, and `captureDecides` tells the cases of the held frame apart. -/
theorem cameraAnswers : Obligations.CameraAnswers := by
  unfold Obligations.CameraAnswers
  intro limit shot s filed hfiled
  obtain rfl : filed = Filed shot s := by
    funext o why u
    exact propext (hfiled o why u)
  refine ⟨fun absent => ⟨fun a => exec_taken_none rfl (by simp [Capture.answerOutstanding, absent]),
    exec_taken_none rfl (by simp [Capture.answerOutstanding, absent])⟩, fun fired free => ?_,
    fun h j fired held phase same idle _ found opened => ?_, fun sr lim outstanding search stage v => ?_⟩
  · exact ⟨settles_free_done fired free, settles_free_fail fired free,
      fun v => settles_answer fired (.metric v) (clearOutstanding_filed shot .fail .camera s),
      settles_expiry fired (answerRunsOut_locked shot s)⟩
  · obtain ⟨trigger, attempt, _⟩ := h
    subst phase same
    exact ⟨fun first => settles_answer fired .fail ⟨clearOutstanding_filed shot .fail .camera s, settleCapture_held_retry held first⟩,
      fun is n i ended body item at_ ends => settles_held_fetch fired held found opened body item at_ ends,
      fun r body kind none_ next => settles_held_sweep fired held found opened body none_ kind next,
      fun r ns body kind none_ list => settles_held_revisit fired held found opened body none_ idle kind list⟩
  · refine .of_taken rfl (by simp [Capture.answerOutstanding, outstanding]) ?_
    rw [takeAnswer_trial outstanding search stage v]
    exact ⟨congrArg (Option.map fun sr : FocusSearch => sr.record v.toNat true) search, rfl, rfl, rfl⟩

end

section
/-! PROOFS. The focus map: a point placed, every step's part in it, and the target of a mid-point (R79, R80, R83). -/

namespace Sys2Proof.Machine

/-! ### A point put in its place -/

/-- Two positions lie at least 500 counts apart. -/
def Apart (p q : Nat) : Prop := p + 500 ≤ q ∨ q + 500 ≤ p

theorem mapSpacing_le_dist_iff (p q : Nat) : Config.mapSpacing ≤ dist p q ↔ Apart p q := by
  unfold Config.mapSpacing dist Apart
  omega

theorem mem_insertPoint {p q : MapPoint} {m : List MapPoint} : q ∈ insertPoint p m ↔ q = p ∨ q ∈ m := by
  induction m with
  | nil => simp [insertPoint]
  | cons r rs ih =>
    unfold insertPoint
    split
    · simp
    · simp only [List.mem_cons, ih]
      tauto

theorem insertPoint_length (p : MapPoint) (m : List MapPoint) : (insertPoint p m).length = m.length + 1 := by
  induction m with
  | nil => rfl
  | cons r rs ih => unfold insertPoint; split <;> simp [ih]

/-- A point apart from all others keeps the map ascending and spaced. -/
theorem insertPoint_spaced {p : MapPoint} {m : List MapPoint} (spaced : m.Pairwise fun p q => p.position + 500 ≤ q.position)
    (apart : ∀ q ∈ m, Apart p.position q.position) : (insertPoint p m).Pairwise fun p q => p.position + 500 ≤ q.position := by
  induction m with
  | nil => simp [insertPoint]
  | cons r rs ih =>
    obtain ⟨above, rest⟩ := List.pairwise_cons.mp spaced
    have first := apart r List.mem_cons_self
    unfold Apart at first
    unfold insertPoint
    split
    · next below =>
      refine List.pairwise_cons.mpr ⟨fun q hq => ?_, spaced⟩
      rcases List.mem_cons.mp hq with rfl | later
      · omega
      · have := above q later
        omega
    · next notBelow =>
      refine List.pairwise_cons.mpr ⟨fun q hq => ?_, ih rest fun q hq => apart q (List.mem_cons_of_mem _ hq)⟩
      rcases mem_insertPoint.mp hq with rfl | later
      · omega
      · exact above q later

theorem MapSound.eq_of_position {m : List MapPoint} (h : MapSound m) {q r : MapPoint} (hq : q ∈ m) (hr : r ∈ m)
    (same : q.position = r.position) : q = r := by
  have differ : (m.map (·.position)).Nodup := List.pairwise_map.mpr (h.2.imp fun step => by omega)
  exact List.inj_on_of_nodup_map differ hq hr same

/-! ### The farthest point (R80) -/

/-- `f` is the point of a map to be removed: the farthest from a position, the lower of two (R80). -/
def IsFarthest (pos : Nat) (m : List MapPoint) (f : MapPoint) : Prop :=
  ∀ q ∈ m, dist pos q.position < dist pos f.position ∨ dist pos q.position = dist pos f.position ∧ f.position ≤ q.position

theorem farthest_spec (pos : Nat) {m : List MapPoint} (ascending : m.Pairwise fun p q => p.position + 500 ≤ q.position)
    (some_ : m ≠ []) : ∃ f ∈ m, farthest pos m = some f ∧ IsFarthest pos m f := by
  induction m with
  | nil => exact absurd rfl some_
  | cons q qs ih =>
    obtain ⟨above, rest⟩ := List.pairwise_cons.mp ascending
    by_cases single : qs = []
    · subst single
      exact ⟨q, List.mem_cons_self, rfl, fun x hx => by rw [List.mem_singleton.mp hx]; exact .inr ⟨rfl, Nat.le_refl _⟩⟩
    · obtain ⟨r, hr, found, most⟩ := ih rest single
      unfold farthest
      rw [found]
      by_cases farther : dist pos r.position ≤ dist pos q.position
      · refine ⟨q, List.mem_cons_self, if_pos farther, fun x hx => ?_⟩
        rcases List.mem_cons.mp hx with rfl | later
        · exact .inr ⟨rfl, Nat.le_refl _⟩
        · have := most x later
          have := above x later
          omega
      · refine ⟨r, List.mem_cons_of_mem _ hr, if_neg farther, fun x hx => ?_⟩
        rcases List.mem_cons.mp hx with rfl | later
        · exact .inl (Nat.not_le.mp farther)
        · exact most x later

/-! ### A point placed (R80) -/

/-- The points of a map that lie apart from a position. -/
def apartFrom (pos : Nat) (m : List MapPoint) : List MapPoint := m.filter fun q => Config.mapSpacing ≤ dist pos q.position

theorem mem_apartFrom {pos : Nat} {m : List MapPoint} {q : MapPoint} : q ∈ apartFrom pos m ↔ q ∈ m ∧ Apart pos q.position := by
  simp [apartFrom, mapSpacing_le_dist_iff]

theorem apartFrom_length_lt {pos : Nat} {m : List MapPoint} (near : ∃ q ∈ m, ¬ Apart pos q.position) :
    (apartFrom pos m).length < m.length := by
  obtain ⟨q, hq, near⟩ := near
  exact List.length_filter_lt_length_iff_exists.mpr ⟨q, hq, by rwa [decide_eq_true_eq, mapSpacing_le_dist_iff]⟩

/-- With a point within 500, or with room, the points within 500 give way. -/
theorem placePoint_room {p : MapPoint} {m : List MapPoint} (h : (∃ q ∈ m, ¬ Apart p.position q.position) ∨ m.length < 32) :
    placePoint p m = insertPoint p (apartFrom p.position m) := by
  refine if_pos ?_
  rw [Bool.or_eq_true, decide_eq_true_eq, decide_eq_true_eq]
  exact h.imp_left apartFrom_length_lt

/-- On a full map with none within 500 the farthest point gives way. -/
theorem placePoint_full {p : MapPoint} {m : List MapPoint} (sound : MapSound m) (apart : ∀ q ∈ m, Apart p.position q.position)
    (full : m.length = 32) : ∃ f ∈ m, IsFarthest p.position m f ∧
      placePoint p m = insertPoint p (m.filter fun q => q.position != f.position) := by
  obtain ⟨f, hf, found, most⟩ := farthest_spec p.position sound.2 (m := m) (by rintro rfl; cases full)
  have all : apartFrom p.position m = m :=
    List.filter_eq_self.mpr fun q hq => by simpa [mapSpacing_le_dist_iff] using apart q hq
  refine ⟨f, hf, most, ?_⟩
  unfold placePoint
  rw [found]
  refine if_neg ?_
  rw [show (m.filter fun q => Config.mapSpacing ≤ dist p.position q.position) = m from all]
  simp [full, Config.mapPoints]

/-- A placement puts the point among some of the others, with room for it and all apart from it. -/
theorem placePoint_kept (p : MapPoint) {m : List MapPoint} (sound : MapSound m) : ∃ kept, placePoint p m = insertPoint p kept ∧
    kept.Sublist m ∧ kept.length < 32 ∧ ∀ q ∈ kept, Apart p.position q.position := by
  by_cases near : ∃ q ∈ m, ¬ Apart p.position q.position
  · exact ⟨_, placePoint_room (.inl near), List.filter_sublist, Nat.lt_of_lt_of_le (apartFrom_length_lt near) sound.1,
      fun r hr => (mem_apartFrom.mp hr).2⟩
  · have apart : ∀ q ∈ m, Apart p.position q.position := fun q hq => by_contra fun is => near ⟨q, hq, is⟩
    rcases Nat.lt_or_eq_of_le sound.1 with room | full
    · exact ⟨_, placePoint_room (.inr room), List.filter_sublist, Nat.lt_of_le_of_lt (List.length_filter_le _ _) room,
        fun r hr => (mem_apartFrom.mp hr).2⟩
    · obtain ⟨f, hf, -, placed⟩ := placePoint_full sound apart full
      refine ⟨_, placed, List.filter_sublist, ?_, fun q hq => apart q (List.mem_filter.mp hq).1⟩
      exact Nat.lt_of_lt_of_eq (List.length_filter_lt_length_iff_exists.mpr ⟨f, hf, by simp⟩) full

theorem placePoint_sound (p : MapPoint) {m : List MapPoint} (sound : MapSound m) : MapSound (placePoint p m) := by
  obtain ⟨kept, placed, sub, room, apart⟩ := placePoint_kept p sound
  rw [placed]
  exact ⟨by rw [insertPoint_length]; exact room, insertPoint_spaced (sound.2.sublist sub) apart⟩

end Sys2Proof.Machine

open Sys2Proof Sys2Proof.Machine

/-- Settles O55: the point is put among those that stay, which lie apart from it. -/
theorem focusPointPlaced : Obligations.FocusPointPlaced := by
  unfold Obligations.FocusPointPlaced
  intro p m sound
  obtain ⟨kept, placed, sub, -, apart⟩ := placePoint_kept p sound
  have mem (q : MapPoint) : q ∈ placePoint p m ↔ q = p ∨ q ∈ kept := by rw [placed]; exact mem_insertPoint
  refine ⟨placePoint_sound p sound, (mem p).mpr (.inl rfl), fun q hq => ((mem q).mp hq).imp_right (sub.subset ·),
    fun q _ above below hq => ?_, fun room q hq far => ?_, fun far full => ?_⟩
  · refine ((mem q).mp hq).resolve_right fun stays => ?_
    have := apart q stays
    unfold Apart at this
    omega
  · have room' : (∃ q ∈ m, ¬ Apart p.position q.position) ∨ m.length < 32 :=
      room.imp_left fun ⟨q, hq, above, below⟩ => ⟨q, hq, by unfold Apart; omega⟩
    rw [placePoint_room room']
    exact mem_insertPoint.mpr (.inr (mem_apartFrom.mpr ⟨hq, far⟩))
  · obtain ⟨f, hf, most, placed'⟩ := placePoint_full sound far full
    rw [placed']
    refine ⟨f, hf, fun stays => ?_, fun q hq other => ?_, most⟩
    · rcases mem_insertPoint.mp stays with rfl | stays
      · have := far f hf
        omega
      · simp at stays
    · refine mem_insertPoint.mpr (.inr (List.mem_filter.mpr ⟨hq, ?_⟩))
      simpa using fun same => other (sound.eq_of_position hq hf same)

end

section
/-! PROOFS. Every step keeps the focus map ascending, spaced and within 32 points (R79): a search's end places a point, EMPTY and a LOAD
clear the map, and all else leaves it as it is. -/

namespace Sys2Proof.Machine

/-! ### Operations that leave the map as it is -/

@[simp] theorem onTransport_map (f : Transport → Transport) (s : State) : (s.onTransport f).still.map = s.still.map := rfl
@[simp] theorem onFault_map (f : FaultRecord → FaultRecord) (s : State) : (s.onFault f).still.map = s.still.map := rfl
@[simp] theorem putRollEnd_map (e : Option Nat) (s : State) : (putRollEnd e s).still.map = s.still.map := by
  unfold putRollEnd; split <;> simp
@[simp] theorem setRollEnd_map (e : Nat) (s : State) : (setRollEnd e s).still.map = s.still.map := by simp [setRollEnd]
@[simp] theorem tailTest_map (s : State) : (tailTest s).still.map = s.still.map := by unfold tailTest; (repeat' split) <;> simp
@[simp] theorem positionMoved_map (old : Nat) (d : Direction) (s : State) : (positionMoved old d s).still.map = s.still.map := by
  unfold positionMoved; (repeat' split) <;> simp
@[simp] theorem putPosition_map (p : Nat) (s : State) : (putPosition p s).still.map = s.still.map := rfl
@[simp] theorem carryPosition_map (d : Direction) (n : Nat) (s : State) : (carryPosition d n s).still.map = s.still.map := by
  unfold carryPosition; dsimp only; (repeat' split) <;> simp
@[simp] theorem trim_map (d : Int) (s : State) : (trim d s).still.map = s.still.map := by unfold trim; (repeat' split) <;> simp
@[simp] theorem capstanMoves_map (d : Direction) (s : State) : (capstanMoves d s).still.map = s.still.map := by
  unfold capstanMoves; split <;> simp
@[simp] theorem correctPosition_map (low : Nat) (s : State) : (correctPosition low s).still.map = s.still.map := by
  unfold correctPosition; dsimp only; (repeat' split) <;> simp
@[simp] theorem matchEdge_map (s : State) : (matchEdge s).still.map = s.still.map := by
  unfold matchEdge; dsimp only; (repeat' split) <;> simp
@[simp] theorem takeLowEdge_map (s : State) : (takeLowEdge s).still.map = s.still.map := by
  unfold takeLowEdge; (repeat' split) <;> simp
@[simp] theorem takeLeaderEdge_map (s : State) : (takeLeaderEdge s).still.map = s.still.map := by
  unfold takeLeaderEdge; (repeat' split) <;> simp
@[simp] theorem takeTail_map (s : State) : (takeTail s).still.map = s.still.map := by
  unfold takeTail; dsimp only; (repeat' split) <;> simp
@[simp] theorem reportFault_map (c : Cause) (s : State) : (reportFault c s).still.map = s.still.map := by
  unfold reportFault; (repeat' split) <;> simp
@[simp] theorem insertJob_map (l : LinkId) (o : JobOrder) (s : State) : (insertJob l o s).still.map = s.still.map := by
  unfold insertJob; split <;> rfl
@[simp] theorem lensStalls_map (s : State) : (lensStalls s).still.map = s.still.map := by
  unfold lensStalls lensFaults; split <;> simp

/-! ### Operations that place a point or clear the map -/

/-- The focus map is ascending, spaced and within 32 points (R79). -/
def MapKept (s : State) : Prop := MapSound s.still.map

theorem MapKept.of_map {s t : State} (h : MapKept s) (ht : t.still.map = s.still.map) : MapKept t := by
  rwa [MapKept, ht]

theorem MapKept.of_nil {s : State} (h : s.still.map = []) : MapKept s := by
  rw [MapKept, h]
  exact ⟨Nat.zero_le _, .nil⟩

theorem finishSearch_mapKept (sr : FocusSearch) {s : State} (h : MapKept s) : MapKept (finishSearch sr s) := by
  unfold finishSearch
  dsimp only
  split
  · exact placePoint_sound _ h
  · exact h

theorem serveTrial_mapKept {s : State} (h : MapKept s) : MapKept (serveTrial s) := by
  unfold serveTrial
  (repeat' split)
  · exact h
  · exact finishSearch_mapKept _ h
  all_goals exact h

theorem serveLens_mapKept {s : State} (h : MapKept s) : MapKept (serveLens s) := by
  unfold serveLens
  split
  · exact h.of_map (by simp)
  · exact h.of_map (by simp)
  · exact serveTrial_mapKept h
  all_goals exact h

theorem serviceLens_mapKept {s : State} (h : MapKept s) : MapKept (serviceLens s) := by
  unfold serviceLens
  (repeat' split)
  · exact h
  · exact serveLens_mapKept (h.of_map (by simp))
  · exact serveLens_mapKept h

theorem trialWaitEnds_mapKept {s : State} (h : MapKept s) : MapKept (trialWaitEnds s) := by
  unfold trialWaitEnds
  split
  · split
    · exact finishSearch_mapKept _ h
    · exact h
  · exact h

theorem serviceStationary_mapKept {s : State} (h : MapKept s) : MapKept (serviceStationary s) := by
  have served (a : Armed) : MapKept (awaitLens a (serviceLens (setPhase .waitLens (armTrigger a s)))) :=
    (serviceLens_mapKept (s := setPhase .waitLens (armTrigger a s)) h).of_map (by simp)
  unfold serviceStationary
  dsimp only
  split
  · exact h
  · next held _ =>
    cases held.phase with
    | searching =>
      dsimp only
      (repeat' split)
      · exact h.of_map (by simp)
      · exact h
      · exact served _
    | _ => dsimp only; (repeat' split) <;> exact h.of_map (by simp)

theorem serviceCapture_mapKept {s : State} (h : MapKept s) : MapKept (serviceCapture s) :=
  serviceLens_mapKept (serviceStationary_mapKept (serviceLens_mapKept h))

@[simp] theorem clearContents_map (s : State) : (clearContents s).still.map = [] := by
  unfold clearContents
  dsimp only
  rw [onTransport_map, putLeaderMissing_still, putBroken_still, putRollEnd_map]
  rfl

theorem enterEmpty_mapKept (unloaded : Bool) (s : State) : MapKept (enterEmpty unloaded s) := by
  unfold enterEmpty
  dsimp only
  split <;> exact .of_nil (by simp)

theorem startLoad_mapKept (n : Nat) (s : State) : MapKept (startLoad n s) := by
  unfold startLoad
  dsimp only
  (repeat' split) <;> exact .of_nil (by simp)

theorem startRollJob_mapKept {s : State} (h : MapKept s) : MapKept (startRollJob s) := by
  unfold startRollJob
  dsimp only
  (repeat' split)
  · exact startLoad_mapKept _ s
  · exact h.of_map (by simp)
  all_goals exact h

theorem settleBlocks_mapKept {s : State} (h : MapKept s) : MapKept (settleBlocks s) := by
  have first : MapKept (serviceCapture (syncReadAhead (startRollJob s))) :=
    serviceCapture_mapKept ((startRollJob_mapKept h).of_map (by simp))
  have second : MapKept (serviceCapture (syncReadAhead (arbitrate (serviceCapture (syncReadAhead (startRollJob s)))))) :=
    serviceCapture_mapKept (first.of_map (by simp))
  exact second.of_map (by simp [settleBlocks])

theorem cancelWork_mapKept (j : Job) {s : State} (h : MapKept s) : MapKept (cancelWork j s) := by
  unfold cancelWork
  dsimp only
  split
  · unfold cancelRollWork
    split
    · exact enterEmpty_mapKept _ _
    all_goals exact h.of_map (by simp)
  · exact h.of_map (by simp)

theorem filmBreakCut_map (threshold : Int) (s : State) :
    (filmBreakCut threshold s).still.map = s.still.map.filter fun q => (q.position : Int) < threshold := by
  unfold filmBreakCut; split <;> rfl

/-- The cut after a FILM_BREAK removes points of the map (R72). -/
theorem clearCut_mapKept {s : State} (h : MapKept s) : MapKept (clearCut s) := by
  unfold clearCut
  split
  · rw [MapKept, filmBreakCut_map]
    exact ⟨Nat.le_trans (List.length_filter_le _ _) h.1, h.2.sublist List.filter_sublist⟩
  · exact h

theorem applyClear_mapKept {s : State} (h : MapKept s) : MapKept (applyClear s) := by
  have left (c : Option Cause) {u : State} (hu : MapKept u) : MapKept (leaveHalt c u) := by
    unfold leaveHalt
    dsimp only
    split
    · exact hu.of_map (by simp)
    · exact enterEmpty_mapKept _ _
  have cleared : MapKept (leaveHalt s.fault.cause (raise .fault ((clearCut s).onFault fun _ => FaultRecord.clear))) :=
    left _ ((clearCut_mapKept h).of_map (by simp))
  exact cleared.of_map (by simp [applyClear])

theorem filmOutEffect_mapKept {s : State} (h : MapKept s) : MapKept (filmOutEffect s) := by
  unfold filmOutEffect
  split
  · exact h
  · exact enterEmpty_mapKept _ _
  · unfold rewindEnds; split <;> exact enterEmpty_mapKept _ _
  · split
    · exact h
    · exact h.of_map (by simp)
  all_goals exact h.of_map (by simp)

theorem OnlyLinks.mapKept {s t : State} (only : OnlyLinks s t) (h : MapKept s) : MapKept t := by
  rw [only]
  exact h

theorem settle_mapKept {s : State} (h : MapKept s) : MapKept (settle s) := (serviceLinks_only _).mapKept (settleBlocks_mapKept h)

theorem taken_mapKept {test : Bool} {act : State → State} {s : State} (h : MapKept s) (hact : MapKept s → MapKept (act s)) :
    MapKept (taken test act s) := by
  unfold taken
  split
  · exact settle_mapKept (hact h)
  · exact h

theorem event_mapKept (c : Instr) {s t : State} (event : isMachineEvent c = true) (h : MapKept s) (ht : exec c s = .next t) :
    MapKept t := by
  cases c <;> cases event <;> (injection ht with ht; subst ht)
  case tensionChange side r =>
    refine settle_mapKept (MapKept.of_map (s := s) h ?_)
    exact (show (tensionEffect side r (putReading side r s)).still.map = (putReading side r s).still.map by
      unfold tensionEffect; (repeat' split) <;> simp)
  case tensionLimitExpiry => exact taken_mapKept h fun k => k.of_map (by unfold tensionRunsOut; split <;> simp)
  case threadLimitExpiry => exact taken_mapKept h fun _ => enterEmpty_mapKept _ _
  case filmPresentClear => exact settle_mapKept (filmOutEffect_mapKept h)
  case stopRise => exact settle_mapKept (MapKept.of_map (s := s) h (reportFault_map _ _))
  case cameraReadyRise => exact settle_mapKept h
  case cameraReadyFall => exact h
  case homeSwitchSet => exact taken_mapKept (s := putHomeSwitch true s) h id
  case lensStep leaves =>
    have levels : MapKept (if leaves then putHomeSwitch false s else s) := by cases leaves <;> exact h
    exact taken_mapKept levels fun k => k.of_map (by simp)
  case homingLimit => exact taken_mapKept h fun k => k.of_map (by simp [lensFaults])
  case trialWaitExpiry => exact taken_mapKept h trialWaitEnds_mapKept
  case highEdge => exact h.of_map (by simp)
  case markOn => exact h.of_map (by simp)
  case markOff => exact h.of_map (by simp)
  case spliceOn => exact h.of_map (by simp)
  case spliceOff => exact h.of_map (by simp)
  all_goals exact taken_mapKept h fun k => k.of_map (by simp)

theorem mapKept_invariant : StepInvariant MapKept where
  links only h := only.mapKept h
  pins _ _ h := h
  pending _ _ h := h
  reset _ _ := .of_nil rfl
  fault c _ h := h.of_map (reportFault_map c _)
  index _ _ h := h
  capture _ _ h := h
  profile _ _ _ h := h
  placePoint p _ h := placePoint_sound p h
  clearMap _ := .of_nil rfl
  truncateAt n _ h := h.of_map (by simp)
  applyClear h := applyClear_mapKept h
  accept _ _ _ _ h := h.of_map (by simp)
  cancelWork j _ h := cancelWork_mapKept j h
  freeSlot _ _ h := h
  removeHead h := h.of_map (by simp)
  settleBlocks h := settleBlocks_mapKept h
  event c _ _ event h ht := event_mapKept c event h ht

end Sys2Proof.Machine

open Sys2Proof.Machine in
/-- Settles O7: a placed point lies apart from those that stay, and EMPTY and a LOAD leave the empty map. -/
theorem stepKeepsFocusMap : Obligations.StepKeepsFocusMap := by
  unfold Obligations.StepKeepsFocusMap
  exact fun s t h ht => mapKept_invariant.step h ht

end

section
/-! PROOFS. The focus target of a mid-point (R83), and the map as a master sets it (R81, R82). -/

namespace Sys2Proof.Machine

/-! ### Steps between neighbours (R83) -/

/-- The points of a map stand in ascending order of position. -/
def PointsAscend (m : List MapPoint) : Prop := m.Pairwise fun a b => a.position < b.position

theorem interpolate_below {p : Nat} {a : MapPoint} (h : p ≤ a.position) (rest : List MapPoint) : interpolate p a rest = a.lens := by
  cases rest with
  | nil => rfl
  | cons b rest => exact if_pos h

/-- Above the second point the first one has no part. -/
theorem interpolate_skip {p : Nat} {a b : MapPoint} {rest : List MapPoint} (ascends : a.position < b.position) (h : b.position ≤ p) :
    interpolate p a (b :: rest) = interpolate p b rest := by
  rw [interpolate, if_neg (by omega), if_neg (by omega)]

/-- The head stands at or below every point. -/
theorem PointsAscend.head_le {a c : MapPoint} {rest : List MapPoint} (h : PointsAscend (c :: rest)) (member : a ∈ c :: rest) :
    c.position ≤ a.position := by
  rcases List.mem_cons.mp member with rfl | later
  · exact Nat.le_refl _
  · exact Nat.le_of_lt ((List.pairwise_cons.mp h).1 a later)

theorem interpolate_above {p : Nat} {a b : MapPoint} {rest : List MapPoint} (ascending : PointsAscend (a :: rest))
    (last : (a :: rest).getLast? = some b) (h : b.position ≤ p) : interpolate p a rest = b.lens := by
  induction rest generalizing a with
  | nil => cases last; rfl
  | cons c rest ih =>
    obtain ⟨above, ascending'⟩ := List.pairwise_cons.mp ascending
    rw [List.getLast?_cons_cons] at last
    have upTo : c.position ≤ b.position := PointsAscend.head_le ascending' (List.mem_of_getLast? last)
    rw [interpolate_skip (above c List.mem_cons_self) (Nat.le_trans upTo h)]
    exact ih ascending' last

theorem interpolate_at {a x : MapPoint} {rest : List MapPoint} (ascending : PointsAscend (x :: rest)) (h : a ∈ x :: rest) :
    interpolate a.position x rest = a.lens := by
  induction rest generalizing x with
  | nil => rw [List.mem_singleton.mp h]; rfl
  | cons c rest ih =>
    obtain ⟨above, ascending'⟩ := List.pairwise_cons.mp ascending
    rcases List.mem_cons.mp h with rfl | later
    · exact interpolate_below (Nat.le_refl _) _
    · rw [interpolate_skip (above c List.mem_cons_self) (PointsAscend.head_le ascending' later)]
      exact ih ascending' later

/-- The step interpolated between two neighbours, truncated toward zero (R83). -/
def between (p : Nat) (a b : MapPoint) : Int :=
  (a.lens : Int) + (((b.lens : Int) - a.lens) * ((p : Int) - a.position)).tdiv ((b.position : Int) - a.position)

theorem interpolate_between {p : Nat} {a b : MapPoint} {post : List MapPoint} (low : a.position < p) (high : p < b.position)
    (pre : List MapPoint) {x : MapPoint} {rest : List MapPoint} (ascending : PointsAscend (x :: rest))
    (stands : x :: rest = pre ++ a :: b :: post) : interpolate p x rest = between p a b := by
  induction pre generalizing x rest with
  | nil =>
    cases stands
    rw [interpolate, if_neg (by omega), if_pos high, between]
  | cons y pre ih =>
    obtain ⟨rfl, stands'⟩ := List.cons.inj stands
    obtain ⟨above, ascending'⟩ := List.pairwise_cons.mp ascending
    cases rest with
    | nil => simp at stands'
    | cons z rest =>
      have upTo : z.position ≤ a.position := PointsAscend.head_le ascending' (stands' ▸ by simp)
      rw [interpolate_skip (above z List.mem_cons_self) (by omega)]
      exact ih ascending' stands'

/-! ### The target (R83) -/

/-- The step of a map for a mid-point, `none` standing for the profile's default (R83 steps 1 to 4). -/
def mapStep (p : Nat) (profile : Profile) : List MapPoint → Int
  | [] => profile.defaultFocus
  | a :: rest => interpolate p a rest

theorem clampStep_eq (z : Int) : (clampStep z : Int) = max 0 (min 4095 z) := by
  unfold clampStep Config.maxStep
  omega

theorem focusTarget_eq (p : Nat) (s : State) : (focusTarget p s : Int) = max 0 (min 4095 (mapStep p s.transport.profile s.focus.map +
    if ∃ sp ∈ s.tracker.splices, sp.start ≤ p ∧ p ≤ sp.finish then s.transport.profile.spliceFocusOffset else 0)) := by
  rw [← clampStep_eq]
  have spliced : (s.tracker.splices.any fun sp => sp.start ≤ p && p ≤ sp.finish) = true ↔
      ∃ sp ∈ s.tracker.splices, sp.start ≤ p ∧ p ≤ sp.finish := by simp
  unfold focusTarget
  simp only [spliced]
  rfl

/-- The base of R83 is the map's step where it names an empty map, an end point, two neighbours, or a point. -/
theorem mapStep_eq {p : Nat} {profile : Profile} {m : List MapPoint} {base : Int} (ascending : PointsAscend m)
    (h : m = [] ∧ base = profile.defaultFocus ∨ (∃ a, m.head? = some a ∧ p ≤ a.position ∧ base = a.lens) ∨
      (∃ b, m.getLast? = some b ∧ b.position ≤ p ∧ base = b.lens) ∨
      (∃ pre a b post, m = pre ++ a :: b :: post ∧ a.position < p ∧ p < b.position ∧ base = between p a b) ∨
      (∃ a ∈ m, a.position = p ∧ base = a.lens)) : mapStep p profile m = base := by
  cases m with
  | nil =>
    rcases h with ⟨-, rfl⟩ | ⟨a, first, -⟩ | ⟨b, last, -⟩ | ⟨pre, a, b, post, stands, -⟩ | ⟨a, member, -⟩
    · rfl
    · cases first
    · cases last
    · simp at stands
    · cases member
  | cons x rest =>
    rcases h with ⟨absurd_, -⟩ | ⟨a, first, below, rfl⟩ | ⟨b, last, above, rfl⟩ | ⟨pre, a, b, post, stands, low, high, rfl⟩ |
      ⟨a, member, rfl, rfl⟩
    · cases absurd_
    · cases first
      exact interpolate_below below rest
    · exact interpolate_above ascending last above
    · exact interpolate_between low high pre ascending stands
    · exact interpolate_at ascending member

/-! ### The map set by a master (R81, R82) -/

theorem readBody_setFocusPoint (tag : Byte) (position : BitVec 24) (lens : BitVec 16) :
    readBody ((Request.setFocusPoint position lens).body tag) = some (tag, .setFocusPoint position lens) := by
  simp [Request.body, Request.kind, Request.params, readBody, readParams, whole, get16_put_last]

theorem readBody_clearFocusMap (tag : Byte) : readBody (Request.clearFocusMap.body tag) = some (tag, .clearFocusMap) := by
  simp [Request.body, Request.kind, Request.params, readBody, readParams, bare]

theorem exec_setFocusPoint {l : LinkId} {s : State} (h : Listens l s) (tag : Byte) {position : BitVec 24} {lens : BitVec 16}
    (within : position.toNat ≤ 16000000) (step : lens.toNat ≤ 4095) : exec (.setFocusPoint l tag position lens) s =
      .next (replied l 0x87 tag (setFocusPoint position.toNat lens.toNat s).result (setFocusPoint position.toNat lens.toNat s).data
        (setFocusPoint position.toNat lens.toNat s).state) :=
  exec_request (c := .setFocusPoint l tag position lens) (kind := 0x07) (o := .setFocusPoint position.toNat lens.toNat) h rfl rfl
    (by simp [Request.body, Request.params, put24, put16]) (by decide) (readBody_setFocusPoint tag position lens)
    (if_pos ⟨within, step⟩)

theorem exec_clearFocusMap {l : LinkId} {s : State} (h : Listens l s) (tag : Byte) : exec (.clearFocusMap l tag) s =
    .next (replied l 0x88 tag (clearFocusMap s).result (clearFocusMap s).data (clearFocusMap s).state) :=
  exec_request (c := .clearFocusMap l tag) (kind := 0x08) (o := .clearFocusMap) h rfl rfl (by simp [Request.body, Request.params])
    (by decide) (readBody_clearFocusMap tag) rfl

end Sys2Proof.Machine

open Sys2Proof Sys2Proof.Machine

/-- Settles O54: the base is the map's step by where the mid-point lies among its points. -/
theorem focusTargetComputed : Obligations.FocusTargetComputed := by
  unfold Obligations.FocusTargetComputed
  rintro e p s base off rfl rfl ascending step
  rw [← mapStep_eq ascending step]
  exact focusTarget_eq e.mid s

/-- Settles O26: each request's one operation on the map, answered over the state it leaves. -/
theorem focusMapSet : Obligations.FocusMapSet := by
  unfold Obligations.FocusMapSet
  intro l tag position lens s listens within step
  rw [exec_setFocusPoint listens tag within step, exec_clearFocusMap listens tag]
  refine ⟨fun filled m placed => ?_, fun empty => ?_, rfl⟩
  · subst placed
    simp only [setFocusPoint, if_neg filled]
    rfl
  · simp only [setFocusPoint, if_pos empty, refuse]

end

section
/-! SUPPORT. How the lens stands: what jobs, arbiter and tracker leave of it. `posed`: the focus controller but for its slew list, a SLEWING
lens counted as one at rest (R87), and the held capture. `posed.lens`: the former alone. -/

namespace Sys2Proof.Machine

/-- The focus controller without its slew list. -/
def Focus.posed (f : Focus) : Focus := { f with slew := [], state := if f.state = .slewing then .idle else f.state }

/-- The lens as it stands, and the held capture. -/
structure Posed where
  lens    : Focus
  holding : Option Stationary

/-- What most operations of jobs, arbiter and tracker keep. -/
def State.posed (s : State) : Posed := { lens := s.focus.posed, holding := s.capture.holding }

/-! ### Updates of one block -/

@[simp] theorem onTransport_posed (f : Transport → Transport) (s : State) : (s.onTransport f).posed = s.posed := rfl
@[simp] theorem onTracker_posed (f : Tracker → Tracker) (s : State) : (s.onTracker f).posed = s.posed := rfl
@[simp] theorem onIndex_posed (f : Index → Index) (s : State) : (s.onIndex f).posed = s.posed := rfl
@[simp] theorem onArbiter_posed (f : Arbiter → Arbiter) (s : State) : (s.onArbiter f).posed = s.posed := rfl
@[simp] theorem onJobs_posed (f : Jobs → Jobs) (s : State) : (s.onJobs f).posed = s.posed := rfl
@[simp] theorem onFault_posed (f : FaultRecord → FaultRecord) (s : State) : (s.onFault f).posed = s.posed := rfl
@[simp] theorem onPins_posed (f : Pins → Pins) (s : State) : (s.onPins f).posed = s.posed := rfl
@[simp] theorem onLink_posed (l : LinkId) (f : LinkUnit → LinkUnit) (s : State) : (s.onLink l f).posed = s.posed := rfl
@[simp] theorem onCapture_lens (f : Capture → Capture) (s : State) : (s.onCapture f).posed.lens = s.posed.lens := rfl
@[simp] theorem onCapture_posed {f : Capture → Capture} {s : State} (h : (f s.capture).holding = s.capture.holding) :
    (s.onCapture f).posed = s.posed := by simp [State.posed, h]
@[simp] theorem foldl_posed {α : Type} {f : State → α → State} (h : ∀ s a, (f s a).posed = s.posed) (xs : List α) (s : State) :
    (xs.foldl f s).posed = s.posed := foldl_keeps State.posed h xs s

theorem posed_of_only {s t : State} (h : OnlyLinks s t) : t.posed = s.posed := by rw [h]; rfl

/-! ### The slew list (R87) -/

theorem restIfEmptied_posed (f : Focus) : f.restIfEmptied.posed = f.posed := by
  unfold Focus.restIfEmptied
  split
  · next emptied =>
    have slewing : f.state = .slewing := by simp_all
    simp [Focus.posed, slewing]
  · rfl

@[simp] theorem slewRemove_posed (frame : Nat) (s : State) : (slewRemove frame s).posed = s.posed := by
  simp only [State.posed, slewRemove, State.onFocus_focus, restIfEmptied_posed]; rfl
@[simp] theorem slewClear_posed (s : State) : (slewClear s).posed = s.posed := by
  simp only [State.posed, slewClear, State.onFocus_focus, restIfEmptied_posed]; rfl
@[simp] theorem armTrigger_posed (a : Armed) (s : State) : (armTrigger a s).posed = s.posed := rfl
@[simp] theorem unarm_posed (frame : Nat) (s : State) : (unarm frame s).posed = s.posed := by simp [unarm]
@[simp] theorem disarm_posed (s : State) : (disarm s).posed = s.posed := by simp [disarm]

/-! ### Arbiter and jobs -/

@[simp] theorem raise_posed (k : NoticeKind) (s : State) : (raise k s).posed = s.posed := rfl
@[simp] theorem stopMove_posed (s : State) : (stopMove s).posed = s.posed := by unfold stopMove; (repeat' split) <;> rfl
@[simp] theorem disarmRun_posed (c : Current) (s : State) : (disarmRun c s).posed = s.posed := by unfold disarmRun; split <;> simp
@[simp] theorem clearCurrent_posed (s : State) : (clearCurrent s).posed = s.posed := rfl
@[simp] theorem askStop_posed (why : StopCause) (s : State) : (askStop why s).posed = s.posed := by
  unfold askStop; (repeat' split) <;> simp
@[simp] theorem dropCurrent_posed (s : State) : (dropCurrent s).posed = s.posed := by unfold dropCurrent; (repeat' split) <;> simp
@[simp] theorem withdraw_posed (r : Requester) (s : State) : (withdraw r s).posed = s.posed := by
  unfold withdraw; dsimp only; split <;> simp
@[simp] theorem suspendTest_posed (s : State) : (suspendTest s).posed = s.posed := by unfold suspendTest; (repeat' split) <;> simp
@[simp] theorem yieldTest_posed (s : State) : (yieldTest s).posed = s.posed := by unfold yieldTest; (repeat' split) <;> simp
@[simp] theorem submit_posed (r : Requester) (cls : QClass) (k : QKind) (frame : Option Nat) (s : State) :
    (submit r cls k frame s).posed = s.posed := by
  unfold submit; dsimp only; (repeat' split) <;> simp
@[simp] theorem submitJob_posed (n : Nat) (k : QKind) (frame : Option Nat) (s : State) : (submitJob n k frame s).posed = s.posed := by
  unfold submitJob; split <;> simp
@[simp] theorem ensureIndex_posed (n : Nat) (s : State) : (ensureIndex n s).posed = s.posed := by unfold ensureIndex; split <;> simp
@[simp] theorem syncReadAhead_posed (s : State) : (syncReadAhead s).posed = s.posed := by unfold syncReadAhead; split <;> simp
@[simp] theorem preemptReadAhead_posed (s : State) : (preemptReadAhead s).posed = s.posed := by
  unfold preemptReadAhead; (repeat' split) <;> simp
@[simp] theorem setBlocked_posed (v : Bool) (s : State) : (setBlocked v s).posed = s.posed := rfl
@[simp] theorem setSearchHold_posed (v : Bool) (s : State) : (setSearchHold v s).posed = s.posed := rfl
@[simp] theorem setCaptureHold_posed (v : Bool) (s : State) : (setCaptureHold v s).posed = s.posed := rfl
@[simp] theorem modifyRevisit_posed (n : Nat) (f : List Nat → List Nat) (s : State) : (modifyRevisit n f s).posed = s.posed := rfl
@[simp] theorem modifySweep_posed (n : Nat) (f : SweepRec → SweepRec) (s : State) : (modifySweep n f s).posed = s.posed := rfl
@[simp] theorem modifyItems_posed (n : Nat) (f : List Item → List Item) (s : State) : (modifyItems n f s).posed = s.posed := rfl
@[simp] theorem modifyItem_posed (n k : Nat) (f : Item → Item) (s : State) : (modifyItem n k f s).posed = s.posed := rfl
@[simp] theorem setJobState_posed (n : Nat) (st : JobState) (s : State) : (setJobState n st s).posed = s.posed := rfl
@[simp] theorem endJob_posed (n : Nat) (st : JobState) (why : EndReason) (s : State) : (endJob n st why s).posed = s.posed := by
  unfold endJob
  split
  · rfl
  · next j _ =>
    have closed : (jobClosed n st why s).posed = s.posed := (onCapture_posed rfl).trans (withdraw_posed _ _)
    refine (onLink_posed _ _ _).trans ?_
    split <;> exact closed
@[simp] theorem fetchChoose_posed (n : Nat) (s : State) : (fetchChoose n s).posed = s.posed := by
  unfold fetchChoose; (repeat' split) <;> simp
@[simp] theorem endSweep_posed (n : Nat) (s : State) : (endSweep n s).posed = s.posed := by unfold endSweep; split <;> simp
@[simp] theorem revisitNext_posed (n : Nat) (s : State) : (revisitNext n s).posed = s.posed := by unfold revisitNext; split <;> simp
@[simp] theorem sweepChoose_posed (n : Nat) (s : State) : (sweepChoose n s).posed = s.posed := by
  unfold sweepChoose; dsimp only; (repeat' split) <;> simp
@[simp] theorem sweepDecide_posed (n : Nat) (s : State) : (sweepDecide n s).posed = s.posed := by unfold sweepDecide; split <;> simp
@[simp] theorem advanceSweep_posed (n frame : Nat) (s : State) : (advanceSweep n frame s).posed = s.posed := rfl
@[simp] theorem jobCaptureEnded_posed (a : Armed) (o : ItemOutcome) (s : State) : (jobCaptureEnded a o s).posed = s.posed := by
  unfold jobCaptureEnded; dsimp only; (repeat' split) <;> simp
@[simp] theorem jobUnfired_posed (a : Armed) (s : State) : (jobUnfired a s).posed = s.posed := by
  unfold jobUnfired; (repeat' split) <;> simp

/-! ### The held capture -/

@[simp] theorem release_posed (s : State) : (release s).posed = s.posed := rfl
@[simp] theorem returnUnfired_posed (a : Armed) (s : State) : (returnUnfired a s).posed = { s.posed with holding := none } := by
  have given : ((disarm s).onCapture fun c => { c with holding := none }).posed = { (disarm s).posed with holding := none } := rfl
  rw [returnUnfired, jobUnfired_posed, release_posed, given, disarm_posed]
@[simp] theorem countSearchFrame_posed (s : State) : (countSearchFrame s).posed = s.posed := by unfold countSearchFrame; split <;> rfl
@[simp] theorem endStationary_lens (a : Armed) (o : ItemOutcome) (s : State) : (endStationary a o s).posed.lens = s.posed.lens := by
  simp [endStationary]
@[simp] theorem missAtAxis_lens (a : Armed) (why : MissReason) (s : State) : (missAtAxis a why s).posed.lens = s.posed.lens := by
  simp [missAtAxis, missFrame, setLastMiss, reportMissed, modifyEntry]
@[simp] theorem setPhase_lens (p : StationaryPhase) (s : State) : (setPhase p s).posed.lens = s.posed.lens := rfl

/-! ### Tracker and reference -/

@[simp] theorem enterState_posed (st : TransportState) (s : State) : (enterState st s).posed = s.posed := by
  unfold enterState; split <;> rfl
@[simp] theorem putReference_posed (r : Reference) (s : State) : (putReference r s).posed = s.posed := by
  unfold putReference; split <;> rfl
@[simp] theorem leaveIndexing_posed (s : State) : (leaveIndexing s).posed = s.posed := by unfold leaveIndexing; split <;> rfl
@[simp] theorem setMode_posed (m : TrackerMode) (s : State) : (setMode m s).posed = s.posed := by
  unfold setMode newPass; (repeat' split) <;> simp
@[simp] theorem refreshMode_posed (s : State) : (refreshMode s).posed = s.posed := by simp [refreshMode]
@[simp] theorem withdrawRescan_posed (s : State) : (withdrawRescan s).posed = s.posed := by unfold withdrawRescan; split <;> simp
@[simp] theorem askReference_posed (s : State) : (askReference s).posed = s.posed := by
  unfold askReference; dsimp only; (repeat' split) <;> simp
@[simp] theorem stopForLoss_posed (s : State) : (stopForLoss s).posed = s.posed := by unfold stopForLoss; (repeat' split) <;> simp
@[simp] theorem loseReference_posed (s : State) : (loseReference s).posed = s.posed := by
  unfold loseReference; dsimp only; split <;> simp

/-! ### The halt and the end of a step -/

@[simp] theorem haltRun_posed (n : Nat) (c : Current) (s : State) : (haltRun n c s).posed = s.posed := by
  unfold haltRun requeueRun holdItem; dsimp only; (repeat' split) <;> simp
@[simp] theorem haltArbiter_posed (s : State) : (haltArbiter s).posed = s.posed := by
  unfold haltArbiter; (repeat' split) <;> simp
@[simp] theorem haltTransport_posed (c : Cause) (s : State) : (haltTransport c s).posed = s.posed := by
  simp [haltTransport, stopWork]
@[simp] theorem failJob_posed (c : Cause) (n : Nat) (s : State) : (failJob c n s).posed = s.posed := by simp [failJob]
@[simp] theorem throttleTest_posed (s : State) : (throttleTest s).posed = s.posed := by
  unfold throttleTest
  extract_lets n on
  split
  · rfl
  · exact (onTransport_posed _ _).trans (onCapture_posed rfl)
@[simp] theorem removeHead_posed (s : State) : (removeHead s).posed = s.posed := by simp [removeHead]
@[simp] theorem dropHeads_posed (s : State) : (dropHeads s).posed = s.posed := by
  suffices all : ∀ n u, (dropHeadsN n u).posed = u.posed from all _ s
  intro n
  induction n with
  | zero => exact fun _ => rfl
  | succ n ih =>
    intro u
    unfold dropHeadsN
    (repeat' split)
    · rfl
    · rw [ih, removeHead_posed]
    · rfl
@[simp] theorem syncHoldTimer_posed (s : State) : (syncHoldTimer s).posed = s.posed := by
  unfold syncHoldTimer; (repeat' split) <;> rfl
@[simp] theorem syncPersist_posed (s : State) : (syncPersist s).posed = s.posed := rfl
@[simp] theorem syncStall_posed (s : State) : (syncStall s).posed = s.posed := by unfold syncStall; split <;> rfl
@[simp] theorem serviceLinks_posed (s : State) : (serviceLinks s).posed = s.posed := posed_of_only (serviceLinks_only s)

end Sys2Proof.Machine
end

section
/-! SUPPORT. A lens that failed: FAULTED through the halt it reports and to the end of the step (R76 to R78, R92, R115). -/

namespace Sys2Proof.Machine

/-! ### Invariants of the lens as it stands -/

/-- An invariant of the lens as it stands and the held capture, which the end of a search keeps too. -/
structure PoseInvariant (P : State → Prop) : Prop where
  posed   : ∀ {s t}, P s → t.posed = s.posed → P t
  abandon : ∀ {s}, P s → P (abandonSearch s)

namespace PoseInvariant
variable {P : State → Prop} (hP : PoseInvariant P) {s : State}
include hP

theorem setReference (r : Reference) (h : P s) : P (setReference r s) := by
  have told : P ((if s.transport.reference = .exact then abandonSearch else id) (putReference r s)) := by
    have put : P (putReference r s) := hP.posed h (putReference_posed r s)
    split
    · exact hP.abandon put
    · exact put
  unfold Machine.setReference
  split
  · exact h
  · cases r with
    | lost => exact hP.posed told (loseReference_posed _)
    | exact | drifted => exact hP.posed told rfl

theorem jobFate (c : Cause) (n : Nat) (h : P s) : P (jobFate c n s) := by
  have failed : P (failJob c n s) := hP.posed h (failJob_posed c n s)
  have suspended : P (setJobState n .suspended s) := hP.posed h (setJobState_posed n _ s)
  have lost : P (Machine.setReference .lost (failJob c n s)) := hP.setReference _ failed
  unfold Machine.jobFate
  (repeat' split) <;> assumption

theorem applyFate (c : Cause) (h : P s) : P (applyFate c s) := foldl_invariant (fun _ n => hP.jobFate c n) _ h

theorem breakFilm (c : Cause) (h : P s) : P (breakFilm c s) := by
  unfold Machine.breakFilm
  split
  · exact hP.setReference _ (hP.posed h (by unfold putBroken; split <;> rfl))
  · exact h

/-- A fault of a HALTED part (R160). -/
theorem reportFault_later (c : Cause) (halted : s.fault.halted = true) (h : P s) : P (reportFault c s) := by
  have fates (u : State) (hu : P u) : P (Machine.applyFate c u) := hP.applyFate c hu
  unfold reportFault
  rw [if_pos halted]
  dsimp only
  split
  · refine hP.breakFilm c ?_
    have fated : P (Machine.applyFate c ((raise .fault (s.onFault fun f => { f with later := true })).onFault
      fun f => { f with cause := some c, position := some s.transport.position })) := fates _ (hP.posed h rfl)
    split
    · exact hP.posed fated rfl
    · exact fated
  · exact hP.posed h rfl

/-- A first fault, from what the halt leaves (R159). -/
theorem reportFault_first (c : Cause) (running : s.fault.halted = false) (h : P (halted c s)) : P (reportFault c s) := by
  rw [Machine.reportFault_first running]
  exact hP.posed (hP.breakFilm c (hP.applyFate c h)) rfl

/-- The end of a step of a HALTED part, where the held capture keeps the invariant. -/
theorem settle_halted (stationary : ∀ u, P u → P (serviceStationary u)) (halted : s.fault.halted = true) (h : P s) : P (settle s) := by
  have served {u : State} (hu : u.fault.halted = true) (h : P u) :
      P (serviceCapture (syncReadAhead u)) ∧ (serviceCapture (syncReadAhead u)).fault.halted = true := by
    have same : (serviceCapture (syncReadAhead u)).still.base.fault = u.still.base.fault := by simp
    have read : (syncReadAhead u).fault.halted = true := (congrArg (fun x => x.base.fault.halted) (syncReadAhead_still u)).trans hu
    have lens {v : State} (hv : v.fault.halted = true) : serviceLens v = v := if_pos hv
    have held : (serviceStationary (syncReadAhead u)).fault.halted = true :=
      (congrArg (fun x => x.fault.halted) (serviceStationary_base _)).trans read
    refine ⟨?_, (congrArg FaultRecord.halted same).trans hu⟩
    rw [serviceCapture, lens read, lens held]
    exact stationary _ (hP.posed h (syncReadAhead_posed u))
  obtain ⟨first, firstHalted⟩ := served halted h
  have between : P (preemptReadAhead (serviceCapture (syncReadAhead s))) := hP.posed first (preemptReadAhead_posed _)
  have betweenHalted : (preemptReadAhead (serviceCapture (syncReadAhead s))).fault.halted = true :=
    (congrArg (fun x => x.base.fault.halted) (preemptReadAhead_still _)).trans firstHalted
  obtain ⟨second, -⟩ := served betweenHalted between
  unfold settle settleBlocks
  dsimp only
  rw [startRollJob_halted halted, arbitrate_halted firstHalted]
  exact hP.posed second (by simp)

end PoseInvariant

/-! ### The failed lens -/

/-- The lens is FAULTED at no known step, over a focus map. -/
def LensDown (m : List MapPoint) (s : State) : Prop := s.focus.state = .faulted ∧ s.focus.lens = none ∧ s.focus.map = m

/-- No search, no result, and no capture held. -/
def SearchGone (s : State) : Prop := s.focus.search = none ∧ s.focus.result = none ∧ s.capture.holding = none

theorem Focus.posed_faulted {f : Focus} : f.posed.state = .faulted ↔ f.state = .faulted := by
  unfold Focus.posed
  dsimp only
  split
  · next slewing => simp [slewing]
  · rfl

theorem LensDown.of_lens {m : List MapPoint} {s t : State} (h : LensDown m s) (ht : t.posed.lens = s.posed.lens) : LensDown m t := by
  obtain ⟨state, lens, map⟩ := h
  have posed : t.focus.posed = s.focus.posed := ht
  have lens' : t.focus.lens = s.focus.lens := (congrArg Focus.lens posed :)
  have map' : t.focus.map = s.focus.map := (congrArg Focus.map posed :)
  exact ⟨Focus.posed_faulted.mp (posed ▸ Focus.posed_faulted.mpr state), lens'.trans lens, map'.trans map⟩

theorem lensDown_invariant (m : List MapPoint) : PoseInvariant (LensDown m) where
  posed h ht := h.of_lens (congrArg Posed.lens ht)
  abandon {s} h := by
    obtain ⟨state, lens, map⟩ := h
    unfold abandonSearch
    split
    · exact ⟨state, lens, map⟩
    · exact ⟨by simp [state], lens, map⟩

theorem searchGone_invariant : PoseInvariant SearchGone where
  posed {s t} h ht := by
    have lens : t.focus.posed = s.focus.posed := congrArg Posed.lens ht
    have holding : t.capture.holding = s.capture.holding := congrArg Posed.holding ht
    have search : t.focus.search = s.focus.search := (congrArg Focus.search lens :)
    have result : t.focus.result = s.focus.result := (congrArg Focus.result lens :)
    exact ⟨search.trans h.1, result.trans h.2.1, holding.trans h.2.2⟩
  abandon {s} h := by simpa [abandonSearch, h.1] using h

section
variable {m : List MapPoint} {s : State} (h : LensDown m s)
include h

theorem LensDown.serviceLens : serviceLens s = s := by
  unfold Machine.serviceLens serveLens
  simp [h.1]

theorem LensDown.fireCapture (a : Armed) : LensDown m (fireCapture a s) := by
  have fired {u : State} (hu : LensDown m u) (result : Focus → Option FocusResult) :
      LensDown m ((unarm a.frame u).onFocus fun f => { f with result := result f }) := by
    obtain ⟨state, lens, map⟩ := hu.of_lens (congrArg Posed.lens (unarm_posed a.frame u))
    exact ⟨state, lens, map⟩
  exact fired (u := reportFired a.frame (s.focus.lens.getD 0) (s.onCapture _)) h _

theorem LensDown.fireAtAxis (a : Armed) : LensDown m (fireAtAxis a s) := by
  unfold Machine.fireAtAxis
  split
  · exact h.of_lens (missAtAxis_lens ..)
  · exact (h.fireCapture a).of_lens (setPhase_lens ..)

theorem LensDown.awaitLens (a : Armed) : LensDown m (awaitLens a s) := by
  unfold Machine.awaitLens awaitCamera
  (repeat' split)
  · exact h.of_lens (missAtAxis_lens ..)
  · exact h.fireAtAxis a
  · exact h.of_lens (setPhase_lens ..)
  · exact h

theorem LensDown.atAxisStep (a : Armed) : LensDown m (atAxisStep a s) := by
  unfold Machine.atAxisStep
  dsimp only
  split
  · obtain ⟨state, lens, map⟩ : LensDown m (disarm s) := h.of_lens (congrArg Posed.lens (disarm_posed s))
    exact ⟨by simp [setPhase, beginSearch, setSearchHold, state], lens, map⟩
  · exact LensDown.awaitLens (s := setPhase .waitLens s) h a

theorem LensDown.serviceStationary : LensDown m (serviceStationary s) := by
  have returned (a : Armed) {u : State} (hu : LensDown m u) : LensDown m (returnUnfired a u) :=
    hu.of_lens (by rw [returnUnfired_posed])
  unfold Machine.serviceStationary
  dsimp only
  split
  · exact h
  · split
    · exact h
    · exact h
    · split
      · exact returned _ h
      · exact h.atAxisStep _
    · (repeat' split)
      · exact returned _ ((lensDown_invariant m).abandon h)
      · exact h
      · have armed (a : Armed) : LensDown m (setPhase .waitLens (armTrigger a s)) := h
        rw [(armed _).serviceLens]
        exact (armed _).awaitLens _
    · split
      · exact returned _ h
      · exact h.awaitLens _
    · (repeat' split)
      · exact returned _ h
      · exact h.fireAtAxis _
      · exact h

end

theorem SearchGone.serviceStationary {s : State} (h : SearchGone s) : serviceStationary s = s := by
  simp [Machine.serviceStationary, h.2.2]

/-! ### The halt (R78, R115) -/

theorem haltSequencer_posed (s : State) : (haltSequencer s).posed = { s.posed with holding := none } := by
  unfold haltSequencer
  split
  · next free => rw [disarm_posed, State.posed, free]
  · rw [returnUnfired_posed]
    split <;> rfl

/-- What a halt makes of the focus controller, to the slew list (R78). -/
theorem halted_posed (c : Cause) (s : State) : ∃ u, (halted c s).posed = (haltFocus u).posed ∧ u.posed = { s.posed with holding := none } :=
  ⟨_, by rw [halted, haltTransport_posed, haltArbiter_posed], by rw [haltSequencer_posed]; rfl⟩

theorem haltFocus_down {m : List MapPoint} {s : State} (h : LensDown m s) : LensDown m (haltFocus s) := by
  obtain ⟨state, lens, map⟩ := (lensDown_invariant m).abandon h
  refine ⟨?_, ?_, ?_⟩ <;> simp only [haltFocus, State.onFocus_focus, state]
  · exact lens
  · exact map

theorem haltFocus_gone {s : State} (free : s.capture.holding = none) : SearchGone (haltFocus s) := by
  have search : (abandonSearch s).focus.search = none := by
    unfold abandonSearch
    split
    · assumption
    · rfl
  have held : (abandonSearch s).capture.holding = none := by
    unfold abandonSearch
    split <;> exact free
  refine ⟨?_, ?_, held⟩
  · rw [haltFocus, State.onFocus_focus]
    split <;> exact search
  · rw [haltFocus, State.onFocus_focus]
    split <;> rfl

theorem reportFault_halted (c : Cause) (s : State) : (reportFault c s).fault.halted = true := by
  have applied (u v : State) (h : v.still = (applyFate c u).still) : (breakFilm c v).fault = u.fault :=
    congrArg (fun x => x.base.fault) ((breakFilm_still c v).trans (h.trans (applyFate_still c u)))
  cases first : s.fault.halted with
  | false =>
    have kept : (halted c s).fault.halted = true := by
      refine congrArg FaultRecord.halted (fault_of_still (s := s.onFault fun _ => FaultRecord.first c s) ?_)
      simp [halted, FaultRecord.first]
    rw [Machine.reportFault_first first]
    exact (congrArg FaultRecord.halted (applied _ _ rfl)).trans kept
  | true =>
    unfold reportFault
    rw [if_pos first]
    dsimp only
    split
    · split
      · exact (congrArg FaultRecord.halted (applied _ _ (slacken_still _))).trans first
      · exact (congrArg FaultRecord.halted (applied _ _ rfl)).trans first
    · exact first

/-- A lens that failed is down when the step has ended, as the part is HALTED (R76 to R78). -/
theorem lensFails_down (s : State) : LensDown s.focus.map (lensFails s) :=
  ⟨rfl, rfl, congrArg Still.map (abandonSearch_still s)⟩

theorem settle_lensFaults_down (s : State) : LensDown s.focus.map (settle (lensFaults s)) := by
  have hP := lensDown_invariant s.focus.map
  have failed := lensFails_down s
  refine hP.settle_halted (fun u hu => hu.serviceStationary) (reportFault_halted _ _) ?_
  cases halted : (lensFails s).fault.halted with
  | true => exact hP.reportFault_later _ halted failed
  | false =>
    refine hP.reportFault_first _ halted ?_
    obtain ⟨u, posed, before⟩ := halted_posed .lensFault (lensFails s)
    exact hP.posed (haltFocus_down (failed.of_lens (congrArg Posed.lens before :))) posed

/-- A search that failed with the lens is gone when the step has ended, where the fault is the first (R92). -/
theorem settle_lensFaults_gone {s : State} (running : s.fault.halted = false) : SearchGone (settle (lensFaults s)) := by
  have hP := searchGone_invariant
  have running' : (lensFails s).fault.halted = false := (congrArg (fun x => x.base.fault.halted) (lensFails_still s)).trans running
  refine hP.settle_halted (fun u hu => by rwa [hu.serviceStationary]) (reportFault_halted _ _) ?_
  refine hP.reportFault_first _ running' ?_
  obtain ⟨u, posed, before⟩ := halted_posed .lensFault (lensFails s)
  exact hP.posed (haltFocus_gone (congrArg Posed.holding before :)) posed

end Sys2Proof.Machine
end

section
/-! PROOFS. The lens drive: homing, steps toward a target, and how a focus search begins and its TRIAL is fired (R74, R75, R84 to R89,
R111). -/

namespace Sys2Proof.Machine

/-! ### Homing (R74, R75) -/

theorem settles_homeSwitchSet {s : State} (homing : s.focus.state = .homing) {P : State → Prop}
    (h : P (endHoming (putHomeSwitch true s))) : Settles .homeSwitchSet s P :=
  ⟨_, congrArg Host.Outcome.next (if_pos (beq_iff_eq.mpr homing)), h⟩

theorem exec_homeSwitchSet_level {s : State} (other : s.focus.state ≠ .homing) :
    exec .homeSwitchSet s = .next (putHomeSwitch true s) :=
  congrArg Host.Outcome.next (if_neg (by simpa [putHomeSwitch] using other))

theorem exec_lensStep {s : State} {t : State} (issues : issuesSteps s = true) (issued : issueStep s = t) :
    exec (.lensStep false) s = .next (settle t) := by
  refine congrArg Host.Outcome.next ?_
  rw [← issued]
  exact if_pos issues

theorem exec_lensStep_homing {s : State} (homing : s.focus.state = .homing) (few : s.focus.homeCount < 4500) :
    exec (.lensStep false) s = .next (settle { s with focus := { s.focus with homeCount := s.focus.homeCount + 1 } }) := by
  have more : s.focus.homeCount < Config.homingSteps := few
  exact exec_lensStep (by simp [issuesSteps, homing, more]) (by simp [issueStep, homing, more, State.onFocus])

/-- A search that ends leaves the lens where it is, IDLE (R91). -/
theorem finishSearch_lens (sr : FocusSearch) (s : State) : (finishSearch sr s).focus.state = .idle ∧
    (finishSearch sr s).focus.lens = s.focus.lens ∧ (finishSearch sr s).focus.recal = s.focus.recal := by
  unfold finishSearch
  dsimp only
  split <;> exact ⟨rfl, rfl, rfl⟩

/-- What a search does in SEARCHING (R89 to R91). -/
theorem serveTrial_cases (s : State) : serveTrial s = s ∨ serveTrial s = fireTrial s ∨ (∃ g, serveTrial s = setStage g s) ∨
    ∃ sr, serveTrial s = finishSearch sr s := by
  unfold serveTrial
  (repeat' split)
  · exact .inl rfl
  · exact .inr (.inr (.inr ⟨_, rfl⟩))
  · exact .inl rfl
  · exact .inr (.inl rfl)
  · exact .inl rfl
  · exact .inr (.inl rfl)
  · exact .inr (.inr (.inl ⟨_, rfl⟩))
  · exact .inl rfl

theorem serveHead_cons {s : State} {e : SlewEntry} {rest : List SlewEntry} (slew : s.focus.slew = e :: rest) : serveHead s =
    s.onFocus fun f => { f with slew := { e with target := some (e.target.getD (slewTarget e s)) } :: rest,
                                state := if f.lens = some (e.target.getD (slewTarget e s)) then .idle else .slewing } := by
  simp only [serveHead, slew]

/-- Served from IDLE or SEARCHING, the lens stays where it is, homed. -/
theorem serveLens_homed {s : State} (homed : s.focus.state = .idle ∨ s.focus.state = .searching) :
    (serveLens s).focus.lens = s.focus.lens ∧ (serveLens s).focus.recal = s.focus.recal ∧
      (serveLens s).focus.state ≠ .unhomed ∧ (serveLens s).focus.state ≠ .homing := by
  rcases homed with idle | searching
  · have served : serveLens s = serveHead s := by simp only [serveLens, idle]
    rw [served]
    cases slew : s.focus.slew with
    | nil =>
      have same : serveHead s = s := by simp only [serveHead, slew]
      rw [same]
      exact ⟨rfl, rfl, by simp [idle], by simp [idle]⟩
    | cons e rest =>
      rw [serveHead_cons slew]
      refine ⟨rfl, rfl, ?_⟩
      rcases ite_eq_or_eq (s.focus.lens = some (e.target.getD (slewTarget e s))) LensState.idle .slewing with h | h <;> simp [h]
  · have kept : s.focus.state ≠ .unhomed ∧ s.focus.state ≠ .homing := by simp [searching]
    have served : serveLens s = serveTrial s := by simp only [serveLens, searching]
    rw [served]
    rcases serveTrial_cases s with same | fires | ⟨g, stays⟩ | ⟨sr, ends⟩
    · rw [same]
      exact ⟨rfl, rfl, kept⟩
    · rw [fires]
      exact ⟨rfl, rfl, kept⟩
    · rw [stays]
      exact ⟨rfl, rfl, kept⟩
    · obtain ⟨state, lens, recal⟩ := finishSearch_lens sr s
      rw [ends]
      exact ⟨lens, recal, by simp [state], by simp [state]⟩

theorem serviceLens_unhomed {s : State} (running : s.fault.halted = false) (unhomed : s.focus.state = .unhomed)
    (work : s.focus.slew ≠ [] ∨ s.focus.search ≠ none) : serviceLens s = serveLens (startHoming s) := by
  have has : s.focus.hasWork = true := by
    rcases work with slew | search
    · simp [Focus.hasWork, slew]
    · simp [Focus.hasWork, Option.isSome_iff_ne_none.mpr search]
  rw [serviceLens, if_neg (by simp [running]), if_pos ⟨unhomed, has⟩]

/-! ### Steps toward a target (R86, R89) -/

/-- A step number that the lens is driven to: the head entry's target in SLEWING, the trial step in SEARCHING. -/
def DrivenTo (tgt : Nat) (s : State) : Prop :=
  (∃ e rest, s.focus.state = .slewing ∧ s.focus.slew = e :: rest ∧ e.target = some tgt) ∨
    (∃ sr rest, s.focus.state = .searching ∧ s.focus.search = some sr ∧ sr.steps = tgt :: rest)

theorem DrivenTo.issues {tgt n : Nat} {s : State} (h : DrivenTo tgt s) (lens : s.focus.lens = some n) :
    issuesSteps s = (n != tgt) ∧
      issueStep s = { s with focus := { s.focus with lens := some (stepToward tgt n) } } := by
  rcases h with ⟨e, rest, state, slew, target⟩ | ⟨sr, rest, state, search, steps⟩
  · obtain ⟨frame, mid, _⟩ := e
    subst target
    exact ⟨by simp only [issuesSteps, state, slew, lens], by simp only [issueStep, state, slew, lens, State.onFocus]⟩
  · obtain ⟨⟩ := sr
    subst steps
    exact ⟨by simp only [issuesSteps, state, search, lens], by simp only [issueStep, state, search, lens, State.onFocus]⟩

theorem DrivenTo.lensStep {tgt n : Nat} {s : State} (h : DrivenTo tgt s) (lens : s.focus.lens = some n) :
    (n < tgt → exec (.lensStep false) s = .next (settle { s with focus := { s.focus with lens := some (n + 1) } })) ∧
      (tgt < n → exec (.lensStep false) s = .next (settle { s with focus := { s.focus with lens := some (n - 1) } })) ∧
      (n = tgt → exec (.lensStep false) s = .next s) := by
  obtain ⟨issues, issued⟩ := h.issues lens
  refine ⟨fun below => ?_, fun above => ?_, fun there => ?_⟩
  · refine exec_lensStep (issues.trans (bne_iff_ne.mpr (Nat.ne_of_lt below))) (issued.trans ?_)
    rw [stepToward, if_pos below]
  · refine exec_lensStep (issues.trans (bne_iff_ne.mpr (Nat.ne_of_gt above))) (issued.trans ?_)
    rw [stepToward, if_neg (Nat.lt_asymm above), if_pos above]
  · exact exec_taken_none (s := s) rfl (issues.trans (by simp [there]))

/-! ### A search begins (R84, R88, R111) -/

theorem needsSearch_iff (frame mid : Nat) (policy : Bool) (s : State) : needsSearch frame mid policy s = true ↔ policy = true ∧
    (∀ r, s.focus.result = some r → r.frame ≠ frame) ∧
    ∀ q ∈ s.focus.map, s.transport.profile.focusReach < max q.position mid - min q.position mid := by
  have far (q : MapPoint) : dist q.position mid = max q.position mid - min q.position mid := by
    unfold dist
    omega
  unfold needsSearch
  simp only [far]
  cases result : s.focus.result with
  | none => cases policy <;> simp
  | some r => cases policy <;> by_cases own : r.frame = frame <;> simp [own]

/-- A frame held at the axis that needs a search gives up its trigger, and the search is taken. -/
theorem serviceStationary_begins {h : Stationary} {j : Job} {mid : Nat} {s : State} (held : s.capture.holding = some h)
    (phase : h.phase = .atAxis) (ready : s.transport.state = .ready) (exact_ : s.transport.reference = .exact)
    (free : s.focus.search = none) (found : findJob h.trigger.job s = some j) (opened : j.isOpen = true)
    (mid_eq : mid = h.trigger.t - s.transport.profile.axisOffset) (needs : needsSearch h.trigger.frame mid j.search s = true) :
    serviceStationary s = setPhase .searching (beginSearch h.trigger.frame mid h.trigger.job (disarm s)) := by
  have policy : policySearch h.trigger.job s = j.search := by simp [policySearch, openJob_of_findJob found opened]
  subst mid_eq
  unfold serviceStationary
  rw [held]
  dsimp only
  rw [phase]
  simp [ready, exact_, atAxisStep, policy, needs, free]

/-- With the list emptied a SLEWING lens is at rest (R87). -/
theorem restIfEmptied_nil (f : Focus) : { f with slew := [] }.restIfEmptied =
    { f with slew := [], state := if f.state = .slewing then .idle else f.state } := by
  by_cases slewing : f.state = .slewing <;> simp [Focus.restIfEmptied, slewing]

theorem disarm_focus (s : State) : (disarm s).focus =
    { s.focus with slew := [], state := if s.focus.state = .slewing then .idle else s.focus.state } := restIfEmptied_nil s.focus

/-! ### The TRIAL (R89) -/

section
variable {sr : FocusSearch} {st : Nat} {rest : List Nat} {s : State} (running : s.fault.halted = false)
  (searching : s.focus.state = .searching)
include running searching

theorem serviceLens_searching : serviceLens s = serveTrial s := by
  simp only [serviceLens, running, Bool.false_eq_true, if_false, searching, reduceCtorEq, false_and, serveLens]

variable (search : s.focus.search = some sr)
include search

theorem serviceLens_through (through : sr.steps = []) : serviceLens s = finishSearch sr s := by
  rw [serviceLens_searching running searching]
  simp only [serveTrial, search, through]

variable (steps : sr.steps = st :: rest)
include steps

theorem serviceLens_away (away : s.focus.lens ≠ some st) : serviceLens s = s := by
  rw [serviceLens_searching running searching]
  simp only [serveTrial, search, steps, away, if_false]

variable (there : s.focus.lens = some st)
include there

theorem serviceLens_fired (fired : sr.stage = .fired) : serviceLens s = s := by
  rw [serviceLens_searching running searching]
  simp only [serveTrial, search, steps, there, if_true, fired]

theorem serviceLens_waiting {limit : Nat} (waiting : sr.stage = .waiting limit) :
    serviceLens s = if mayFire s then fireTrial s else s := by
  rw [serviceLens_searching running searching]
  simp only [serveTrial, search, steps, there, if_true, waiting]

theorem serviceLens_stepping (stepping : sr.stage = .stepping) :
    serviceLens s = if mayFire s then fireTrial s else setStage (.waiting s.transport.profile.answerLimit) s := by
  rw [serviceLens_searching running searching]
  simp only [serveTrial, search, steps, there, if_true, stepping]

end

theorem setStage_eq {sr : FocusSearch} {s : State} (search : s.focus.search = some sr) (g : TrialStage) :
    setStage g s = { s with focus := { s.focus with search := some { sr with stage := g } } } := by
  simp [setStage, State.onFocus, search]

theorem fireTrial_eq {sr : FocusSearch} {s : State} (search : s.focus.search = some sr) : fireTrial s = { s with
    focus := { s.focus with search := some { sr with stage := .fired } },
    capture := { s.capture with handshake := .waitAnswer, outstanding := some (.trial s.transport.profile.answerLimit) } } :=
  setStage_eq (s := s.onCapture _) search .fired

/-- At rest with tension on, a trigger may be fired where the handshake is READY (R95). -/
theorem mayFire_ready {s : State} (running : s.fault.halted = false) (ready : s.transport.state = .ready)
    (taut : s.transport.tension = .taut) : mayFire s = (s.capture.handshake == .ready) := by
  simp [mayFire, running, ready, taut]

end Sys2Proof.Machine

open Sys2Proof Sys2Proof.Machine

/-- Settles O52: each row and each service of the lens by the lens state and what the head of the work names. -/
theorem lensSteps : Obligations.LensSteps := by
  unfold Obligations.LensSteps
  intro s
  refine ⟨fun homing => settles_homeSwitchSet homing ⟨?_, rfl, rfl⟩, fun other => ⟨_, exec_homeSwitchSet_level other, rfl, rfl⟩, rfl,
    exec_lensStep_homing, fun tgt n lens driven => DrivenTo.lensStep driven lens,
    fun running unhomed work => ⟨fun clear => ?_, fun set => ?_⟩, fun frame mid policy => needsSearch_iff frame mid policy s,
    fun h j mid held phase ready exact_ free found opened mid_eq needs => ?_,
    fun sr st rest at_ running searching search steps stages => ?_⟩
  · simp only [endHoming, State.onFocus_focus]
    cases search : s.focus.search <;> simp [putHomeSwitch, search]
  · rw [serviceLens_unhomed running unhomed work, startHoming, clear]
    rfl
  · have homed : startHoming s = endHoming (s.onFocus fun f => { f with state := .homing, homeCount := 0, lens := none }) :=
      if_pos set
    rw [serviceLens_unhomed running unhomed work, homed]
    refine serveLens_homed (s := endHoming _) ?_
    simp only [endHoming, State.onFocus_focus]
    exact (ite_eq_or_eq _ _ _).symm
  · refine ⟨_, rfl, ?_⟩
    rw [serviceStationary_begins held phase ready exact_ free found opened mid_eq needs]
    have disarmed := disarm_focus s
    have begun : (setPhase .searching (beginSearch h.trigger.frame mid h.trigger.job (disarm s))).focus = { (disarm s).focus with
        result := none, search := some (FocusSearch.begin h.trigger.frame mid (focusTarget mid (disarm s)) h.trigger.job),
        state := if (disarm s).focus.state = .idle ∨ (disarm s).focus.state = .slewing then .searching
          else (disarm s).focus.state } := rfl
    have target : focusTarget mid (disarm s) = focusTarget mid s := by
      unfold focusTarget
      rw [disarmed]
      rfl
    rw [begun, target, disarmed]
    refine ⟨rfl, rfl, rfl, ?_, rfl, rfl, rfl, rfl, rfl, rfl, ?_, ?_, rfl⟩
    · exact congrArg (Option.map _) held
    · rintro (idle | slewing) <;> simp [*]
    · rintro (unhomed | homing) <;> simp [*]
  · obtain rfl : at_ = fun g => { s.focus with search := some { sr with stage := g } } := funext stages
    have fires (ready : s.transport.state = .ready) (taut : s.transport.tension = .taut) := mayFire_ready running ready taut
    refine ⟨serviceLens_away running searching search steps, serviceLens_fired running searching search steps,
      fun there notFired ready taut => ⟨fun may => ?_, fun mayNot => ⟨fun stepping => ?_, fun lim waiting => ?_⟩⟩⟩
    · have fired : serviceLens s = fireTrial s := by
        cases stage : sr.stage with
        | fired => exact absurd stage notFired
        | stepping => simp [serviceLens_stepping running searching search steps there stage, fires ready taut, may]
        | waiting lim => simp [serviceLens_waiting running searching search steps there stage, fires ready taut, may]
      rw [fired]
      exact fireTrial_eq search
    · rw [serviceLens_stepping running searching search steps there stepping, fires ready taut, beq_false_of_ne mayNot]
      exact setStage_eq search _
    · rw [serviceLens_waiting running searching search steps there waiting, fires ready taut, beq_false_of_ne mayNot]
      rfl

end

section
/-! PROOFS. The trials of a focus search: the steps of its phases, the best trial, and the record that takes it on (R89 to R91). -/

namespace Sys2Proof.Machine

/-! ### The steps of a phase (R90) -/

/-- The steps of a list of multiples that were not tried, each once. -/
def stepsOf (f : Int → Nat) (tried : List Nat) (ks : List Int) (acc : List Nat) : List Nat :=
  ks.foldl (fun acc k => if tried.contains (f k) || acc.contains (f k) then acc else acc ++ [f k]) acc

theorem stepsOf_cons (f : Int → Nat) (tried : List Nat) (k : Int) (ks : List Int) (acc : List Nat) : stepsOf f tried (k :: ks) acc =
    stepsOf f tried ks (if tried.contains (f k) || acc.contains (f k) then acc else acc ++ [f k]) := rfl

theorem mem_stepsOf {f : Int → Nat} {tried : List Nat} {ks : List Int} {acc : List Nat} {x : Nat} :
    x ∈ stepsOf f tried ks acc ↔ x ∈ acc ∨ x ∉ tried ∧ ∃ k ∈ ks, x = f k := by
  induction ks generalizing acc with
  | nil => simp [stepsOf]
  | cons k ks ih =>
    rw [stepsOf_cons, ih]
    by_cases done : f k ∈ tried ∨ f k ∈ acc
    · have skips : (tried.contains (f k) || acc.contains (f k)) = true := by simpa using done
      rw [if_pos skips]
      refine or_congr_right' fun absent => and_congr_right fun untried => ?_
      have other : x ≠ f k := by
        rintro rfl
        exact done.elim untried absent
      simp [other]
    · have takes : ¬ (tried.contains (f k) || acc.contains (f k)) = true := by simpa using done
      rw [if_neg takes]
      rw [not_or] at done
      by_cases own : x = f k
      · subst own
        simp [done.1]
      · simp [own]

/-- Multiples in ascending order of their steps give steps in ascending order. -/
theorem stepsOf_ascending {f : Int → Nat} (tried : List Nat) {ks : List Int} {acc : List Nat}
    (ascending : ks.Pairwise fun i j => f i ≤ f j) (acc_ascending : acc.Pairwise (· < ·)) (below : ∀ a ∈ acc, ∀ k ∈ ks, a ≤ f k) :
    (stepsOf f tried ks acc).Pairwise (· < ·) := by
  induction ks generalizing acc with
  | nil => exact acc_ascending
  | cons k ks ih =>
    obtain ⟨above, rest⟩ := List.pairwise_cons.mp ascending
    rw [stepsOf_cons]
    split
    · exact ih rest acc_ascending fun a ha j hj => below a ha j (List.mem_cons_of_mem _ hj)
    · next takes =>
      have absent : f k ∉ acc := fun member => takes (by simp [member])
      refine ih rest (List.pairwise_append.mpr ⟨acc_ascending, List.pairwise_singleton _ _, fun a ha b hb => ?_⟩) fun a ha j hj => ?_
      · rw [List.mem_singleton.mp hb]
        exact Nat.lt_of_le_of_ne (below a ha k List.mem_cons_self) fun same => absent (same ▸ ha)
      · rcases List.mem_append.mp ha with old | new
        · exact below a old j (List.mem_cons_of_mem _ hj)
        · rw [List.mem_singleton.mp new]
          exact above j hj

/-- The step a multiple of the pitch away from the centre (R90). -/
def stepAt (centre pitch : Nat) (k : Int) : Nat := clampStep ((centre : Int) + k * pitch)

theorem stepAt_le (centre pitch : Nat) {i j : Int} (h : i < j) : stepAt centre pitch i ≤ stepAt centre pitch j := by
  have further : i * (pitch : Int) ≤ j * pitch := Int.mul_le_mul_of_nonneg_right (Int.le_of_lt h) (Int.natCast_nonneg _)
  unfold stepAt clampStep
  omega

theorem trialSteps_eq (centre pitch : Nat) (tried : List Nat) : trialSteps centre pitch tried =
    stepsOf (stepAt centre pitch) tried [-4, -3, -2, -1, 0, 1, 2, 3, 4] [] := rfl

theorem trialSteps_ascending (centre pitch : Nat) (tried : List Nat) : (trialSteps centre pitch tried).Pairwise (· < ·) := by
  have multiples : ([-4, -3, -2, -1, 0, 1, 2, 3, 4] : List Int).Pairwise (· < ·) := by decide
  rw [trialSteps_eq]
  exact stepsOf_ascending tried (multiples.imp (stepAt_le centre pitch)) .nil nofun

theorem mem_trialSteps (centre pitch : Nat) (tried : List Nat) (x : Nat) : x ∈ trialSteps centre pitch tried ↔
    x ∉ tried ∧ ∃ k : Int, -4 ≤ k ∧ k ≤ 4 ∧ (x : Int) = max 0 (min 4095 ((centre : Int) + k * pitch)) := by
  have multiples (k : Int) : k ∈ ([-4, -3, -2, -1, 0, 1, 2, 3, 4] : List Int) ↔ -4 ≤ k ∧ k ≤ 4 := by
    simp only [List.mem_cons, List.not_mem_nil, or_false]
    omega
  have at_ (k : Int) : x = stepAt centre pitch k ↔ (x : Int) = max 0 (min 4095 ((centre : Int) + k * pitch)) := by
    rw [← clampStep_eq]
    exact Int.ofNat_inj.symm
  rw [trialSteps_eq, mem_stepsOf]
  simp only [List.not_mem_nil, false_or, multiples, at_, and_assoc]

/-! ### The best trial (R91) -/

/-- A trial is at least as good as another: a higher metric, then nearer the starting target, then at or below it (R91). -/
def Trial.AtLeast (start : Nat) (b x : Trial) : Prop :=
  x.metric < b.metric ∨ x.metric = b.metric ∧
    (max b.lens start - min b.lens start < max x.lens start - min x.lens start ∨
      max b.lens start - min b.lens start = max x.lens start - min x.lens start ∧ b.lens ≤ x.lens)

theorem Trial.AtLeast.refl (start : Nat) (b : Trial) : b.AtLeast start b := .inr ⟨rfl, .inr ⟨rfl, Nat.le_refl _⟩⟩

theorem Trial.AtLeast.trans {start : Nat} {a b c : Trial} (h : a.AtLeast start b) (k : b.AtLeast start c) : a.AtLeast start c := by
  unfold Trial.AtLeast at *
  omega

theorem Trial.better_iff (start : Nat) (x y : Trial) : x.better start y = true ↔ y.metric < x.metric ∨ x.metric = y.metric ∧
    (dist x.lens start < dist y.lens start ∨ dist x.lens start = dist y.lens start ∧ x.lens < y.lens) := by
  simp [Trial.better]

theorem Trial.better_atLeast {start : Nat} {x y : Trial} (h : x.better start y = true) : x.AtLeast start y := by
  rw [Trial.better_iff] at h
  unfold dist at h
  unfold Trial.AtLeast
  omega

theorem Trial.atLeast_of_not_better {start : Nat} {x y : Trial} (h : ¬ y.better start x = true) : x.AtLeast start y := by
  rw [Trial.better_iff] at h
  unfold dist at h
  unfold Trial.AtLeast
  omega

theorem bestTrial_spec (start : Nat) {ts : List Trial} (some_ : ts ≠ []) :
    ∃ b ∈ ts, bestTrial start ts = some b ∧ ∀ x ∈ ts, b.AtLeast start x := by
  induction ts with
  | nil => exact absurd rfl some_
  | cons x xs ih =>
    by_cases single : xs = []
    · subst single
      exact ⟨x, List.mem_cons_self, rfl, fun y hy => by rw [List.mem_singleton.mp hy]; exact .refl start x⟩
    · obtain ⟨y, hy, best, most⟩ := ih single
      unfold bestTrial
      rw [best]
      by_cases better : y.better start x = true
      · refine ⟨y, List.mem_cons_of_mem _ hy, if_pos better, fun z hz => ?_⟩
        rcases List.mem_cons.mp hz with rfl | later
        · exact Trial.better_atLeast better
        · exact most z later
      · refine ⟨x, List.mem_cons_self, if_neg better, fun z hz => ?_⟩
        rcases List.mem_cons.mp hz with rfl | later
        · exact .refl start z
        · exact (Trial.atLeast_of_not_better better).trans (most z later)

theorem bestTrial_best {start : Nat} {ts : List Trial} {b : Trial} (h : bestTrial start ts = some b) :
    b ∈ ts ∧ ∀ x ∈ ts, b.AtLeast start x := by
  have some_ : ts ≠ [] := by
    rintro rfl
    cases h
  obtain ⟨b', member, best, most⟩ := bestTrial_spec start some_
  cases h.symm.trans best
  exact ⟨member, most⟩

/-! ### The search taken to its next step (R89 to R91) -/

/-- The search with the trial under way recorded, before it is seen whether the phase is through. -/
def FocusSearch.tried (st : Nat) (rest : List Nat) (v : Nat) (answered : Bool) (sr : FocusSearch) : FocusSearch :=
  { sr with trials := sr.trials ++ [{ lens := st, metric := v, answered := answered }], steps := rest, stage := .stepping }

theorem FocusSearch.record_eq {sr : FocusSearch} {st : Nat} {rest : List Nat} (steps : sr.steps = st :: rest) (v : Nat)
    (answered : Bool) : sr.record v answered = (sr.tried st rest v answered).advance := by
  simp only [FocusSearch.record, steps, FocusSearch.tried]

section
variable {next : FocusSearch} {b : Trial} (best : bestTrial next.start next.trials = some b)
include best

theorem FocusSearch.toFine_eq : next.toFine =
    { next with phase := .fine, steps := trialSteps b.lens 5 (next.trials.map (·.lens)) } := by
  simp only [FocusSearch.toFine, best]

/-- No extension follows where one was made, the best lies at a limit, or between two others (R90). -/
theorem FocusSearch.wantsExtension_none (h : next.extensionDone = true ∨ b.lens = 0 ∨ b.lens = 4095 ∨
    (∃ x ∈ next.trials, x.lens < b.lens) ∧ (∃ x ∈ next.trials, b.lens < x.lens)) : next.wantsExtension = none := by
  simp only [FocusSearch.wantsExtension, best]
  refine if_neg fun wants => ?_
  simp only [Bool.and_eq_true, Bool.or_eq_true, Bool.not_eq_true', bne_iff_ne, List.all_eq_true, decide_eq_true_eq,
    Config.maxStep] at wants
  obtain ⟨⟨⟨undone, notLow⟩, notHigh⟩, ends⟩ := wants
  rcases h with done | low | high | ⟨⟨x, hx, below⟩, y, hy, above⟩
  · simp [undone] at done
  · exact notLow low
  · exact notHigh high
  · rcases ends with lowest | highest
    · exact absurd (lowest x hx) (Nat.not_le.mpr below)
    · exact absurd (highest y hy) (Nat.not_le.mpr above)

theorem FocusSearch.wantsExtension_some (undone : next.extensionDone = false) (notLow : b.lens ≠ 0) (notHigh : b.lens ≠ 4095)
    (ends : (∀ x ∈ next.trials, b.lens ≤ x.lens) ∨ (∀ x ∈ next.trials, x.lens ≤ b.lens)) : next.wantsExtension = some b := by
  simp only [FocusSearch.wantsExtension, best]
  refine if_pos ?_
  simp only [Bool.and_eq_true, Bool.or_eq_true, Bool.not_eq_true', bne_iff_ne, List.all_eq_true, decide_eq_true_eq, Config.maxStep]
  exact ⟨⟨⟨undone, notLow⟩, notHigh⟩, ends⟩

variable (through : next.steps = [])
include through

theorem FocusSearch.advance_extension (phase : next.phase = .extension) : next.advance =
    { next with phase := .fine, steps := trialSteps b.lens 5 (next.trials.map (·.lens)) } := by
  rw [← FocusSearch.toFine_eq best]
  simp [FocusSearch.advance, through, phase]

theorem FocusSearch.advance_coarse_fine (phase : next.phase = .coarse) (no : next.wantsExtension = none) : next.advance =
    { next with phase := .fine, steps := trialSteps b.lens 5 (next.trials.map (·.lens)) } := by
  rw [← FocusSearch.toFine_eq best]
  simp [FocusSearch.advance, through, phase, no]

theorem FocusSearch.advance_coarse_extension (phase : next.phase = .coarse) (wants : next.wantsExtension = some b)
    {more : List Nat} (more_eq : more = trialSteps b.lens 24 (next.trials.map (·.lens))) :
    (more ≠ [] → next.advance = { next with phase := .extension, extensionDone := true, steps := more }) ∧
      (more = [] → next.advance = { next with phase := .fine, extensionDone := true,
                                              steps := trialSteps b.lens 5 (next.trials.map (·.lens)) }) := by
  have advances : next.advance = if more.isEmpty then
      FocusSearch.toFine { next with phase := .extension, extensionDone := true, steps := [] }
      else { next with phase := .extension, extensionDone := true, steps := more } := by
    simp [FocusSearch.advance, through, phase, wants, more_eq]
  rw [advances]
  refine ⟨fun left => if_neg (by simpa using left), fun none_ => ?_⟩
  rw [if_pos (by simpa using none_)]
  exact FocusSearch.toFine_eq (next := { next with phase := .extension, extensionDone := true, steps := [] }) best

end

theorem FocusSearch.advance_same {next : FocusSearch} (h : next.steps ≠ [] ∨ next.phase = .fine) : next.advance = next := by
  unfold FocusSearch.advance
  split
  · rfl
  · next through =>
    have phase : next.phase = .fine := h.resolve_left (by simpa using through)
    simp [phase]

end Sys2Proof.Machine
end

section
/-! PROOFS. LENS_STALL, a trial's answer, and the end of a focus search (R77, R89, R91, R92). -/

namespace Sys2Proof.Machine

/-! ### The end of a search (R91) -/

/-- A search ended WEAK: its starting target is the result, and its frame's entry is flagged. -/
def EndsWeak (s : State) (sr : FocusSearch) (u : State) : Prop :=
  u.focus.search = none ∧ u.focus.result = some { frame := sr.frame, lens := sr.start } ∧
    u.focus.map = s.focus.map ∧ u.arbiter.searchHold = false ∧ u.transport = s.transport ∧ u.fault = s.fault ∧
    ∀ e, s.index.entries[sr.frame]? = some e → ∃ x, u.index.entries[sr.frame]? = some x ∧
      x.flags.focusWeak = true ∧ x.low = e.low ∧ x.high = e.high ∧ x.address = e.address

/-- A search's outcome was decided: STRONG with a metric that reaches the floor on an answered search, else WEAK. -/
def Decided (s : State) (sr : FocusSearch) (u : State) : Prop :=
  u.focus.state = .idle ∧ u.focus.lens = s.focus.lens ∧
    (∀ b, bestTrial sr.start sr.trials = some b → (∃ x ∈ sr.trials, x.answered = true) →
      s.transport.profile.metricFloor ≤ b.metric →
      u.focus.map = placePoint { position := sr.mid, lens := b.lens, source := .search } s.focus.map ∧
      u.focus.result = some { frame := sr.frame, lens := b.lens } ∧ u.focus.search = none ∧
      u.arbiter.searchHold = false ∧ u.transport = s.transport ∧ u.index = s.index ∧ u.fault = s.fault) ∧
    (sr.trials = [] ∨ (∀ x ∈ sr.trials, x.answered = false) ∨
        (∀ x ∈ sr.trials, x.metric < s.transport.profile.metricFloor) → EndsWeak s sr u)

theorem reportWeak_entry {n : Nat} {s : State} {e : Entry} (h : s.index.entries[n]? = some e) :
    ∃ x, (reportWeak n s).index.entries[n]? = some x ∧ x.flags.focusWeak = true ∧ x.low = e.low ∧ x.high = e.high ∧
      x.address = e.address := by
  refine ⟨{ e with flags := { e.flags with focusWeak := true } }, ?_, rfl, rfl, rfl, rfl⟩
  simp [reportWeak, modifyEntry, h]

theorem strong_of_best {sr : FocusSearch} {b : Trial} {floor : Nat} (best : bestTrial sr.start sr.trials = some b)
    (answered : ∃ x ∈ sr.trials, x.answered = true) (reaches : floor ≤ b.metric) : sr.strong floor = some b.lens := by
  have any : sr.trials.any (·.answered) = true := List.any_eq_true.mpr answered
  simp [FocusSearch.strong, best, any, reaches]

theorem not_strong {sr : FocusSearch} {floor : Nat} (h : sr.trials = [] ∨ (∀ x ∈ sr.trials, x.answered = false) ∨
    (∀ x ∈ sr.trials, x.metric < floor)) : sr.strong floor = none := by
  unfold FocusSearch.strong
  split
  · rfl
  · next b best =>
    obtain ⟨member, -⟩ := bestTrial_best best
    refine if_neg fun strong => ?_
    rw [Bool.and_eq_true, List.any_eq_true, decide_eq_true_eq] at strong
    obtain ⟨⟨x, hx, answered⟩, reaches⟩ := strong
    rcases h with empty | unanswered | low
    · rw [empty] at member
      cases member
    · rw [unanswered x hx] at answered
      cases answered
    · exact absurd reaches (Nat.not_le.mpr (low b member))

theorem finishSearch_decided (sr : FocusSearch) (s : State) : Decided s sr (finishSearch sr s) := by
  obtain ⟨state, lens, -⟩ := finishSearch_lens sr s
  refine ⟨state, lens, fun b best answered reaches => ?_, fun weak => ?_⟩
  · have strong := strong_of_best best answered reaches
    unfold finishSearch
    rw [strong]
    exact ⟨rfl, rfl, rfl, rfl, rfl, rfl, rfl⟩
  · have weak' := not_strong weak
    unfold finishSearch
    rw [weak']
    exact ⟨rfl, rfl, rfl, rfl, rfl, rfl, fun e he => reportWeak_entry he⟩

/-! ### Stalls (R77, R92) -/

section
variable {s : State} (steps : s.focus.state = .homing ∨ s.focus.state = .slewing ∨ s.focus.state = .searching)
include steps

theorem stallTaken_of_steps : stallTaken s = true := by
  unfold stallTaken
  rcases steps with state | state | state <;> rw [state]

theorem settles_stall_first {P : State → Prop} (first : s.focus.recal = false) (h : P (lensLosesHome s)) : Settles .lensStall s P := by
  have stalls : lensStalls s = lensLosesHome s := by simp [lensStalls, first]
  exact .of_taken rfl (stallTaken_of_steps steps) (stalls ▸ h)

theorem exec_stall_second (second : s.focus.recal = true) : exec .lensStall s = .next (settle (lensFaults s)) := by
  have stalls : lensStalls s = lensFaults s := by simp [lensStalls, second]
  rw [← stalls]
  exact congrArg Host.Outcome.next (if_pos (stallTaken_of_steps steps))

end

theorem stallTaken_of_rests {s : State} (rests : s.focus.state = .unhomed ∨ s.focus.state = .idle ∨ s.focus.state = .faulted) :
    stallTaken s = false := by
  unfold stallTaken
  rcases rests with state | state | state <;> rw [state]

theorem lensLosesHome_free {s : State} (free : s.focus.search = none) :
    lensLosesHome s = { s with focus := { s.focus with state := .unhomed, lens := none, recal := true } } := by
  simp [lensLosesHome, free, State.onFocus]

theorem lensLosesHome_search {s : State} {sr : FocusSearch} (search : s.focus.search = some sr) :
    EndsWeak s sr (lensLosesHome s) ∧ (lensLosesHome s).focus.state = .unhomed ∧ (lensLosesHome s).focus.lens = none ∧
      (lensLosesHome s).focus.recal = true ∧ (lensLosesHome s).focus.slew = s.focus.slew := by
  unfold lensLosesHome
  rw [search]
  exact ⟨⟨rfl, rfl, rfl, rfl, rfl, rfl, fun e he => reportWeak_entry he⟩, rfl, rfl, rfl, rfl⟩

/-! ### A trial's wait and its answer (R89) -/

theorem settles_trialWait {s : State} {sr : FocusSearch} {limit : Nat} (search : s.focus.search = some sr)
    (waiting : sr.stage = .waiting limit) : Settles .trialWaitExpiry s (Decided s sr) := by
  have waits : trialWaits s = true := by
    obtain ⟨⟩ := sr
    subst waiting
    simp [trialWaits, search]
  have ends : trialWaitEnds s = finishSearch sr s := by simp [trialWaitEnds, search, waiting]
  exact .of_taken rfl waits (ends ▸ finishSearch_decided sr s)

theorem recordTrial_fired {s : State} {sr : FocusSearch} (search : s.focus.search = some sr) (fired : sr.stage = .fired) (v : Nat)
    (answered : Bool) : recordTrial v answered s = s.onFocus fun f => { f with search := some (sr.record v answered) } := by
  obtain ⟨⟩ := sr
  subst fired
  simp [recordTrial, State.onFocus, search]

section
variable {s : State} {sr : FocusSearch} {limit : Nat} (outstanding : s.capture.outstanding = some (.trial limit))
  (search : s.focus.search = some sr) (fired : sr.stage = .fired)
include outstanding search fired

theorem settles_trial_answer {a : CameraAnswer} (ends : a = .fail ∨ a = .done) : Settles (.cameraAnswer a) s fun u =>
    u.focus.search = some (sr.record 0 false) ∧ u.capture.outstanding = none ∧ u.transport = s.transport ∧ u.index = s.index := by
  have takes : takeAnswer a s = recordTrial 0 false (clearOutstanding s) := by
    rcases ends with rfl | rfl <;> simp only [takeAnswer, outstanding]
  refine .of_taken rfl (by simp [Capture.answerOutstanding, outstanding]) ?_
  rw [takes, recordTrial_fired (s := clearOutstanding s) search fired]
  exact ⟨rfl, rfl, rfl, rfl⟩

theorem settles_trial_expiry : Settles .answerLimitExpiry s fun u => u.focus.search = some (sr.record 0 false) ∧
    u.capture.outstanding = none ∧ u.capture.handshake = .notReady ∧ u.capture.answerLock = true ∧ u.transport = s.transport ∧
    u.index = s.index := by
  have expires : answerRunsOut s = recordTrial 0 false (clearOutstanding (answerLocked s)) := by
    simp only [answerRunsOut, outstanding, answerLocked]
  refine .of_taken rfl (by simp [Capture.answerOutstanding, outstanding]) ?_
  rw [expires, recordTrial_fired (s := clearOutstanding (answerLocked s)) search fired]
  exact ⟨rfl, rfl, by simp [clearOutstanding, refreshHandshake, answerLocked], rfl, rfl, rfl⟩

end

end Sys2Proof.Machine

open Sys2Proof Sys2Proof.Machine

/-- Settles O53: a second stall by what a failed lens keeps through the halt, a search's end by `finishSearch_decided`, its phases by
`FocusSearch.advance`. -/
theorem lensStalls : Obligations.LensStalls := by
  unfold Obligations.LensStalls
  intro s weak decided hweak hdecided
  obtain rfl : weak = EndsWeak s := by
    funext sr u
    exact propext (hweak sr u)
  obtain rfl : decided = Decided s := by
    funext sr u
    exact propext (hdecided sr u)
  refine ⟨fun steps first => ⟨fun free => ?_, fun sr search => settles_stall_first steps first (lensLosesHome_search search)⟩,
    fun steps second => ?_, fun rests => exec_taken_none rfl (stallTaken_of_rests rests), fun sr limit => settles_trialWait,
    fun sr running searching search through => ?_, fun sr lim outstanding search fired =>
      ⟨fun a => settles_trial_answer outstanding search fired, settles_trial_expiry outstanding search fired⟩,
    fun sr next st rest v answered b fine more steps next_eq best fine_eq more_eq => ?_,
    fun centre pitch tried => ⟨trialSteps_ascending centre pitch tried, mem_trialSteps centre pitch tried⟩,
    fun start ts => ⟨fun some_ => ?_, fun b => bestTrial_best⟩⟩
  · obtain ⟨u, done, rfl⟩ := settles_stall_first (P := (· = lensLosesHome s)) steps first rfl
    rw [done, lensLosesHome_free free]
  · obtain ⟨state, lens, map⟩ := settle_lensFaults_down s
    refine ⟨_, exec_stall_second steps second, state, lens, map, ?_, fun running => ?_⟩
    · rw [settle_fault_eq]
      exact reportFault_halted _ _
    · obtain ⟨search, result, -⟩ := settle_lensFaults_gone running
      exact ⟨search, fun _ => result⟩
  · rw [serviceLens_through running searching search through]
    exact finishSearch_decided sr s
  · obtain rfl : next = sr.tried st rest v answered := next_eq
    subst fine_eq
    rw [FocusSearch.record_eq steps]
    refine ⟨fun goesOn => FocusSearch.advance_same goesOn, fun through phase => FocusSearch.advance_extension best through phase,
      fun through phase => ⟨fun ends => ?_, fun undone notLow notHigh ends => ?_⟩⟩
    · exact FocusSearch.advance_coarse_fine best through phase (FocusSearch.wantsExtension_none best ends)
    · have wants : (sr.tried st rest v answered).wantsExtension = some b :=
        FocusSearch.wantsExtension_some best undone notLow notHigh ends
      exact FocusSearch.advance_coarse_extension (next := sr.tried st rest v answered) best through phase wants more_eq
  · obtain ⟨b, -, best, -⟩ := bestTrial_spec start some_
    exact ⟨b, best⟩

end

section
/-! PROOFS. The throttle as records are filed in the ring and leave it (R105 to R107). -/

namespace Sys2Proof.Machine

/-- The throttle by the ring's count: kept between its two limits (R107). -/
def throttleAt (count : Nat) (kept : Bool) : Bool := if 24 ≤ count then true else if count ≤ 15 then false else kept

theorem throttleTest_unchanged {s : State} (same : throttleAt s.capture.ring.length s.capture.throttle = s.capture.throttle) :
    throttleTest s = s := if_pos same

/-- A change of the throttle is given to a CAPTURE motion in flight (R107). -/
def throttled (on : Bool) (s : State) : State :=
  (s.onCapture fun c => { c with throttle := on }).onTransport fun t => { t with drive := t.drive.map fun d =>
    if d.speed = .capture then { d with capture := captureSpeed (s.onCapture fun c => { c with throttle := on }) } else d }

theorem throttleTest_changed {s : State} (differs : throttleAt s.capture.ring.length s.capture.throttle ≠ s.capture.throttle) :
    throttleTest s = throttled (throttleAt s.capture.ring.length s.capture.throttle) s := if_neg differs

theorem throttleTest_ring (s : State) : (throttleTest s).capture.ring = s.capture.ring :=
  congrArg (fun x => x.filing.ring) (throttleTest_keeps s).1

theorem throttleTest_profile (s : State) : (throttleTest s).transport.profile = s.transport.profile :=
  congrArg (fun x => x.base.core.profile) (throttleTest_still s)

theorem throttleTest_throttle (s : State) :
    (throttleTest s).capture.throttle = throttleAt s.capture.ring.length s.capture.throttle := by
  by_cases same : throttleAt s.capture.ring.length s.capture.throttle = s.capture.throttle
  · rw [throttleTest_unchanged same, same]
  · rw [throttleTest_changed same]
    rfl

/-- The drives of a CAPTURE motion take the speed of the changed throttle. -/
theorem throttleTest_drive {d : Drive} {s : State} (drives : (throttleTest s).transport.drive = some d) (cls : d.speed = .capture)
    (changed : (throttleTest s).capture.throttle ≠ s.capture.throttle) : d.capture = captureSpeed (throttleTest s) := by
  rw [throttleTest_throttle] at changed
  rw [throttleTest_changed changed] at drives ⊢
  obtain ⟨d0, -, rfl⟩ := Option.map_eq_some_iff.mp drives
  by_cases capture : d0.speed = .capture
  · rw [if_pos capture]
    rfl
  · rw [if_neg capture] at cls
    exact absurd cls capture

end Sys2Proof.Machine

open Sys2Proof Sys2Proof.Machine

/-- Settles O59: a filing and a removal both end in the throttle's test of the ring they leave. -/
theorem throttleTested : Obligations.ThrottleTested := by
  unfold Obligations.ThrottleTested
  intro s t r step
  obtain ⟨u, rfl, throttle, profile⟩ :
      ∃ u, t = throttleTest u ∧ u.capture.throttle = s.capture.throttle ∧ u.transport.profile = s.transport.profile := by
    rcases step with rfl | rfl
    · exact ⟨_, rfl, rfl, rfl⟩
    · exact ⟨_, rfl, rfl, rfl⟩
  rw [← throttle, ← profile, throttleTest_throttle, throttleTest_ring]
  refine ⟨fun many => if_pos many, fun few => ?_, fun more fewer => ?_, ?_, fun d drives cls changed => ?_⟩
  · rw [throttleAt, if_neg (by omega), if_pos few]
  · rw [throttleAt, if_neg (by omega), if_neg (by omega)]
  · rw [captureSpeed, throttleTest_throttle, throttleTest_profile]
  · exact throttleTest_drive drives cls (by rwa [throttleTest_throttle])

end

section
/-! SUPPORT. What the report of a capture's end leaves alone while its job goes on: last_miss (R93), and the motion in flight, which is
asked to stop at most. -/

namespace Sys2Proof.Machine

/-! ### last_miss (R93) -/

@[simp] theorem disarmRun_lastMiss (c : Current) (s : State) : (disarmRun c s).capture.lastMiss = s.capture.lastMiss := by
  unfold disarmRun; split <;> rfl
@[simp] theorem askStop_lastMiss (why : StopCause) (s : State) : (askStop why s).capture.lastMiss = s.capture.lastMiss := by
  unfold askStop; (repeat' split) <;> simp
@[simp] theorem clearCurrent_lastMiss (s : State) : (clearCurrent s).capture.lastMiss = s.capture.lastMiss := rfl
@[simp] theorem modifyJob_lastMiss (n : Nat) (f : Job → Job) (s : State) : (modifyJob n f s).capture.lastMiss = s.capture.lastMiss := rfl
@[simp] theorem modifySweep_lastMiss (n : Nat) (f : SweepRec → SweepRec) (s : State) :
    (modifySweep n f s).capture.lastMiss = s.capture.lastMiss := rfl
@[simp] theorem modifyItems_lastMiss (n : Nat) (f : List Item → List Item) (s : State) :
    (modifyItems n f s).capture.lastMiss = s.capture.lastMiss := rfl
@[simp] theorem modifyItem_lastMiss (n k : Nat) (f : Item → Item) (s : State) :
    (modifyItem n k f s).capture.lastMiss = s.capture.lastMiss := rfl
@[simp] theorem setJobState_lastMiss (n : Nat) (st : JobState) (s : State) :
    (setJobState n st s).capture.lastMiss = s.capture.lastMiss := rfl
@[simp] theorem advanceSweep_lastMiss (n frame : Nat) (s : State) :
    (advanceSweep n frame s).capture.lastMiss = s.capture.lastMiss := rfl
@[simp] theorem modifyRevisit_lastMiss (n : Nat) (f : List Nat → List Nat) (s : State) :
    (modifyRevisit n f s).capture.lastMiss = s.capture.lastMiss := rfl
@[simp] theorem discardRevisit_lastMiss (n : Nat) (s : State) : (discardRevisit n s).capture.lastMiss = s.capture.lastMiss := rfl
@[simp] theorem setRollClaim_lastMiss (v : Bool) (s : State) : (setRollClaim v s).capture.lastMiss = s.capture.lastMiss := rfl
@[simp] theorem queueJobDone_lastMiss (l : LinkId) (n : Nat) (s : State) :
    (queueJobDone l n s).capture.lastMiss = s.capture.lastMiss := rfl
@[simp] theorem dropCurrent_lastMiss (s : State) : (dropCurrent s).capture.lastMiss = s.capture.lastMiss := by
  unfold dropCurrent; (repeat' split) <;> simp
@[simp] theorem withdraw_lastMiss (r : Requester) (s : State) : (withdraw r s).capture.lastMiss = s.capture.lastMiss := by
  unfold withdraw; dsimp only; split <;> simp
@[simp] theorem suspendTest_lastMiss (s : State) : (suspendTest s).capture.lastMiss = s.capture.lastMiss := by
  unfold suspendTest; (repeat' split) <;> simp
@[simp] theorem yieldTest_lastMiss (s : State) : (yieldTest s).capture.lastMiss = s.capture.lastMiss := by
  unfold yieldTest; (repeat' split) <;> simp
@[simp] theorem submit_lastMiss (r : Requester) (cls : QClass) (k : QKind) (frame : Option Nat) (s : State) :
    (submit r cls k frame s).capture.lastMiss = s.capture.lastMiss := by
  unfold submit; dsimp only; (repeat' split) <;> simp
@[simp] theorem submitJob_lastMiss (n : Nat) (k : QKind) (frame : Option Nat) (s : State) :
    (submitJob n k frame s).capture.lastMiss = s.capture.lastMiss := by unfold submitJob; split <;> simp
@[simp] theorem ensureIndex_lastMiss (n : Nat) (s : State) : (ensureIndex n s).capture.lastMiss = s.capture.lastMiss := by
  unfold ensureIndex; split <;> simp
@[simp] theorem endJob_lastMiss (n : Nat) (st : JobState) (why : EndReason) (s : State) :
    (endJob n st why s).capture.lastMiss = s.capture.lastMiss := by unfold endJob; dsimp only; (repeat' split) <;> simp
@[simp] theorem fetchChoose_lastMiss (n : Nat) (s : State) : (fetchChoose n s).capture.lastMiss = s.capture.lastMiss := by
  unfold fetchChoose; (repeat' split) <;> simp
@[simp] theorem endSweep_lastMiss (n : Nat) (s : State) : (endSweep n s).capture.lastMiss = s.capture.lastMiss := by
  unfold endSweep; split <;> simp
@[simp] theorem revisitNext_lastMiss (n : Nat) (s : State) : (revisitNext n s).capture.lastMiss = s.capture.lastMiss := by
  unfold revisitNext; split <;> simp
@[simp] theorem sweepChoose_lastMiss (n : Nat) (s : State) : (sweepChoose n s).capture.lastMiss = s.capture.lastMiss := by
  unfold sweepChoose; dsimp only; (repeat' split) <;> simp
@[simp] theorem sweepDecide_lastMiss (n : Nat) (s : State) : (sweepDecide n s).capture.lastMiss = s.capture.lastMiss := by
  unfold sweepDecide; split <;> simp
@[simp] theorem jobCaptureEnded_lastMiss (a : Armed) (o : ItemOutcome) (s : State) :
    (jobCaptureEnded a o s).capture.lastMiss = s.capture.lastMiss := by
  unfold jobCaptureEnded; dsimp only; (repeat' split) <;> simp

/-! ### The motion in flight -/

theorem endSweep_asks (n : Nat) (s : State) : Asks s (endSweep n s) := by
  unfold endSweep
  split
  · exact .refl s
  · exact endJob_asks n _ _ s

theorem revisitNext_asks (n : Nat) (s : State) : Asks s (revisitNext n s) := by
  unfold revisitNext
  split
  · exact endSweep_asks n s
  · exact submitJob_asks n _ _ s

theorem sweepChoose_asks (n : Nat) (s : State) : Asks s (sweepChoose n s) := by
  unfold sweepChoose
  dsimp only
  (repeat' split)
  · exact submitJob_asks n _ _ s
  · exact .refl s
  · exact (modifySweep_asks n _ s).trans (submitJob_asks n _ _ _)
  · exact submitJob_asks n _ _ s
  · exact (modifySweep_asks n _ s).trans (revisitNext_asks n _)
  · exact (modifySweep_asks n _ s).trans ((setJobState_asks n _ _).trans (revisitNext_asks n _))
  · exact (modifySweep_asks n _ s).trans (endSweep_asks n _)
  · exact .refl s

theorem sweepDecide_asks (n : Nat) (s : State) : Asks s (sweepDecide n s) := by
  unfold sweepDecide
  split
  · exact .refl s
  · exact sweepChoose_asks n s

theorem jobCaptureEnded_asks (a : Armed) (o : ItemOutcome) (s : State) : Asks s (jobCaptureEnded a o s) := by
  have reported (f : Item → Item) : Asks s (modifyItem a.job (a.item.getD 0) f s) := .of_eq rfl rfl
  have listed (f : List Nat → List Nat) (g : SweepRec → SweepRec) : Asks s (modifySweep a.job g (modifyRevisit a.job f s)) :=
    .of_eq rfl rfl
  have advanced : Asks s (advanceSweep a.job a.frame s) := .of_eq rfl rfl
  unfold jobCaptureEnded
  dsimp only
  (repeat' split)
  · exact reported _
  · exact (reported _).trans ((modifyItems_asks a.job _ _).trans (fetchChoose_asks a.job _))
  · exact (listed _ _).trans (revisitNext_asks a.job _)
  · exact advanced.trans (sweepChoose_asks a.job _)
  · exact advanced.trans (sweepDecide_asks a.job _)
  · exact sweepChoose_asks a.job s
  · exact sweepDecide_asks a.job s
  · exact .refl s

end Sys2Proof.Machine
end

section
/-! PROOFS. READY edges of the camera, and the wait of a stationary capture that runs out (R94, R109, R110, R145, R146). -/

namespace Sys2Proof.Machine

/-! ### The handshake (R94) -/

theorem refreshHandshake_free {s : State} (h : s.capture.outstanding = none) : refreshHandshake s =
    { s with capture := { s.capture with
      handshake := if s.pins.levels.cameraReady && !s.capture.answerLock then .ready else .notReady } } := by
  simp only [refreshHandshake, State.onCapture, h]

theorem refreshHandshake_waiting {s : State} (h : s.capture.outstanding ≠ none) : refreshHandshake s = s := by
  obtain ⟨o, outstanding⟩ := Option.ne_none_iff_exists'.mp h
  simp only [refreshHandshake, State.onCapture, outstanding]

/-- The READY level risen and answer_lock cleared, the handshake not yet told. -/
def readyRisen (s : State) : State := (putCameraReady true s).onCapture fun c => { c with answerLock := false }

theorem exec_cameraReadyRise (s : State) : exec .cameraReadyRise s = .next (settle (refreshHandshake (readyRisen s))) := rfl

theorem exec_cameraReadyFall (s : State) : exec .cameraReadyFall s = .next (refreshHandshake (putCameraReady false s)) := rfl

/-! ### A FETCH chooses again or ends (R144 to R146) -/

/-- An item is PENDING. -/
def PendingIn (is : List Item) : Prop := ∃ x ∈ is, x.outcome = .pending

theorem pendingIn_modify {f : Item → Item} (hf : ∀ i, (f i).outcome = i.outcome) (is : List Item) (p : Nat) :
    PendingIn (is.modify p f) ↔ PendingIn is := by
  have outcomes : (is.modify p f).map (·.outcome) = is.map (·.outcome) := by
    refine List.ext_getElem? fun q => ?_
    rw [List.getElem?_map, List.getElem?_map, List.getElem?_modify]
    cases is[q]? with
    | none => rfl
    | some i => by_cases here : p = q <;> simp [here, hf]
  have member (is : List Item) : PendingIn is ↔ .pending ∈ is.map (·.outcome) := by simp [PendingIn]
  rw [member, member, outcomes]

/-- The item chosen is ready for its capture. -/
theorem nearestItem_ready {s : State} {is : List Item} {k m d : Nat} (h : nearestItem s k is = some (m, d)) :
    ∃ i ∈ is, i.ready = true := by
  induction is generalizing k m d with
  | nil => cases h
  | cons i is ih =>
    by_cases ready : i.ready = true
    · exact ⟨i, List.mem_cons_self, ready⟩
    · cases later : nearestItem s (k + 1) is with
      | none => simp [nearestItem, later, ready] at h
      | some found =>
        obtain ⟨x, member, itsReady⟩ := ih later
        exact ⟨x, List.mem_cons_of_mem _ member, itsReady⟩

/-- A FETCH has chosen its next motion while an item is PENDING, and has ended with none. -/
def FetchGoesOn (n : Nat) (s : State) : Prop :=
  ∃ j is, findJob n s = some j ∧ j.body = .fetch is ∧ (¬ PendingIn is → j.isOpen = false) ∧
    (PendingIn is → j.isOpen = true ∧ ∃ q ∈ s.arbiter.queue, q.requester = .job n)

theorem mem_queue_of_entryOf {a : Arbiter} {r : Requester} {e : QEntry} (h : a.entryOf r = some e) : ∃ q ∈ a.queue, q.requester = r :=
  ⟨e, List.mem_of_find?_eq_some h, by simpa using List.find?_some h⟩

theorem submitJob_queued {n : Nat} {j : Job} {s : State} (found : findJob n s = some j) (opened : j.isOpen = true) (k : QKind)
    (frame : Option Nat) : ∃ q ∈ (submitJob n k frame s).arbiter.queue, q.requester = .job n := by
  rw [submitJob_open found opened]
  obtain ⟨e, entry, -⟩ := submit_entry (.job n) (if j.urgent then .urgent else .normal) k frame s
  exact mem_queue_of_entryOf entry

theorem ensureIndex_queued {n : Nat} {j : Job} {s : State} (found : findJob n s = some j) (opened : j.isOpen = true) :
    ∃ q ∈ (ensureIndex n s).arbiter.queue, q.requester = .job n := by
  unfold ensureIndex
  split
  · next held =>
    obtain ⟨e, entry, -⟩ := (Option.any_eq_true _ _).mp held
    exact mem_queue_of_entryOf entry
  · exact submitJob_queued found opened .index none

theorem fetchFinal_closed (is : List Item) : (fetchFinal is).isOpen = false := by
  unfold fetchFinal
  (repeat' split) <;> rfl

theorem fetchChoose_goesOn {n : Nat} {j : Job} {s : State} {is : List Item} (found : findJob n s = some j) (opened : j.isOpen = true)
    (body : j.body = .fetch is) : FetchGoesOn n (fetchChoose n s) := by
  have unready (nothing : nearestItem s 1 is = none) : fetchChoose n s =
      if is.any fun i => i.outcome == .pending then ensureIndex n (setJobState n .resolving s)
      else endJob n (fetchFinal is) .none s := by
    unfold fetchChoose
    rw [openJob_of_findJob found opened]
    cases j
    cases body
    simp only [nothing]
  cases nearest : nearestItem s 1 is with
  | some chosen =>
    obtain ⟨k, d⟩ := chosen
    obtain ⟨i, member, ready⟩ := nearestItem_ready nearest
    have pending : i.outcome = .pending := by
      simp only [Item.ready, Bool.and_eq_true, beq_iff_eq] at ready
      exact ready.1.1
    have still : PendingIn (is.modify (k - 1) Item.chosen) :=
      (pendingIn_modify (f := Item.chosen) (fun _ => rfl) is _).mpr ⟨i, member, pending⟩
    have running := findJob_setJobState .running (findJob_modifyItem (k := k) (f := Item.chosen) found opened body)
    rw [fetchChoose_ready found opened body nearest]
    exact ⟨_, _, (findJob_congr (submitJob_jobs _ _ _ _) n).trans running, rfl, fun none_ => absurd still none_,
      fun _ => ⟨rfl, submitJob_queued running rfl _ _⟩⟩
  | none =>
    rw [unready nearest]
    split
    · next some_ =>
      have still : PendingIn is := by simpa [PendingIn] using some_
      have resolving := findJob_setJobState .resolving found
      exact ⟨_, is, (findJob_congr (ensureIndex_jobs _ _) n).trans resolving, body, fun none_ => absurd still none_,
        fun _ => ⟨rfl, ensureIndex_queued resolving rfl⟩⟩
    · next none_ =>
      have finished : ¬ PendingIn is := by simpa [PendingIn] using none_
      exact ⟨_, is, findJob_endJob found opened _ _, by rw [Job.closed, body]; rfl, fun _ => fetchFinal_closed is,
        fun some_ => absurd some_ finished⟩

/-! ### The frame MISSED at the axis (R109, R110) -/

theorem cameraWaitRunsOut_waiting {h : Stationary} {limit : Nat} {s : State} (held : s.capture.holding = some h)
    (phase : h.phase = .waitCamera limit) : cameraWaitRunsOut s = missAtAxis h.trigger .cameraBusy s := by
  obtain ⟨trigger, attempt, _⟩ := h
  subst phase
  simp only [cameraWaitRunsOut, held]

theorem cameraWaits_waiting {h : Stationary} {limit : Nat} {s : State} (held : s.capture.holding = some h)
    (phase : h.phase = .waitCamera limit) : cameraWaits s = true := by
  obtain ⟨trigger, attempt, _⟩ := h
  subst phase
  simp only [cameraWaits, held]

theorem countSearchFrame_capture (s : State) : (countSearchFrame s).capture = s.capture := by
  unfold countSearchFrame; split <;> rfl

theorem stationReleased_holding (s : State) : (stationReleased s).capture.holding = none :=
  congrArg Capture.holding (countSearchFrame_capture (s.onCapture fun c => { c with holding := none }))

theorem missAtAxis_lastMiss (a : Armed) (why : MissReason) (s : State) :
    (missAtAxis a why s).capture.lastMiss = some (a.frame, why) := by
  rw [missAtAxis, endStationary, jobCaptureEnded_lastMiss]
  exact congrArg Capture.lastMiss (countSearchFrame_capture _)

theorem missAtAxis_index (a : Armed) (why : MissReason) (s : State) : (missAtAxis a why s).index = (reportMissed a.frame s).index :=
  congrArg (fun x => x.filing.index) (endStationary_station a .missed (missFrame a why s))

/-- The entry of a frame reported MISSED (R55). -/
theorem reportMissed_entry {f : Nat} {e : Entry} {s : State} (h : s.index.entries[f]? = some e) :
    (reportMissed f s).index.entries[f]? = some { e with captureState := .missed } := by
  simp [reportMissed, modifyEntry, h]

/-- With no motion current none is asked to stop. -/
theorem missAtAxis_transport (a : Armed) (why : MissReason) {s : State} (idle : s.arbiter.current = none) :
    (missAtAxis a why s).transport = s.transport := by
  obtain ⟨-, -, -, transport, current⟩ := stationReleased_keeps (missFrame a why s)
  have asks := jobCaptureEnded_asks a .missed (stationReleased (missFrame a why s))
  have none_current : (stationReleased (missFrame a why s)).arbiter.current = none := current.trans idle
  exact (asks.transport_eq_of_reference fun c hc => by simp [none_current] at hc).trans transport

section
variable {a : Armed} {j : Job} {is : List Item} {s : State} (found : findJob a.job s = some j) (opened : j.isOpen = true)
  (body : j.body = .fetch is) (idle : s.arbiter.current = none)
include found opened body idle

/-- With no motion current the job of a held frame goes on as the capture ends (R145, R146). -/
theorem endStationary_goesOn (o : ItemOutcome) : FetchGoesOn a.job (endStationary a o s) := by
  obtain ⟨jobs, -, -, -, current⟩ := stationReleased_keeps s
  have found' := (findJob_congr jobs a.job).trans found
  have reported := findJob_modifyItem (k := a.item.getD 0) (f := fun i => { i with outcome := o, inCapture := false }) found' opened body
  have released := (findJob_modifyItems_same (fun is => is.map Item.released) reported).trans
    (congrArg some (Job.mapItems_fetch _ rfl (by exact opened)))
  have still : jobInMotion a.job (modifyItem a.job (a.item.getD 0) (fun i => { i with outcome := o, inCapture := false })
      (stationReleased s)) = false := by
    simp [jobInMotion, modifyItem, modifyItems, modifyJob, stationReleased_holding, current.trans idle]
  have told : jobCaptureEnded a o (stationReleased s) = fetchChoose a.job (modifyItems a.job (fun is => is.map Item.released)
      (modifyItem a.job (a.item.getD 0) (fun i => { i with outcome := o, inCapture := false }) (stationReleased s))) := by
    unfold jobCaptureEnded
    rw [openJob_of_findJob found' opened]
    cases j
    cases body
    simp only [still, Bool.false_eq_true, if_false]
    rfl
  rw [endStationary_eq, told]
  exact fetchChoose_goesOn released opened rfl

/-- The item of the frame is MISSED and else as it was, and the job chooses again or ends. -/
theorem missAtAxis_fetch (why : MissReason) {k : Nat} {i : Item} (item : a.item = some k) (at_ : is[k - 1]? = some i) :
    ∃ j' is' i', findJob a.job (missAtAxis a why s) = some j' ∧ j'.body = .fetch is' ∧ is'[k - 1]? = some i' ∧
      i'.outcome = .missed ∧ i'.resolved = i.resolved ∧ i'.captures = i.captures ∧ (¬ PendingIn is' → j'.isOpen = false) ∧
      (PendingIn is' → j'.isOpen = true ∧ ∃ q ∈ (missAtAxis a why s).arbiter.queue, q.requester = .job a.job) := by
  have missed : findJob a.job (missFrame a why s) = some j := found
  obtain ⟨j', is', found', body', ended, chosen⟩ := endStationary_goesOn missed opened body (by exact idle) .missed
  have outcome := endStationary_fetch missed opened body item at_ .missed
  have captures : HoldsBody a.job (itemHas (k - 1) fun x => x.captures = i.captures) (endStationary a .missed (missFrame a why s)) := by
    have before : HoldsBody a.job (itemHas (k - 1) fun x => x.captures = i.captures) (stationReleased (missFrame a why s)) :=
      ⟨j, (findJob_congr (stationReleased_keeps _).1 a.job).trans missed, by rw [body]; exact ⟨i, at_, rfl⟩⟩
    exact before.jobCaptureEnded (itemHas_keeps _ fun _ _ h => h)
      (fun _ p h => itemHas_modify (f := fun i => { i with outcome := .missed, inCapture := false }) (fun _ same => same) p h)
      (fun _ _ h => h) (fun _ _ h => h)
  have inBody {B : JobBody → Prop} (has : HoldsBody a.job B (endStationary a .missed (missFrame a why s))) : B (.fetch is') := by
    obtain ⟨x, foundX, hx⟩ := has
    cases foundX.symm.trans found'
    rwa [body'] at hx
  obtain ⟨i', at', missed', resolved⟩ := inBody outcome
  obtain ⟨i'', at'', same⟩ := inBody captures
  cases at''.symm.trans at'
  exact ⟨j', is', i', found', body', at', missed', resolved, same, ended, chosen⟩

end

end Sys2Proof.Machine

open Sys2Proof Sys2Proof.Machine

/-- Settles O57: the edges by whether a trigger is outstanding, and the wait run out as the miss of the held frame. -/
theorem cameraReady : Obligations.CameraReady := by
  unfold Obligations.CameraReady
  intro s
  refine ⟨fun free => ⟨⟨_, exec_cameraReadyRise s, ?_⟩, _, exec_cameraReadyFall s, ?_⟩,
    fun waits => ⟨⟨_, exec_cameraReadyRise s, ?_⟩, _, exec_cameraReadyFall s, ?_⟩, fun h limit e held phase at_ => ?_⟩
  · rw [refreshHandshake_free (s := readyRisen s) free]
    exact ⟨rfl, rfl, rfl⟩
  · rw [refreshHandshake_free (s := putCameraReady false s) free]
    exact ⟨rfl, rfl, rfl⟩
  · rw [refreshHandshake_waiting (s := readyRisen s) waits]
    exact ⟨rfl, rfl, rfl⟩
  · rw [refreshHandshake_waiting (s := putCameraReady false s) waits]
    exact ⟨rfl, rfl⟩
  · refine .of_taken rfl (cameraWaits_waiting held phase) ?_
    rw [cameraWaitRunsOut_waiting held phase]
    obtain ⟨holding, hold⟩ := endStationary_released h.trigger .missed (missFrame h.trigger .cameraBusy s)
    refine ⟨holding, missAtAxis_lastMiss _ _ s, ⟨{ e with captureState := .missed },
      by rw [missAtAxis_index, reportMissed_entry at_], rfl, rfl, rfl, rfl, rfl⟩,
      hold, congrArg (fun x => x.base.fault) (missAtAxis_still h.trigger .cameraBusy s), missAtAxis_transport _ _,
      fun j is k i _ idle found opened body item inList => ?_⟩
    obtain ⟨j', is', i', found', body', at', missed, resolved, captures, ended, chosen⟩ :=
      missAtAxis_fetch found opened body idle .cameraBusy item inList
    exact ⟨j', is', i', found', body', at', missed, resolved, captures,
      fun none_ => ended fun ⟨x, member, pending⟩ => none_ x member pending, chosen⟩

end

section
/-! PROOFS. A RUN trigger whose position is passed: the run asked to stop, or the frame missed or fired (R101, R102, R112, R124, R150). -/

namespace Sys2Proof.Machine

/-! ### What a stop and an arming leave alone -/

/-- What is filed and reported: the sequencer's part, last_miss, the revisit lists, the run's count toward its yield, and the jobs. -/
structure Ledger where
  station    : Station
  lastMiss   : Option (Nat × MissReason)
  revisits   : List RevisitList
  yieldCount : Nat
  jobs       : Jobs

/-- What a stop and an arming keep. -/
def State.ledger (s : State) : Ledger where
  station := s.station
  lastMiss := s.capture.lastMiss
  revisits := s.capture.revisits
  yieldCount := s.arbiter.yieldCount
  jobs := s.jobs

theorem askStop_yieldCount (why : StopCause) (s : State) : (askStop why s).arbiter.yieldCount = s.arbiter.yieldCount := by
  unfold askStop; (repeat' split) <;> simp

theorem askStop_ledger (why : StopCause) (s : State) : (askStop why s).ledger = s.ledger := by
  simp only [State.ledger, askStop_station, askStop_lastMiss, askStop_revisits, askStop_yieldCount, askStop_jobs]

theorem yieldTest_ledger (s : State) : (yieldTest s).ledger = s.ledger := by
  unfold yieldTest; (repeat' split) <;> simp only [askStop_ledger]

theorem armFrames_ledger (job n : Nat) (s : State) : (armFrames job n s).ledger = s.ledger := by
  induction n generalizing s with
  | zero => rfl
  | succ n ih =>
    have armed (a : Armed) : (armTrigger a s).ledger = s.ledger := rfl
    unfold armFrames; (repeat' split) <;> simp only [askStop_ledger, ih, armed]

theorem armRun_ledger (s : State) : (armRun s).ledger = s.ledger := by
  unfold armRun
  split
  · exact armFrames_ledger _ _ s
  · rfl

/-- A run asked to stop disarms its triggers (R100). -/
theorem askStop_disarms {c : Current} {s : State} (why : StopCause) (hc : s.arbiter.current = some c) (run : c.kind = .run)
    (moves : s.transport.move.isSome) : (askStop why s).capture.armed = [] := by
  have moves' : s.transport.move.isNone = false := by simpa using moves
  unfold askStop
  rw [hc]
  simp only [moves', Bool.false_eq_true, if_false, stopMove_capture, disarmRun, if_pos run]
  rfl

/-- A run in flight, not yet asked to stop, is asked to. -/
theorem askStop_run {c : Current} {m : MoveRecord} {s : State} (why : StopCause) (hc : s.arbiter.current = some c) (run : c.kind = .run)
    (free : c.stop = none) (hm : s.transport.move = some m) (moving : s.transport.state = .moving) :
    (askStop why s).arbiter.current = some { c with stop := some why } ∧
      (askStop why s).transport.move = some { m with stopping := true } ∧ (askStop why s).transport.drive = none ∧
      (askStop why s).capture.armed = [] := by
  obtain ⟨move, drive, current⟩ := askStop_moving why hc hm moving
  exact ⟨by rw [current, free]; rfl, move, drive, askStop_disarms why hc run (by simp [hm])⟩

/-! ### The report of a fire or a miss (R101, R124, R150) -/

/-- A fire or a miss reported to the sweep and counted, the test for a yield not yet made. -/
def runCounted (a : Armed) (s : State) : State :=
  (advanceSweep a.job a.frame s).onArbiter fun x => { x with yieldCount := min Config.yieldFrames (x.yieldCount + 1) }

theorem runReported_eq (a : Armed) (s : State) : runReported a s = armRun (yieldTest (runCounted a s)) := rfl

theorem runReported_ledger (a : Armed) (s : State) : (runReported a s).ledger =
    { s.ledger with yieldCount := min 64 (s.arbiter.yieldCount + 1), jobs := (advanceSweep a.job a.frame s).jobs } := by
  rw [runReported_eq, armRun_ledger, yieldTest_ledger]
  rfl

/-- The frame after the one reported is next (R150). -/
theorem findJob_advanceSweep {n frame : Nat} {j : Job} {r : SweepRec} {s : State} (found : findJob n s = some j)
    (opened : j.isOpen = true) (body : j.body = .sweep r) : findJob n (advanceSweep n frame s) =
      some { j with body := .sweep { r with nextFrame := frameAfter frame r s.index } } :=
  findJob_modifySweep_open _ found opened body

/-- A sweep's record changed leaves it a sweep in its state, and so what is eligible (R149). -/
theorem eligible_modifySweep (n : Nat) (f : SweepRec → SweepRec) (s : State) (q : QEntry) :
    eligible (modifySweep n f s) q = eligible s q := by
  have kept (j : Job) : (if j.number = n then j.mapSweep f else j).number = j.number ∧
      (if j.number = n then j.mapSweep f else j).body.isSweep = j.body.isSweep ∧
      (if j.number = n then j.mapSweep f else j).running = j.running := by
    have mapped : (j.mapSweep f).body.isSweep = j.body.isSweep ∧ (j.mapSweep f).state = j.state := by
      unfold Job.mapSweep
      split
      · next body =>
        split
        · exact ⟨by rw [body]; rfl, rfl⟩
        · exact ⟨rfl, rfl⟩
      · exact ⟨rfl, rfl⟩
    split
    · exact ⟨j.mapSweep_number f, mapped.1, by rw [Job.running, mapped.1, mapped.2, Job.running]⟩
    · exact ⟨rfl, rfl, rfl⟩
  have slots : (modifySweep n f s).jobs.slots = s.jobs.slots.map fun j => if j.number = n then j.mapSweep f else j := rfl
  unfold eligible
  simp only [slots, List.any_map, Function.comp_def, kept]

/-- A run that is being stopped is not armed. -/
theorem armRun_stopping {c : Current} {s : State} (hc : s.arbiter.current = some c) (stops : c.stop ≠ none) : armRun s = s := by
  have idle : runningLeg s = none := by
    unfold runningLeg
    split
    · next h _ =>
      cases h.symm.trans hc
      exact absurd rfl stops
    · rfl
  rw [armRun, idle]

theorem eligible_runCounted (a : Armed) (s : State) (q : QEntry) : eligible (runCounted a s) q = eligible s q :=
  eligible_modifySweep a.job _ s q

/-- The 64th fire or miss with an eligible NORMAL entry waiting stops the run (R124). -/
theorem runReported_yields {a : Armed} {c : Current} {m : MoveRecord} {q : QEntry} {s : State} (counts : 63 ≤ s.arbiter.yieldCount)
    (hc : s.arbiter.current = some c) (run : c.kind = .run) (free : c.stop = none) (search : c.search = none)
    (hm : s.transport.move = some m) (moving : s.transport.state = .moving) (queued : q ∈ s.arbiter.queue) (normal : q.cls = .normal)
    (may : eligible s q = true) (other : q.requester ≠ c.requester) :
    (runReported a s).arbiter.current = some { c with stop := some .yielded } ∧
      (runReported a s).transport.move = some { m with stopping := true } ∧ (runReported a s).transport.drive = none ∧
      (runReported a s).capture.armed = [] := by
  have current : (runCounted a s).arbiter.current = some c := hc
  have full : (runCounted a s).arbiter.yieldCount = Config.yieldFrames := Nat.min_eq_left (by exact Nat.succ_le_succ counts)
  have waits : waitingOf .normal (runCounted a s) = true :=
    List.any_eq_true.mpr ⟨q, queued, by simp [normal, eligible_runCounted, may, current, other.symm]⟩
  have due : yieldDue (runCounted a s) = true := by simp [yieldDue, full, waits]
  obtain ⟨stopped, rest⟩ := askStop_run (s := runCounted a s) .yielded hc run free hm moving
  have yields : yieldTest (runCounted a s) = askStop .yielded (runCounted a s) := by
    rw [yieldTest, current]
    exact if_pos ⟨run, free, search, due⟩
  rw [runReported_eq, yields, armRun_stopping stopped (by simp)]
  exact ⟨stopped, rest⟩

/-! ### The trigger taken (R101) -/

/-- Why a RUN trigger misses its frame, by the tests in their order; none when it is fired (R101). -/
def missReason (frame : Nat) (s : State) : Option MissReason :=
  if s.capture.handshake ≠ .ready then some .cameraBusy
  else if s.capture.ringFull then some .ringFull
  else if !atTarget frame s then some .lensLate
  else none

/-- The frame missed and offered to the revisit list, or the trigger fired; not yet reported. -/
def triggerTaken (a : Armed) (s : State) : State :=
  match missReason a.frame s with
  | some why => offerRevisit a.job a.frame (missFrame a why s)
  | none => fireCapture a s

/-- The reference lost its quality, or the frame needs a search: the run is asked to stop (R101, R102). -/
theorem takeTrigger_stops {a : Armed} {s : State} (h : s.transport.reference ≠ .exact ∨
      needsSearch a.frame (a.t - s.transport.profile.axisOffset) (policySearch a.job s) s = true) :
    takeTrigger a s = askStop (if s.transport.reference = .exact then .searchFrame a.frame else .sequencer) s := by
  unfold takeTrigger
  by_cases exact_ : s.transport.reference = .exact
  · rw [if_neg (fun n => n exact_), if_pos (h.resolve_left fun n => n exact_), if_pos exact_]
  · rw [if_pos exact_, if_neg exact_]

theorem takeTrigger_reported {a : Armed} {s : State} (exact_ : s.transport.reference = .exact)
    (needs : needsSearch a.frame (a.t - s.transport.profile.axisOffset) (policySearch a.job s) s = false) :
    takeTrigger a s = runReported a (triggerTaken a s) := by
  unfold takeTrigger triggerTaken missReason
  rw [if_neg (fun h => h exact_), needs]
  by_cases ready : s.capture.handshake = .ready
  · by_cases full : s.capture.ringFull = true
    · simp [ready, full, missInRun]
    · by_cases late : atTarget a.frame s = true <;> simp [ready, full, late, missInRun]
  · simp [ready, missInRun]

section
variable {frame : Nat} {s : State}

theorem missReason_busy (h : s.capture.handshake ≠ .ready) : missReason frame s = some .cameraBusy := if_pos h

theorem missReason_full (ready : s.capture.handshake = .ready) (full : 31 ≤ s.capture.ring.length) :
    missReason frame s = some .ringFull := by
  have ringFull : s.capture.ringFull = true := decide_eq_true full
  simp [missReason, ready, ringFull]

theorem missReason_late (ready : s.capture.handshake = .ready) (room : s.capture.ring.length < 31) (late : atTarget frame s = false) :
    missReason frame s = some .lensLate := by
  have ringFull : s.capture.ringFull = false := decide_eq_false (Nat.not_le.mpr room)
  simp [missReason, ready, ringFull, late]

theorem missReason_fires (ready : s.capture.handshake = .ready) (room : s.capture.ring.length < 31) (at_ : atTarget frame s = true) :
    missReason frame s = none := by
  have ringFull : s.capture.ringFull = false := decide_eq_false (Nat.not_le.mpr room)
  simp [missReason, ready, ringFull, at_]

theorem missReason_misses (h : s.capture.handshake ≠ .ready ∨ 31 ≤ s.capture.ring.length ∨ atTarget frame s = false) :
    ∃ why, missReason frame s = some why := by
  by_cases ready : s.capture.handshake = .ready
  · by_cases full : 31 ≤ s.capture.ring.length
    · exact ⟨_, missReason_full ready full⟩
    · exact ⟨_, missReason_late ready (Nat.not_le.mp full) ((h.resolve_left fun n => n ready).resolve_left full)⟩
  · exact ⟨_, missReason_busy ready⟩

end

theorem triggerTaken_missed {a : Armed} {why : MissReason} {s : State} (h : missReason a.frame s = some why) :
    triggerTaken a s = offerRevisit a.job a.frame (missFrame a why s) := by rw [triggerTaken, h]

theorem triggerTaken_fired {a : Armed} {s : State} (h : missReason a.frame s = none) : triggerTaken a s = fireCapture a s := by
  rw [triggerTaken, h]

/-- An offer changes the revisit list or the sweep's record. -/
theorem offerRevisit_keeps (job frame : Nat) (s : State) : (offerRevisit job frame s).arbiter = s.arbiter ∧
    (offerRevisit job frame s).transport = s.transport ∧ (offerRevisit job frame s).index = s.index ∧
    (offerRevisit job frame s).capture.lastMiss = s.capture.lastMiss ∧
    ∀ q, eligible (offerRevisit job frame s) q = eligible s q := by
  unfold offerRevisit
  (repeat' split)
  · exact ⟨rfl, rfl, rfl, rfl, fun _ => rfl⟩
  · exact ⟨rfl, rfl, rfl, rfl, fun _ => rfl⟩
  · exact ⟨rfl, rfl, rfl, rfl, fun _ => rfl⟩
  · exact ⟨rfl, rfl, rfl, rfl, eligible_modifySweep job _ s⟩

/-- Neither a fire nor a miss asks anything of the motion, nor adds an entry to the index. -/
theorem triggerTaken_keeps (a : Armed) (s : State) : (triggerTaken a s).arbiter = s.arbiter ∧
    (triggerTaken a s).transport = s.transport ∧ (triggerTaken a s).index.entries.length = s.index.entries.length ∧
    ∀ q, eligible (triggerTaken a s) q = eligible s q := by
  cases h : missReason a.frame s with
  | none =>
    rw [triggerTaken_fired h]
    exact ⟨rfl, rfl, List.length_modify .., fun _ => rfl⟩
  | some why =>
    obtain ⟨arbiter, transport, index, -, may⟩ := offerRevisit_keeps a.job a.frame (missFrame a why s)
    rw [triggerTaken_missed h]
    exact ⟨arbiter, transport, (congrArg (fun ix => ix.entries.length) index).trans (List.length_modify ..), may⟩

/-! ### The frame missed (R101, R112) -/

/-- A frame MISSED in a run and counted, with nothing fired or filed. -/
def MissedInRun (a : Armed) (s : State) (why : MissReason) (u : State) : Prop :=
  u.capture.lastMiss = some (a.frame, why) ∧ u.capture.outstanding = s.capture.outstanding ∧ u.capture.ring = s.capture.ring ∧
    u.arbiter.yieldCount = min 64 (s.arbiter.yieldCount + 1) ∧
    ∀ e, s.index.entries[a.frame]? = some e → ∃ x, u.index.entries[a.frame]? = some x ∧ x.captureState = .missed ∧ x.low = e.low ∧
      x.high = e.high ∧ x.address = e.address ∧ x.captureCount = e.captureCount

theorem runReported_missed {a : Armed} {why : MissReason} {s : State} (h : missReason a.frame s = some why) :
    MissedInRun a s why (runReported a (triggerTaken a s)) := by
  rw [triggerTaken_missed h]
  obtain ⟨arbiter, -, -, lastMiss, -⟩ := offerRevisit_keeps a.job a.frame (missFrame a why s)
  have ledger := runReported_ledger a (offerRevisit a.job a.frame (missFrame a why s))
  have station := (congrArg Ledger.station ledger).trans (offerRevisit_station a.job a.frame (missFrame a why s))
  have index : (runReported a (offerRevisit a.job a.frame (missFrame a why s))).index = (reportMissed a.frame s).index :=
    congrArg (fun x => x.filing.index) station
  refine ⟨(congrArg Ledger.lastMiss ledger).trans lastMiss, congrArg (fun x => x.filing.outstanding) station,
    congrArg (fun x => x.filing.ring) station, (congrArg Ledger.yieldCount ledger).trans ?_, fun e he => ?_⟩
  · rw [arbiter]
    rfl
  · exact ⟨{ e with captureState := .missed }, by rw [index, reportMissed_entry he], rfl, rfl, rfl, rfl, rfl⟩

/-! ### The trigger fired (R95, R101) -/

/-- The shot of a trigger fired now. -/
def shotNow (a : Armed) (s : State) : CaptureShot where
  trigger := a
  address := ((s.index.entries[a.frame]?).map (·.address)).getD s.transport.profile.startAddress
  lens    := s.focus.lens.getD 0
  link    := ((openJob a.job s).map (·.link)).getD .a
  drop    := false
  orphan  := false

theorem atTarget_lens {frame : Nat} {s : State} (h : atTarget frame s = true) : s.focus.lens.isSome = true := by
  unfold atTarget at h
  split at h
  · cases h
  · simp only [Bool.and_eq_true, beq_iff_eq] at h
    obtain ⟨⟨-, target⟩, same⟩ := h
    rwa [← same]

theorem fireCapture_filing (a : Armed) (s : State) : (fireCapture a s).station.filing = { s.station.filing with
    index := (reportFired a.frame (s.focus.lens.getD 0) s).index, handshake := .waitAnswer,
    outstanding := some (.capture s.transport.profile.answerLimit (shotNow a s)) } := rfl

theorem reportFired_entry {f lens : Nat} {e : Entry} {s : State} (h : s.index.entries[f]? = some e) :
    (reportFired f lens s).index.entries[f]? = some { e with lastFocusStep := some lens } := by
  simp [reportFired, modifyEntry, h]

theorem runReported_fired {a : Armed} {s : State} (h : missReason a.frame s = none) (at_ : atTarget a.frame s = true) :
    (runReported a (triggerTaken a s)).capture.handshake = .waitAnswer ∧
      (runReported a (triggerTaken a s)).capture.lastMiss = s.capture.lastMiss ∧
      (runReported a (triggerTaken a s)).arbiter.yieldCount = min 64 (s.arbiter.yieldCount + 1) ∧
      ∃ shot, (runReported a (triggerTaken a s)).capture.outstanding = some (.capture s.transport.profile.answerLimit shot) ∧
        shot.trigger = a ∧ shot.drop = false ∧ some shot.lens = s.focus.lens ∧
        ∀ e, s.index.entries[a.frame]? = some e →
          ∃ x, (runReported a (triggerTaken a s)).index.entries[a.frame]? = some x ∧ x.lastFocusStep = some shot.lens ∧
            x.low = e.low ∧ x.high = e.high ∧ x.address = e.address ∧ x.captureState = e.captureState := by
  rw [triggerTaken_fired h]
  have ledger := runReported_ledger a (fireCapture a s)
  have filing := (congrArg (fun l => l.station.filing) ledger).trans (fireCapture_filing a s)
  have entries : (runReported a (fireCapture a s)).index = (reportFired a.frame (s.focus.lens.getD 0) s).index :=
    congrArg Filing.index filing
  obtain ⟨step, lens⟩ := Option.isSome_iff_exists.mp (atTarget_lens at_)
  refine ⟨congrArg Filing.handshake filing, congrArg Ledger.lastMiss ledger, congrArg Ledger.yieldCount ledger, shotNow a s,
    congrArg Filing.outstanding filing, rfl, rfl, by simp [shotNow, lens], fun e he => ?_⟩
  exact ⟨{ e with lastFocusStep := some (s.focus.lens.getD 0) }, by rw [entries, reportFired_entry he], rfl, rfl, rfl, rfl, rfl⟩

/-! ### The sweep of the trigger (R112, R150) -/

/-- What an offer keeps of its job's record. -/
theorem HoldsBody.offerRevisit {n : Nat} {B : JobBody → Prop} {s : State} (h : HoldsBody n B s)
    (overflow : ∀ r b, B (.sweep r) → B (.sweep { r with overflow := b })) (frame : Nat) : HoldsBody n B (offerRevisit n frame s) := by
  unfold Machine.offerRevisit
  (repeat' split)
  · exact h
  · exact h
  · exact h.congr rfl
  · exact h.modifySweep fun r hr => overflow r true hr

/-- The offer of a sweep's frame missed, whether the sweep keeps a list or not. -/
theorem offerRevisit_record {n frame : Nat} {j : Job} {r : SweepRec} {s : State} (found : findJob n s = some j) (opened : j.isOpen = true)
    (body : j.body = .sweep r) :
    ∃ r', findJob n (offerRevisit n frame s) = some { j with body := .sweep r' } ∧ r'.captured = r.captured ∧ r'.endFrame = r.endFrame ∧
      ∀ ns, s.capture.revisitOf n = some ns → ∃ ns', (offerRevisit n frame s).capture.revisitOf n = some ns' ∧ Offered frame ns ns' ∧
        (frame ∉ ns → 64 ≤ ns.length → r'.overflow = true) := by
  cases list : s.capture.revisitOf n with
  | none => exact ⟨r, by rw [offerRevisit, list, found, ← body], rfl, rfl, nofun⟩
  | some ns =>
    obtain ⟨r', ns', found', list', offered, captured, -, overflow⟩ := offerRevisit_sweep (frame := frame) found opened body list
    have kept : HoldsBody n (sweepHas fun x => x.endFrame = r.endFrame) s := ⟨j, found, by rw [body]; rfl⟩
    obtain ⟨k, foundK, endFrame⟩ := kept.offerRevisit (fun _ _ same => same) frame
    cases foundK.symm.trans found'
    exact ⟨r', found', captured, endFrame, fun _ same => by cases same; exact ⟨ns', list', offered, overflow⟩⟩

theorem runReported_sweep {a : Armed} {j : Job} {r : SweepRec} {s : State} (found : findJob a.job s = some j) (opened : j.isOpen = true)
    (body : j.body = .sweep r) :
    ∃ k r', findJob a.job (runReported a (triggerTaken a s)) = some k ∧ k.body = .sweep r' ∧ k.state = j.state ∧
      r'.captured = r.captured ∧
      (s.index.entries.length ≤ a.frame + 1 ∨ (∃ y, r.endFrame = some (.frame y) ∧ y ≤ a.frame) → r'.nextFrame = none) ∧
      (a.frame + 1 < s.index.entries.length → (∀ y, r.endFrame = some (.frame y) → a.frame < y) →
        r'.nextFrame = some (a.frame + 1)) ∧
      ∀ ns, s.capture.revisitOf a.job = some ns →
        ∃ ns', (runReported a (triggerTaken a s)).capture.revisitOf a.job = some ns' ∧
          (missReason a.frame s = none → ns' = ns) ∧
          ((∃ why, missReason a.frame s = some why) →
            Offered a.frame ns ns' ∧ (a.frame ∉ ns → 64 ≤ ns.length → r'.overflow = true)) := by
  have ledger := runReported_ledger a (triggerTaken a s)
  obtain ⟨-, -, length, -⟩ := triggerTaken_keeps a s
  obtain ⟨r', found', captured, endFrame, lists⟩ : ∃ r', findJob a.job (triggerTaken a s) = some { j with body := .sweep r' } ∧
      r'.captured = r.captured ∧ r'.endFrame = r.endFrame ∧ ∀ ns, s.capture.revisitOf a.job = some ns →
        ∃ ns', (triggerTaken a s).capture.revisitOf a.job = some ns' ∧ (missReason a.frame s = none → ns' = ns) ∧
          ((∃ why, missReason a.frame s = some why) →
            Offered a.frame ns ns' ∧ (a.frame ∉ ns → 64 ≤ ns.length → r'.overflow = true)) := by
    cases h : missReason a.frame s with
    | none =>
      rw [triggerTaken_fired h]
      exact ⟨r, found.trans (by rw [← body]), rfl, rfl, fun ns list => ⟨ns, list, fun _ => rfl, fun ⟨_, no⟩ => by cases no⟩⟩
    | some why =>
      rw [triggerTaken_missed h]
      obtain ⟨r', found', captured, endFrame, lists⟩ :=
        offerRevisit_record (s := missFrame a why s) (frame := a.frame) found opened body
      refine ⟨r', found', captured, endFrame, fun ns list => ?_⟩
      obtain ⟨ns', list', offered⟩ := lists ns list
      exact ⟨ns', list', nofun, fun _ => offered⟩
  refine ⟨_, { r' with nextFrame := frameAfter a.frame r' (triggerTaken a s).index },
    (findJob_congr (congrArg Ledger.jobs ledger) a.job).trans (findJob_advanceSweep found' opened rfl), rfl, rfl, captured,
    fun last => frameAfter_none (by rwa [length, endFrame]), fun more within => frameAfter_some (by rwa [length]) (by rwa [endFrame]),
    fun ns list => ?_⟩
  obtain ⟨ns', list', fired, missed⟩ := lists ns list
  exact ⟨ns', (revisitOf_congr (congrArg Ledger.revisits ledger) a.job).trans list', fired, missed⟩

end Sys2Proof.Machine
end


section
/-! PROOFS. The end of a run leg: a stopped run taken anew or left queued, and what a sweep does at its boundary (R124 to R126, R151 to
R153). -/

namespace Sys2Proof.Machine

/-! ### The film at rest leaves the capture and the entries alone -/

theorem leaveIndexing_entries (s : State) : (leaveIndexing s).index.entries = s.index.entries := by
  unfold leaveIndexing; split <;> rfl

theorem setMode_entries (m : TrackerMode) (s : State) : (setMode m s).index.entries = s.index.entries := by
  unfold setMode
  split
  · rfl
  · split
    · exact leaveIndexing_entries s
    · rfl

theorem enterState_capture (st : TransportState) (s : State) : (enterState st s).capture = s.capture := by
  unfold enterState; split <;> rfl

theorem passEnded_capture (s : State) : (passEnded s).capture = s.capture := by
  rw [passEnded, refreshMode, setMode_capture, setMode_capture]
  exact enterState_capture .ready _

theorem passEnded_entries (s : State) : (passEnded s).index.entries = s.index.entries := by
  have entered := index_of_film (enterState_film .ready ((driveOff s).onTransport fun t => { t with move := none }))
  rw [passEnded, refreshMode, setMode_entries, setMode_entries]
  exact congrArg Index.entries entered

theorem atRest_entries (o : MoveOutcome) (s : State) : (atRest o s).index.entries = s.index.entries := by
  unfold atRest
  split
  · exact passEnded_entries s
  · exact passEnded_entries s

/-! ### A stopped run (R124 to R126) -/

theorem clearCurrent_arrival (s : State) : (clearCurrent s).arbiter.arrival = s.arbiter.arrival := by
  simp only [clearCurrent, State.onArbiter_arbiter, Arbiter.clearCurrent]; split <;> rfl

/-- The run-up point of a run whose next frame has an entry (R119). -/
theorem runRunUp_frame {n f : Nat} {j : Job} {r : SweepRec} {e : Entry} {s : State} (found : findJob n s = some j)
    (opened : j.isOpen = true) (body : j.body = .sweep r) (next : r.nextFrame = some f) (at_ : s.index.entries[f]? = some e) :
    runRunUp n s = e.low - s.transport.profile.pitchMax := by
  simp [runRunUp, sweepOf, openJob_of_findJob found opened, body, next, frameRunUp, at_]

/-- A run taken anew by a film that has come to rest. -/
theorem requeueRun_anew {n : Nat} {j : Job} {r : SweepRec} {s t : State} (resume : Bool) (room : s.arbiter.arrival < 65535)
    (idle : t.arbiter.current = none) (arrival : t.arbiter.arrival = s.arbiter.arrival) (entries : t.index.entries = s.index.entries)
    (profile : t.transport.profile = s.transport.profile) (found : findJob n t = some j) (opened : j.isOpen = true)
    (body : j.body = .sweep r) :
    (requeueRun n resume t).arbiter.current = none ∧ findJob n (requeueRun n resume t) = some j ∧
      ∃ x, (requeueRun n resume t).arbiter.entryOf (.job n) = some x ∧ x.cls = .normal ∧ x.kind = .run ∧ x.skip = 0 ∧
        x.arrival = s.arbiter.arrival ∧ x.resume = resume ∧
        ∀ f e, r.nextFrame = some f → s.index.entries[f]? = some e → x.start = e.low - s.transport.profile.pitchMax :=
  ⟨(place_current _ _).trans idle, found, _, requeueRun_entry n resume t (arrival.trans_lt room), rfl, rfl, rfl, arrival, rfl,
    fun _ _ next at_ => (runRunUp_frame found opened body next (by rw [entries, at_])).trans (by rw [profile])⟩

section
variable {c : Current} {n : Nat} {s : State} (hc : s.arbiter.current = some c) (job : c.requester = .job n) (run : c.kind = .run)
include hc

theorem completeMove_legStopped : completeMove .stopped s = legStopped c (atRest .stopped s) := by
  have current : (atRest .stopped s).arbiter.current = some c := by rw [atRest_arbiter, hc]
  rw [completeMove_eq, legDone, current]
  rfl

include job run

theorem completeMove_yielded (stop : c.stop = some .yielded) :
    completeMove .stopped s = requeueRun n false (clearCurrent (atRest .stopped s)) := by
  rw [completeMove_legStopped hc, legStopped, stop, job, run]

theorem completeMove_suspended (stop : c.stop = some .suspended) :
    completeMove .stopped s = requeueRun n true (setJobState n .suspended (clearCurrent (atRest .stopped s))) := by
  rw [completeMove_legStopped hc, legStopped, stop, job, run]
  rfl

/-- A run stopped by the sequencer leaves its entry and the jobs as they are (R126). -/
theorem completeMove_sequencer (stop : c.stop = some .sequencer) (free : s.capture.holding = none) :
    (completeMove .stopped s).arbiter.current = none ∧ (completeMove .stopped s).arbiter.queue = s.arbiter.queue ∧
      (completeMove .stopped s).jobs = s.jobs := by
  have holding : (clearCurrent (atRest .stopped s)).capture.holding = none := (atRest_holding .stopped s).trans free
  have done : completeMove .stopped s = clearCurrent (atRest .stopped s) := by
    rw [completeMove_legStopped hc, legStopped, stop, job, run]
    simp only [stationaryMoved, holding]
  rw [done]
  exact ⟨rfl, by rw [clearCurrent_queue, atRest_arbiter], atRest_jobs .stopped s⟩

/-- A run that yields or is suspended is taken anew, after a suspension with resume and its sweep SUSPENDED (R124, R125). -/
theorem completeMove_taken_anew {j : Job} {r : SweepRec} (found : findJob n s = some j) (opened : j.isOpen = true)
    (body : j.body = .sweep r) (stop : c.stop = some .suspended ∨ c.stop = some .yielded) (room : s.arbiter.arrival < 65535) :
    (completeMove .stopped s).arbiter.current = none ∧
      (∃ k, findJob n (completeMove .stopped s) = some k ∧ k.body = .sweep r ∧
        k.state = (if c.stop = some .suspended then .suspended else j.state)) ∧
      ∃ x, (completeMove .stopped s).arbiter.entryOf (.job n) = some x ∧ x.cls = .normal ∧ x.kind = .run ∧
        x.skip = 0 ∧ x.arrival = s.arbiter.arrival ∧ (x.resume = true ↔ c.stop = some .suspended) ∧
        ∀ f e, r.nextFrame = some f → s.index.entries[f]? = some e → x.start = e.low - s.transport.profile.pitchMax := by
  have rested : findJob n (clearCurrent (atRest .stopped s)) = some j := (findJob_congr (atRest_jobs .stopped s) n).trans found
  have arrival : (clearCurrent (atRest .stopped s)).arbiter.arrival = s.arbiter.arrival := by
    rw [clearCurrent_arrival, atRest_arbiter]
  have entries : (clearCurrent (atRest .stopped s)).index.entries = s.index.entries := atRest_entries .stopped s
  have transport : (clearCurrent (atRest .stopped s)).transport = s.transport.rested := atRest_transport .stopped s
  have profile : (clearCurrent (atRest .stopped s)).transport.profile = s.transport.profile := by rw [transport]; rfl
  rcases stop with stop | stop
  · obtain ⟨idle, found', x, entry, cls, kind, skip, arrived, resume, start⟩ := requeueRun_anew
      (t := setJobState n .suspended (clearCurrent (atRest .stopped s))) true room rfl arrival entries profile
      (findJob_setJobState .suspended rested) rfl body
    rw [completeMove_suspended hc job run stop]
    exact ⟨idle, ⟨_, found', body, (if_pos stop).symm⟩, x, entry, cls, kind, skip, arrived, by simp [resume, stop], start⟩
  · obtain ⟨idle, found', x, entry, cls, kind, skip, arrived, resume, start⟩ := requeueRun_anew
      (t := clearCurrent (atRest .stopped s)) false room rfl arrival entries profile rested opened body
    rw [completeMove_yielded hc job run stop]
    exact ⟨idle, ⟨_, found', body, by simp [stop]⟩, x, entry, cls, kind, skip, arrived, by simp [resume, stop], start⟩

end

/-! ### What a sweep chooses at its boundary (R151) -/

/-- The record of a sweep past its run: one to ROLL_END ends at the last entry (R151). -/
def SweepRec.bounded (count : Nat) (r : SweepRec) : SweepRec :=
  { r with endFrame := if r.endFrame = some .rollEnd then some (.frame (count - 1)) else r.endFrame }

theorem SweepRec.bounded_rangeSize {count x last : Nat} {y : EndFrame} {r : SweepRec} (from_ : r.fromFrame = some x)
    (end_ : r.endFrame = some y) (toEnd : y = .rollEnd → last = count - 1) (toFrame : ∀ b, y = .frame b → last = b) :
    (r.bounded count).rangeSize = last + 1 - x := by
  cases y with
  | frame b => simp [SweepRec.bounded, SweepRec.rangeSize, from_, end_, toFrame b rfl]
  | rollEnd => simp [SweepRec.bounded, SweepRec.rangeSize, from_, end_, toEnd rfl]

/-- The sweep with its record bounded. -/
def sweepBounded (n : Nat) (s : State) : State := modifySweep n (SweepRec.bounded s.index.count) s

theorem findJob_sweepBounded {n : Nat} {j : Job} {r : SweepRec} {s : State} (found : findJob n s = some j) (opened : j.isOpen = true)
    (body : j.body = .sweep r) : findJob n (sweepBounded n s) = some { j with body := .sweep (r.bounded s.index.count) } :=
  findJob_modifySweep_open _ found opened body

section
variable {n : Nat} {j : Job} {r : SweepRec} {o : MoveOutcome} {s : State} (found : findJob n s = some j) (opened : j.isOpen = true)
  (body : j.body = .sweep r) (ended : r.runEnded = some o)
include found opened body ended

theorem sweepChoose_run {f : Nat} (reached : o = .reached) (next : r.nextFrame = some f) :
    sweepChoose n s = submitJob n .run none (modifySweep n (fun r => { r with runEnded := none }) s) := by
  unfold sweepChoose
  rw [openJob_of_findJob found opened]
  cases j
  cases body
  simp only [ended, reached, next]

theorem sweepChoose_tail {f : Nat} (short : o ≠ .reached) (next : r.nextFrame = some f) :
    sweepChoose n s = submitJob n .item (some f) s := by
  unfold sweepChoose
  rw [openJob_of_findJob found opened]
  cases j
  cases body
  cases o <;> simp only [ended, next]
  exact absurd rfl short

theorem sweepChoose_past (next : r.nextFrame = none) : sweepChoose n s =
    if r.revisit && !((s.capture.revisitOf n).getD []).isEmpty then
      revisitNext n (if j.state = .suspended then sweepBounded n s else setJobState n .revisiting (sweepBounded n s))
    else endSweep n (sweepBounded n s) := by
  unfold sweepChoose
  rw [openJob_of_findJob found opened]
  cases j
  cases body
  cases o <;> (simp only [ended, next]; rfl)

end

/-- An entry submitted for a job of class NORMAL. -/
theorem submitJob_normal {n : Nat} {j : Job} {s : State} (found : findJob n s = some j) (opened : j.isOpen = true)
    (calm : j.urgent = false) (k : QKind) (frame : Option Nat) :
    ∃ z, (submitJob n k frame s).arbiter.entryOf (.job n) = some z ∧ z.cls = .normal ∧ z.kind = k ∧ z.frame = frame := by
  rw [submitJob_open found opened, calm]
  obtain ⟨z, entry, kind, cls, frame'⟩ := submit_entry (.job n) .normal k frame s
  exact ⟨z, entry, cls, kind, frame'⟩

/-- The next revisit is that of the nearest frame (R152). -/
theorem revisitNext_submits {n : Nat} {ns : List Nat} {s : State} (list : s.capture.revisitOf n = some ns) (left : ns ≠ []) :
    ∃ f ∈ ns, revisitNext n s = submitJob n .item (some f) s ∧ ∀ x ∈ ns, travelTo s f ≤ travelTo s x := by
  obtain ⟨f, member, nearest, least⟩ := nearestFrame_spec (s := s) left
  exact ⟨f, member, by simp [revisitNext, list, nearest], least⟩

/-- The end of a sweep by its counts (R153). -/
theorem endSweep_eq {n : Nat} {j : Job} {r : SweepRec} {s : State} (found : findJob n s = some j) (opened : j.isOpen = true)
    (body : j.body = .sweep r) : endSweep n s =
      endJob n (if r.captured = 0 then .failed else if r.captured < r.rangeSize then .part else .done) .none s := by
  have record : sweepOf n s = some r := by simp [sweepOf, openJob_of_findJob found opened, body]
  simp only [endSweep, record]

/-- The film at rest has moved no trigger position, and lies where it lay. -/
theorem travelTo_rested {s t : State} {n T : Nat} (entries : t.index.entries = s.index.entries)
    (transport : t.transport = s.transport.rested) (at_ : triggerPosition s n = some T) :
    travelTo t n = max T s.transport.position - min T s.transport.position := by
  have kept : triggerPosition t n = some T := by
    rw [← at_, triggerPosition, entries, transport, triggerPosition]
    rfl
  have position : t.transport.position = s.transport.position := by rw [transport]; rfl
  rw [travelTo, kept, position, Option.getD_some, dist]
  omega

/-- No motion current and no trigger armed. -/
def Quiet (s : State) : Prop := s.arbiter.current = none ∧ s.capture.armed = []

theorem Quiet.submitJob {s : State} (h : Quiet s) (n : Nat) (k : QKind) (frame : Option Nat) : Quiet (submitJob n k frame s) := by
  refine ⟨(submitJob_asks n k frame s).current_none h.1, ?_⟩
  unfold Machine.submitJob
  split
  · exact h.2
  · exact submit_armed h.2 _ _ _ _

theorem Quiet.endJob {s : State} (h : Quiet s) (n : Nat) (st : JobState) (why : EndReason) : Quiet (endJob n st why s) := by
  refine ⟨(endJob_asks n st why s).current_none h.1, ?_⟩
  cases open_ : openJob n s with
  | none => rw [Machine.endJob, open_]; exact h.2
  | some j =>
    rw [endJob_part (fun s => s.capture.armed) (fun _ _ _ => rfl) (fun _ _ => rfl) open_ st why]
    exact withdraw_armed (s := modifyJob n (Job.closed st why s) s) h.2 (.job n)

theorem Quiet.endSweep {s : State} (h : Quiet s) (n : Nat) : Quiet (endSweep n s) := by
  unfold Machine.endSweep
  split
  · exact h
  · exact h.endJob n _ _

theorem Quiet.revisitNext {s : State} (h : Quiet s) (n : Nat) : Quiet (revisitNext n s) := by
  unfold Machine.revisitNext
  split
  · exact h.endSweep n
  · exact h.submitJob n _ _

/-- A sweep's choice brings in no motion and arms nothing. -/
theorem Quiet.sweepChoose {s : State} (h : Quiet s) (n : Nat) : Quiet (sweepChoose n s) := by
  have recorded (f : SweepRec → SweepRec) : Quiet (modifySweep n f s) := h
  have stated (st : JobState) (f : SweepRec → SweepRec) : Quiet (setJobState n st (modifySweep n f s)) := h
  unfold Machine.sweepChoose
  dsimp only
  (repeat' split)
  · exact h.submitJob n _ _
  · exact h
  · exact (recorded _).submitJob n _ _
  · exact h.submitJob n _ _
  · exact (recorded _).revisitNext n
  · exact (stated _ _).revisitNext n
  · exact (recorded _).endSweep n
  · exact h

/-! ### The boundary of a run (R126, R151) -/

/-- The run leg at its boundary, its entry off the queue and the triggers left disarmed; the sweep has not chosen yet. -/
def runOver (c : Current) (n : Nat) (o : MoveOutcome) (s : State) : State :=
  modifySweep n (fun r => { r with runEnded := some o }) (disarm (leftQueue c (atRest o s)))

theorem runOver_quiet (c : Current) (n : Nat) (o : MoveOutcome) (s : State) : Quiet (runOver c n o s) := ⟨rfl, rfl⟩

theorem runOver_entries (c : Current) (n : Nat) (o : MoveOutcome) (s : State) :
    (runOver c n o s).index.entries = s.index.entries := by
  have dropped (u : State) : (dropDone c u).index = u.index := by unfold dropDone; (repeat' split) <;> rfl
  exact (congrArg Index.entries (dropped _)).trans (atRest_entries o s)

theorem runOver_transport (c : Current) (n : Nat) (o : MoveOutcome) (s : State) :
    (runOver c n o s).transport = s.transport.rested := (leftQueue_ended c o s).1

theorem findJob_runOver {c : Current} {n : Nat} {j : Job} {r : SweepRec} {o : MoveOutcome} {s : State} (found : findJob n s = some j)
    (opened : j.isOpen = true) (body : j.body = .sweep r) :
    findJob n (runOver c n o s) = some { j with body := .sweep { r with runEnded := some o } } :=
  findJob_modifySweep_open (s := disarm (leftQueue c (atRest o s))) _ ((findJob_leftQueue c o n s).trans found) opened body

theorem runOver_capture {o : MoveOutcome} (ho : o ≠ .stopped) (c : Current) (n : Nat) (s : State) :
    (runOver c n o s).capture = { s.capture with armed := [] } := by
  have rests : (atRest o s).capture = s.capture := by rw [atRest, if_neg fun h => ho h.1, passEnded_capture]
  exact congrArg (fun x : Capture => { x with armed := [] }) ((leftQueue_keeps c (atRest o s)).2.2.1.trans rests)

/-- With its captures settled the sweep of a run at its boundary chooses at once. -/
theorem completeMove_runOver {c : Current} {n : Nat} {q : QEntry} {o : MoveOutcome} {s : State} (hc : s.arbiter.current = some c)
    (job : c.requester = .job n) (run : c.kind = .run) (search : c.search = none) (held : s.arbiter.entryOf (.job n) = some q)
    (same : q.kind = .run) (frame : q.frame = c.frame) (free : s.capture.holding = none) (leg : c.leg = .main) (ho : o ≠ .stopped)
    (settled : s.capture.outstanding = none) : completeMove o s = sweepChoose n (runOver c n o s) := by
  have done : completeMove o s = sweepDecide n (runOver c n o s) := by
    rw [completeMove_last hc leg ho]
    unfold motionDone
    rw [run, job]
    simp only [search, Option.isSome_none, Bool.false_eq_true, if_false]
    rfl
  have entry : (runOver c n o s).arbiter.entryOf (.job n) = none := by
    rw [← job] at held
    rw [← job]
    exact leftQueue_entry (by rw [atRest_arbiter, held]) (by rw [same, run]) frame
  rw [done, sweepDecide, entry, runOver_capture ho]
  simp [Capture.outstandingFor, settled, free]

section
variable {c : Current} {n : Nat} {o : MoveOutcome} {s : State} {j : Job} {r : SweepRec} (found : findJob n s = some j)
  (opened : j.isOpen = true) (body : j.body = .sweep r)
include found opened body

/-- With frames left the run goes on after REACHED; else the next frame is taken as an ITEM. -/
theorem runOver_frames_left {f : Nat} (calm : j.urgent = false) (next : r.nextFrame = some f) :
    ∃ k r', findJob n (sweepChoose n (runOver c n o s)) = some k ∧ k.state = j.state ∧ k.body = .sweep r' ∧
      r'.nextFrame = some f ∧
      ∃ z, (sweepChoose n (runOver c n o s)).arbiter.entryOf (.job n) = some z ∧ z.cls = .normal ∧
        (o = .reached → z.kind = .run) ∧ (o ≠ .reached → z.kind = .item ∧ z.frame = some f) := by
  have ended := findJob_runOver (c := c) (o := o) found opened body
  by_cases reached : o = .reached
  · have again := findJob_modifySweep_open (fun r => { r with runEnded := none }) ended opened rfl
    obtain ⟨z, entry, cls, kind, -⟩ := submitJob_normal again opened calm .run none
    rw [sweepChoose_run ended opened rfl rfl reached next]
    exact ⟨_, _, (findJob_congr (submitJob_jobs _ _ _ _) n).trans again, rfl, rfl, next, z,
      entry, cls, fun _ => kind, fun short => absurd reached short⟩
  · obtain ⟨z, entry, cls, kind, frame⟩ := submitJob_normal ended opened calm .item (some f)
    rw [sweepChoose_tail ended opened rfl rfl reached next]
    exact ⟨_, _, (findJob_congr (submitJob_jobs _ _ _ _) n).trans ended, rfl, rfl, next, z, entry, cls,
      fun yes => absurd yes reached, fun _ => ⟨kind, frame⟩⟩

variable (ho : o ≠ .stopped) (next : r.nextFrame = none)
include ho next

/-- With none left the missed frames are revisited, the nearest first (R152). -/
theorem runOver_revisits {ns : List Nat} (calm : j.urgent = false) (wants : r.revisit = true)
    (list : s.capture.revisitOf n = some ns) (left : ns ≠ []) (awake : j.state ≠ .suspended) :
    (∃ k, findJob n (sweepChoose n (runOver c n o s)) = some k ∧ k.state = .revisiting) ∧
      ∃ z f, (sweepChoose n (runOver c n o s)).arbiter.entryOf (.job n) = some z ∧ z.cls = .normal ∧ z.kind = .item ∧
        z.frame = some f ∧ f ∈ ns ∧
        ∀ g ∈ ns, ∀ t t', triggerPosition s f = some t → triggerPosition s g = some t' →
          max t s.transport.position - min t s.transport.position ≤
            max t' s.transport.position - min t' s.transport.position := by
  have ended := findJob_runOver (c := c) (o := o) found opened body
  have revisiting := findJob_setJobState .revisiting (findJob_sweepBounded ended opened rfl)
  have list' : (runOver c n o s).capture.revisitOf n = some ns := by rw [runOver_capture ho]; exact list
  obtain ⟨f, member, submits, least⟩ :=
    revisitNext_submits (s := setJobState n .revisiting (sweepBounded n (runOver c n o s))) list' left
  obtain ⟨z, entry, cls, kind, frame⟩ := submitJob_normal revisiting rfl calm .item (some f)
  have chooses : sweepChoose n (runOver c n o s) =
      submitJob n .item (some f) (setJobState n .revisiting (sweepBounded n (runOver c n o s))) := by
    rw [sweepChoose_past ended opened rfl rfl next]
    simp [wants, list', left, awake, submits]
  rw [chooses]
  refine ⟨⟨_, (findJob_congr (submitJob_jobs _ _ _ _) n).trans revisiting, rfl⟩,
    z, f, entry, cls, kind, frame, member, fun g hg t t' at_ at' => ?_⟩
  rw [← travelTo_rested (runOver_entries c n o s) (runOver_transport c n o s) at_,
    ← travelTo_rested (runOver_entries c n o s) (runOver_transport c n o s) at']
  exact least g hg

/-- With nothing left the sweep ends by its counts (R153). -/
theorem runOver_ends {x last : Nat} {y : EndFrame} (nothing : r.revisit = false ∨ s.capture.revisitOf n = some [])
    (from_ : r.fromFrame = some x) (end_ : r.endFrame = some y) (toEnd : y = .rollEnd → last = s.index.entries.length - 1)
    (toFrame : ∀ b, y = .frame b → last = b) :
    (sweepChoose n (runOver c n o s)).arbiter.entryOf (.job n) = none ∧
      ∃ k, findJob n (sweepChoose n (runOver c n o s)) = some k ∧ k.endReason = .none ∧
        k.state = if r.captured = 0 then .failed else if r.captured < last + 1 - x then .part else .done := by
  have ended := findJob_runOver (c := c) (o := o) found opened body
  have bounded := findJob_sweepBounded ended opened rfl
  have size : (SweepRec.bounded (runOver c n o s).index.count { r with runEnded := some o }).rangeSize = last + 1 - x :=
    SweepRec.bounded_rangeSize from_ end_ (fun roll => by rw [toEnd roll, Index.count, runOver_entries]) toFrame
  have empty : (r.revisit && !(((runOver c n o s).capture.revisitOf n).getD []).isEmpty) = false := by
    rcases nothing with unwanted | none_left
    · rw [unwanted, Bool.false_and]
    · have list : (runOver c n o s).capture.revisitOf n = some [] := by rw [runOver_capture ho]; exact none_left
      simp [list]
  rw [sweepChoose_past ended opened rfl rfl next, if_neg (by rw [empty]; exact Bool.false_ne_true), endSweep_eq bounded opened rfl]
  exact ⟨endJob_entry (openJob_of_findJob bounded opened) _ _, _,
    findJob_endJob bounded opened _ _, rfl, by rw [← size]; rfl⟩

end

end Sys2Proof.Machine

open Sys2Proof Sys2Proof.Machine

/-- Settles O58: the trigger by the tests of `missReason`, a stopped run by the cause of the stop, and the boundary by `sweepChoose`. -/
theorem runTriggerTaken : Obligations.RunTriggerTaken := by
  unfold Obligations.RunTriggerTaken
  intro a s needs missed needs_eq hmissed
  obtain rfl : missed = fun why => MissedInRun a s why (takeTrigger a s) := by
    funext why
    exact propext (hmissed why)
  subst needs_eq
  refine ⟨fun lost => if_pos lost, fun exact_ needs => (takeTrigger_stops (.inr needs)).trans (by rw [if_pos exact_]), fun stops => ?_,
    fun exact_ unneeded => ?_, fun c n j r q hc job run search _ found opened body held same frame free => ⟨fun stop room => ?_,
      fun stop => ?_, fun o x y ho leg _ from_ end_ calm settled u hu => ?_⟩⟩
  · rw [takeTrigger_stops stops]
    have ledger := askStop_ledger (if s.transport.reference = .exact then .searchFrame a.frame else .sequencer) s
    exact ⟨congrArg (fun l => l.station.filing.outstanding) ledger, congrArg Ledger.lastMiss ledger,
      congrArg (fun l => l.station.filing.ring) ledger, congrArg (fun l => l.station.filing.index) ledger, congrArg Ledger.jobs ledger,
      congrArg Ledger.yieldCount ledger, fun c m why hc run going hm moving cause => cause ▸ askStop_run why hc run going hm moving⟩
  · obtain ⟨arbiter, transport, -, may⟩ := triggerTaken_keeps a s
    rw [takeTrigger_reported exact_ unneeded]
    refine ⟨fun busy => runReported_missed (missReason_busy busy), fun ready full => runReported_missed (missReason_full ready full),
      fun ready room late => runReported_missed (missReason_late ready room late),
      fun ready room at_ => runReported_fired (missReason_fires ready room at_) at_, fun j r _ found opened body => ?_,
      fun c m counts hc run going search hm moving ⟨q, queued, normal, eligible_, other⟩ => ?_⟩
    · obtain ⟨k, r', found', body', state, captured, last, more, lists⟩ := runReported_sweep found opened body
      refine ⟨k, r', found', body', state, captured, last, more, fun ns list => ?_⟩
      obtain ⟨ns', list', fired, missed⟩ := lists ns list
      exact ⟨ns', list', fun ready room at_ => fired (missReason_fires ready room at_), fun misses => missed (missReason_misses misses)⟩
    · exact runReported_yields (by rwa [arbiter]) (by rwa [arbiter]) run going search (by rwa [transport]) (by rwa [transport])
        (by rwa [arbiter]) normal (by rwa [may]) other
  · exact completeMove_taken_anew hc job run found opened body stop room
  · exact completeMove_sequencer hc job run stop free
  · rw [hu, completeMove_runOver hc job run search held same frame free leg ho settled]
    obtain ⟨idle, unarmed⟩ := (runOver_quiet c n o s).sweepChoose n
    refine ⟨idle, unarmed, fun f next => runOver_frames_left found opened body calm next,
      fun ns next wants list left awake => runOver_revisits found opened body ho next calm wants list left awake,
      fun last next nothing toEnd toFrame _ => ?_⟩
    obtain ⟨entry, k, found', why, state⟩ := runOver_ends found opened body ho next nothing from_ end_ toEnd toFrame
    refine ⟨entry, k, found', why, fun zero => ?_, fun some_ few => ?_, fun all => ?_⟩
    · rw [state, if_pos zero]
    · rw [state, if_neg (by omega), if_pos few]
    · rw [state, if_neg (by omega), if_neg (by omega)]

end

section
/-! PROOFS. The choice within a class of queue entries (R121): the aged entry of lowest arrival, else the nearest in a direction. -/

namespace Sys2Proof.Machine

/-! ### The lowest arrival -/

theorem earliest_eq_none {es : List QEntry} : earliest es = none ↔ es = [] := by
  cases es with
  | nil => simp [earliest]
  | cons e es => cases h : earliest es <;> simp [earliest, h]

theorem earlier_le (x y : QEntry) : (earlier x y).arrival ≤ x.arrival ∧ (earlier x y).arrival ≤ y.arrival := by
  unfold earlier
  split <;> omega

theorem earliest_spec {es : List QEntry} {e : QEntry} (h : earliest es = some e) : e ∈ es ∧ ∀ x ∈ es, e.arrival ≤ x.arrival := by
  induction es generalizing e with
  | nil => cases h
  | cons y ys ih =>
    cases rest : earliest ys with
    | none =>
      obtain rfl := earliest_eq_none.mp rest
      obtain rfl : y = e := by simpa [earliest] using h
      simp
    | some z =>
      obtain ⟨member, least⟩ := ih rest
      obtain rfl : earlier y z = e := by simpa [earliest, rest] using h
      obtain ⟨first, second⟩ := earlier_le y z
      refine ⟨?_, fun x hx => ?_⟩
      · unfold earlier
        split
        · exact List.mem_cons_of_mem _ member
        · exact List.mem_cons_self
      · rcases List.mem_cons.mp hx with rfl | later
        · exact first
        · exact second.trans (least x later)

/-! ### The nearest in a direction -/

theorem ahead_up {pos n : Nat} {e : QEntry} : ahead .up pos e = some n ↔ pos ≤ e.start ∧ e.start - pos = n := by
  simp [ahead]

theorem ahead_down {pos n : Nat} {e : QEntry} : ahead .down pos e = some n ↔ e.start ≤ pos ∧ pos - e.start = n := by
  simp [ahead]

/-- An entry lies in a direction where its start position is at the film's or beyond it that way. -/
theorem ahead_eq_none {dir : Elevator} {pos : Nat} {e : QEntry} :
    ahead dir pos e = none ↔ ¬ ((dir = .up → pos ≤ e.start) ∧ (dir = .down → e.start ≤ pos)) := by
  cases dir <;> simp [ahead]

/-- An entry that does not lie in a direction lies in the other. -/
theorem ahead_flip {dir : Elevator} {pos : Nat} {e : QEntry} (h : ahead dir pos e = none) : ahead dir.flip pos e ≠ none := by
  cases dir <;> simp [ahead, Elevator.flip] at h ⊢ <;> omega

theorem nearestAhead_eq_none {dir : Elevator} {pos : Nat} {es : List QEntry} :
    nearestAhead dir pos es = none ↔ ∀ x ∈ es, ahead dir pos x = none := by
  induction es with
  | nil => simp [nearestAhead]
  | cons e es ih =>
    rw [List.forall_mem_cons, ← ih]
    cases own : ahead dir pos e with
    | none => simp [nearestAhead, own]
    | some d =>
      cases rest : nearestAhead dir pos es with
      | none => simp [nearestAhead, own, rest]
      | some r => simp only [nearestAhead, own, rest]; split <;> simp

/-- The nearest of a list in a direction: none in it is nearer, and at the same distance none came earlier (R121). -/
theorem nearestAhead_spec {dir : Elevator} {pos d : Nat} {es : List QEntry} {e : QEntry} (h : nearestAhead dir pos es = some (e, d)) :
    e ∈ es ∧ ahead dir pos e = some d ∧ ∀ x ∈ es, ∀ dx, ahead dir pos x = some dx → d < dx ∨ d = dx ∧ e.arrival ≤ x.arrival := by
  induction es generalizing e d with
  | nil => cases h
  | cons y ys ih =>
    unfold nearestAhead at h
    split at h
    · next behind =>
      obtain ⟨member, at_, least⟩ := ih h
      refine ⟨List.mem_cons_of_mem _ member, at_, fun x hx dx ahead_ => ?_⟩
      rcases List.mem_cons.mp hx with rfl | later
      · simp [behind] at ahead_
      · exact least x later dx ahead_
    · next d' own rest =>
      cases h
      refine ⟨List.mem_cons_self, own, fun x hx dx ahead_ => ?_⟩
      rcases List.mem_cons.mp hx with rfl | later
      · exact .inr ⟨Option.some.inj (own.symm.trans ahead_), le_rfl⟩
      · simp [nearestAhead_eq_none.mp rest x later] at ahead_
    · next d' z dz own rest =>
      obtain ⟨member, at_, least⟩ := ih rest
      split at h
      · next nearer =>
        cases h
        refine ⟨List.mem_cons_self, own, fun x hx dx ahead_ => ?_⟩
        rcases List.mem_cons.mp hx with rfl | later
        · exact .inr ⟨Option.some.inj (own.symm.trans ahead_), le_rfl⟩
        · have := least x later dx ahead_
          omega
      · next farther =>
        cases h
        refine ⟨List.mem_cons_of_mem _ member, at_, fun x hx dx ahead_ => ?_⟩
        rcases List.mem_cons.mp hx with rfl | later
        · obtain rfl : d' = dx := Option.some.inj (own.symm.trans ahead_)
          omega
        · exact least x later dx ahead_

/-! ### The choice (R121) -/

theorem mem_aged {es : List QEntry} {x : QEntry} : x ∈ es.filter (fun x => Config.agedSkip ≤ x.skip) ↔ x ∈ es ∧ 8 ≤ x.skip := by
  rw [List.mem_filter, decide_eq_true_iff]
  rfl

theorem chooseIn_some (dir : Elevator) (pos : Nat) {es : List QEntry} (h : es ≠ []) : ∃ e d, chooseIn dir pos es = some (e, d) := by
  unfold chooseIn
  split
  · exact ⟨_, _, rfl⟩
  · split
    · exact ⟨_, _, rfl⟩
    · next behind =>
      cases other : nearestAhead dir.flip pos es with
      | some r => exact ⟨_, _, rfl⟩
      | none =>
        obtain ⟨x, hx⟩ := List.exists_mem_of_ne_nil es h
        exact absurd (nearestAhead_eq_none.mp other x hx) (ahead_flip (nearestAhead_eq_none.mp behind x hx))

/-- How a choice comes about: the aged entry of lowest arrival; with none aged the nearest in the elevator direction, and with none that
way the nearest in the other. -/
theorem chooseIn_cases {dir d : Elevator} {pos : Nat} {es : List QEntry} {e : QEntry} (h : chooseIn dir pos es = some (e, d)) :
    earliest (es.filter fun x => Config.agedSkip ≤ x.skip) = some e ∧ d = dir ∨
    (∀ x ∈ es, x.skip < 8) ∧ (∃ n, nearestAhead d pos es = some (e, n)) ∧
      (d = dir ∨ d = dir.flip ∧ nearestAhead dir pos es = none) := by
  unfold chooseIn at h
  split at h
  · next aged => cases h; exact .inl ⟨aged, rfl⟩
  · next fresh =>
    have young : ∀ x ∈ es, x.skip < 8 := fun x hx => Nat.lt_of_not_le fun old =>
      absurd (mem_aged.mpr ⟨hx, old⟩) (by simp [earliest_eq_none.mp fresh])
    split at h
    · next n nearest => cases h; exact .inr ⟨young, ⟨n, nearest⟩, .inl rfl⟩
    · next behind =>
      obtain ⟨⟨x, n⟩, nearest, same⟩ := Option.map_eq_some_iff.mp h
      cases same
      exact .inr ⟨young, ⟨n, nearest⟩, .inr ⟨rfl, behind⟩⟩

theorem chooseIn_mem {dir d : Elevator} {pos : Nat} {es : List QEntry} {e : QEntry} (h : chooseIn dir pos es = some (e, d)) : e ∈ es := by
  rcases chooseIn_cases h with ⟨aged, -⟩ | ⟨-, ⟨n, nearest⟩, -⟩
  · exact List.mem_of_mem_filter (earliest_spec aged).1
  · exact (nearestAhead_spec nearest).1

section
variable {dir d : Elevator} {pos : Nat} {es : List QEntry} {e : QEntry} (h : chooseIn dir pos es = some (e, d))
include h

/-- An aged entry comes first, that of lowest arrival, with the direction kept. -/
theorem chooseIn_aged (aged : ∃ x ∈ es, 8 ≤ x.skip) : 8 ≤ e.skip ∧ d = dir ∧ ∀ x ∈ es, 8 ≤ x.skip → e.arrival ≤ x.arrival := by
  rcases chooseIn_cases h with ⟨oldest, kept⟩ | ⟨young, -⟩
  · obtain ⟨member, least⟩ := earliest_spec oldest
    exact ⟨(mem_aged.mp member).2, kept, fun x hx old => least x (mem_aged.mpr ⟨hx, old⟩)⟩
  · obtain ⟨x, hx, old⟩ := aged
    exact absurd (young x hx) (Nat.not_lt.mpr old)

variable (young : ∀ x ∈ es, x.skip < 8)
include young

theorem chooseIn_nearest : (∃ n, nearestAhead d pos es = some (e, n)) ∧ (d = dir ∨ d = dir.flip ∧ nearestAhead dir pos es = none) := by
  rcases chooseIn_cases h with ⟨oldest, -⟩ | ⟨-, nearest⟩
  · obtain ⟨member, old⟩ := mem_aged.mp (earliest_spec oldest).1
    exact absurd (young e member) (Nat.not_lt.mpr old)
  · exact nearest

/-- The direction is kept while an entry lies in it. -/
theorem chooseIn_keeps (lies : ∃ x ∈ es, (dir = .up → pos ≤ x.start) ∧ (dir = .down → x.start ≤ pos)) : d = dir := by
  obtain ⟨x, hx, in_⟩ := lies
  rcases (chooseIn_nearest h young).2 with kept | ⟨-, none_⟩
  · exact kept
  · exact absurd in_ (ahead_eq_none.mp (nearestAhead_eq_none.mp none_ x hx))

/-- The direction turns where no entry lies in it. -/
theorem chooseIn_turns (behind : ∀ x ∈ es, (dir = .up → x.start < pos) ∧ (dir = .down → pos < x.start)) : d = dir.flip := by
  obtain ⟨⟨n, nearest⟩, kept | ⟨turned, -⟩⟩ := chooseIn_nearest h young
  · subst kept
    obtain ⟨member, at_, -⟩ := nearestAhead_spec nearest
    obtain ⟨up, down⟩ := behind e member
    cases d with
    | up => exact absurd (ahead_up.mp at_).1 (Nat.not_le.mpr (up rfl))
    | down => exact absurd (ahead_down.mp at_).1 (Nat.not_le.mpr (down rfl))
  · exact turned

theorem chooseIn_up (up : d = .up) : pos ≤ e.start ∧ ∀ x ∈ es, pos ≤ x.start →
    e.start < x.start ∨ e.start = x.start ∧ e.arrival ≤ x.arrival := by
  subst up
  obtain ⟨n, nearest⟩ := (chooseIn_nearest h young).1
  obtain ⟨-, at_, least⟩ := nearestAhead_spec nearest
  obtain ⟨own, distance⟩ := ahead_up.mp at_
  refine ⟨own, fun x hx lies => ?_⟩
  have := least x hx _ (ahead_up.mpr ⟨lies, rfl⟩)
  omega

theorem chooseIn_down (down : d = .down) : e.start ≤ pos ∧ ∀ x ∈ es, x.start ≤ pos →
    x.start < e.start ∨ x.start = e.start ∧ e.arrival ≤ x.arrival := by
  subst down
  obtain ⟨n, nearest⟩ := (chooseIn_nearest h young).1
  obtain ⟨-, at_, least⟩ := nearestAhead_spec nearest
  obtain ⟨own, distance⟩ := ahead_down.mp at_
  refine ⟨own, fun x hx lies => ?_⟩
  have := least x hx _ (ahead_down.mpr ⟨lies, rfl⟩)
  omega

end

end Sys2Proof.Machine

end

section
/-! PROOFS. A selection: which entries are held back, where each starts, and what the entry made current changes (R119 to R121, R149). -/

namespace Sys2Proof.Machine

/-! ### Entries held back (R149) -/

theorem JobBody.isSweep_iff (b : JobBody) : b.isSweep = true ↔ b.code = 5 := by
  cases b <;> simp [JobBody.isSweep, JobBody.code]

theorem Job.running_iff (j : Job) : j.running = true ↔ j.body.isSweep = true ∧ (j.state = .running ∨ j.state = .revisiting) := by
  simp [Job.running]

theorem eligible_eq_false (s : State) (q : QEntry) : eligible s q = false ↔
    ∃ n, q.requester = .job n ∧ (q.kind = .run ∨ q.kind = .item) ∧ (∃ j ∈ s.jobs.slots, j.number = n ∧ j.body.code = 5) ∧
      ∃ k ∈ s.jobs.slots, k.number ≠ n ∧ k.body.code = 5 ∧ (k.state = .running ∨ k.state = .revisiting) := by
  unfold eligible
  cases q.requester with
  | job n =>
    simp only [Requester.job.injEq, exists_eq_left', ← JobBody.isSweep_iff]
    split
    · next sweeps =>
      simp only [Bool.and_eq_true, Bool.or_eq_true, beq_iff_eq, List.any_eq_true] at sweeps
      simp [sweeps, Job.running_iff]
    · next free =>
      simp only [Bool.and_eq_true, Bool.or_eq_true, beq_iff_eq, List.any_eq_true] at free
      simp only [Bool.true_eq_false, false_iff]
      exact fun ⟨kind, sweeps, _⟩ => free ⟨kind, sweeps⟩
  | tracker => simp
  | transport => simp
  | arbiter => simp

/-! ### Start positions (R119) -/

theorem mem_refreshStarts {s : State} {q : QEntry} (h : q ∈ (refreshStarts s).arbiter.queue) :
    q.start = startPosition q.requester q.kind q.frame s := by
  obtain ⟨x, -, rfl⟩ := List.mem_map.mp h
  rfl

theorem startPosition_axis {k : QKind} (axis : k = .seek ∨ k = .item) (r : Requester) {f : Nat} {e : Entry} {s : State}
    (at_ : s.index.entries[f]? = some e) :
    startPosition r k (some f) s = (e.low + e.high) / 2 + s.transport.profile.axisOffset := by
  rcases axis with rfl | rfl <;> simp [startPosition, triggerPosition, Entry.mid, at_]

theorem startPosition_index {k : QKind} (index : k = .index ∨ k = .readAhead) (r : Requester) (frame : Option Nat) (s : State) :
    startPosition r k frame s = s.index.frontier - s.transport.profile.pitchMax := by
  rcases index with rfl | rfl <;> rfl

/-- A run whose next frame has no entry runs up to the frontier. -/
theorem runRunUp_frontier {n f : Nat} {j : Job} {r : SweepRec} {s : State} (found : findJob n s = some j) (opened : j.isOpen = true)
    (body : j.body = .sweep r) (next : r.nextFrame = some f) (beyond : s.index.entries[f]? = none) :
    runRunUp n s = s.index.frontier - s.transport.profile.pitchMax := by
  simp [runRunUp, sweepOf, openJob_of_findJob found opened, body, next, frameRunUp, beyond, indexRunUp]

/-! ### An entry made current from RESTING -/

/-- The entry is current, nothing has asked it to stop, and the reels tension for its first leg. -/
def MadeCurrent (e : QEntry) (s : State) : Prop :=
  s.transport.state = .tensioning ∧ s.arbiter.current.map
    (fun c => (c.requester, c.cls, c.kind, c.frame, c.stop, c.search)) = some (e.requester, e.cls, e.kind, e.frame, none, none)

theorem takeRecord_resting {m : MoveRecord} {s : State} (resting : s.transport.state = .resting) (known : s.transport.reference ≠ .lost) :
    (takeRecord m s).transport.state = .tensioning ∧ (takeRecord m s).arbiter = s.arbiter := by
  have tensions : takeRecord m s = enterTensioning (s.onTransport fun t => { t with move := some m }) := by
    simp [takeRecord, known, resting]
  rw [tensions]
  exact ⟨by simp [enterTensioning], enterState_arbiter _ _⟩

theorem handLeg_resting {c : Current} {s : State} (hc : s.arbiter.current = some c) (resting : s.transport.state = .resting)
    (known : s.transport.reference ≠ .lost) : (handLeg s).transport.state = .tensioning ∧ (handLeg s).arbiter = s.arbiter := by
  obtain ⟨t, transport, arbiter, handed⟩ := handRecord_takes hc
  have whole : handLeg s = handRecord s := by simp [handLeg, hc, resting]
  rw [whole, handed, ← arbiter]
  exact takeRecord_resting (by rw [transport, resting]) (by rwa [transport])

/-- Of the arbiter only the current motion changes. -/
theorem makeCurrent_resting (e : QEntry) {s : State} (resting : s.transport.state = .resting) (known : s.transport.reference ≠ .lost) :
    MadeCurrent e (makeCurrent e s) ∧ ∃ c, (makeCurrent e s).arbiter = { s.arbiter with current := some c } := by
  obtain ⟨transport, arbiter⟩ := tellCurrent_keeps e.requester e.kind (s.onArbiter fun a =>
    { a with current := some { requester := e.requester, cls := e.cls, kind := e.kind, frame := e.frame,
                               leg := firstLeg e.kind e.frame s, stop := none, search := none } })
  obtain ⟨tensions, left⟩ := handLeg_resting (by rw [arbiter]; rfl) (by rw [transport]; exact resting) (by rw [transport]; exact known)
  rw [arbiter] at left
  exact ⟨⟨tensions, congrArg (fun a : Arbiter => a.current.map _) left⟩, _, left⟩

/-! ### A choice made current (R121) -/

/-- The queue after a choice: the others eligible of its class age, and the resume of the chosen one is cleared. -/
theorem startOccupancy_queue (e : QEntry) (s : State) : (startOccupancy e (ageOthers e s)).arbiter.queue =
    s.arbiter.queue.map fun x => { x with
      skip := if x.cls = e.cls ∧ x.requester ≠ e.requester ∧ eligible s x = true then min 15 (x.skip + 1) else x.skip,
      resume := if x.requester = e.requester then false else x.resume } := by
  have queue : (startOccupancy e (ageOthers e s)).arbiter.queue =
      ((ageOthers e s).arbiter.modifyEntry e.requester fun x => { x with resume := false }).queue := by
    simp only [startOccupancy, State.onArbiter_arbiter]
    split <;> rfl
  rw [queue, Arbiter.modifyEntry, ageOthers, State.onArbiter_arbiter, List.map_map]
  refine List.map_congr_left fun x _ => ?_
  by_cases own : x.requester = e.requester
  · simp [own]
  · by_cases ages : x.cls = e.cls ∧ eligible s x = true <;> simp [own, ages, Config.maxSkip]

theorem startOccupancy_elevator (e : QEntry) (s : State) : (startOccupancy e s).arbiter.elevator = s.arbiter.elevator := by
  simp only [startOccupancy, State.onArbiter_arbiter]
  split <;> rfl

/-- What a selection within a class does from RESTING, where it chooses an entry and a direction. -/
theorem selectIn_resting {cls : QClass} {e : QEntry} {d : Elevator} {s : State} (resting : s.transport.state = .resting)
    (known : s.transport.reference ≠ .lost)
    (chosen : chooseIn s.arbiter.elevator s.transport.position (entriesOf cls s) = some (e, d)) :
    MadeCurrent e (selectIn cls s) ∧ (selectIn cls s).arbiter.elevator = d ∧
      (selectIn cls s).arbiter.queue = s.arbiter.queue.map (fun x => { x with
        skip := if x.cls = cls ∧ x.requester ≠ e.requester ∧ eligible s x = true then min 15 (x.skip + 1) else x.skip,
        resume := if x.requester = e.requester then false else x.resume }) ∧
      (e.kind = .run → (selectIn cls s).arbiter.yieldCount = 0 ∧ (selectIn cls s).arbiter.runImmune = e.resume) := by
  obtain rfl : e.cls = cls := by
    have fits := (List.mem_filter.mp (chooseIn_mem chosen)).2
    simp only [Bool.and_eq_true, beq_iff_eq] at fits
    exact fits.1
  have turned := startOccupancy_queue e (s.onArbiter fun a => { a with elevator := d })
  obtain ⟨-, counts, immune⟩ := startOccupancy_arbiter e (ageOthers e (s.onArbiter fun a => { a with elevator := d }))
  have direction := startOccupancy_elevator e (ageOthers e (s.onArbiter fun a => { a with elevator := d }))
  have transport : (startOccupancy e (ageOthers e (s.onArbiter fun a => { a with elevator := d }))).transport = s.transport :=
    (startOccupancy_keeps e _).1
  obtain ⟨made, c, arbiter⟩ := makeCurrent_resting e (by rw [transport]; exact resting) (by rw [transport]; exact known)
  have selected : selectIn e.cls s =
      makeCurrent e (startOccupancy e (ageOthers e (s.onArbiter fun a => { a with elevator := d }))) := by
    simp only [selectIn, chosen]
  rw [selected, arbiter]
  exact ⟨made, direction, turned, fun run => ⟨counts.trans (if_pos run), immune.trans (if_pos run)⟩⟩

/-! ### The order of the classes (R120, R121) -/

theorem maySelect_iff (s : State) : maySelect s = true ↔ s.arbiter.current = none ∧ s.arbiter.captureHold = false ∧
    s.arbiter.searchHold = false ∧ s.arbiter.rollClaim = false ∧ s.arbiter.blocked = false ∧ s.fault.halted = false ∧
    (s.transport.state = .ready ∨ s.transport.state = .resting) ∧ s.transport.move = none := by
  simp [maySelect, and_assoc]

theorem select_idles {s : State} (h : maySelect s ≠ true) : select s = s := if_neg h

/-- No entry of a class is eligible. -/
theorem entriesOf_eq_nil {cls : QClass} {s : State} :
    entriesOf cls s = [] ↔ ∀ x ∈ s.arbiter.queue, x.cls = cls → eligible s x = false := by
  simp [entriesOf, List.filter_eq_nil_iff]

theorem find_class_eq_none {cls : QClass} {q : List QEntry} : q.find? (fun x => x.cls == cls) = none ↔ ∀ x ∈ q, x.cls ≠ cls := by
  simp [List.find?_eq_none]

section
variable {s : State} (may : maySelect s = true)
include may

theorem select_internal {e : QEntry} (first : (refreshStarts s).arbiter.queue.find? (fun x => x.cls == .internal) = some e) :
    select s = makeCurrent e (refreshStarts s) := by
  simp only [select, if_pos may, first]

variable (outside : ∀ x ∈ (refreshStarts s).arbiter.queue, x.cls ≠ .internal)
include outside

theorem select_urgent (some_ : entriesOf .urgent (refreshStarts s) ≠ []) : select s = selectIn .urgent (refreshStarts s) := by
  simp [select, if_pos may, find_class_eq_none.mpr outside, some_]

variable (calm : entriesOf .urgent (refreshStarts s) = [])
include calm

theorem select_normal (some_ : entriesOf .normal (refreshStarts s) ≠ []) : select s = selectIn .normal (refreshStarts s) := by
  simp [select, if_pos may, find_class_eq_none.mpr outside, calm, some_]

variable (none_ : entriesOf .normal (refreshStarts s) = [])
include none_

theorem select_background {e : QEntry} (last : (refreshStarts s).arbiter.queue.find? (fun x => x.cls == .background) = some e) :
    select s = makeCurrent e (refreshStarts s) := by
  simp [select, if_pos may, find_class_eq_none.mpr outside, calm, none_, last]

theorem select_nothing (empty : ∀ x ∈ (refreshStarts s).arbiter.queue, x.cls ≠ .background) : select s = refreshStarts s := by
  simp [select, if_pos may, find_class_eq_none.mpr outside, calm, none_, find_class_eq_none.mpr empty]

end

/-- The first eligible class of two is the one selected in. -/
theorem select_class {cls : QClass} {s : State} (may : maySelect s = true)
    (outside : ∀ x ∈ (refreshStarts s).arbiter.queue, x.cls ≠ .internal) (some_ : entriesOf cls (refreshStarts s) ≠ [])
    (order : cls = .urgent ∨ cls = .normal ∧ ∀ x ∈ (refreshStarts s).arbiter.queue, x.cls = .urgent → eligible s x = false) :
    select s = selectIn cls (refreshStarts s) := by
  rcases order with rfl | ⟨rfl, calm⟩
  · exact select_urgent may outside some_
  · exact select_normal may outside (entriesOf_eq_nil.mpr calm) some_

/-- An INTERNAL or BACKGROUND entry made current from RESTING leaves the queue and the direction. -/
theorem makeCurrent_refreshed (e : QEntry) {s : State} (resting : s.transport.state = .resting) (known : s.transport.reference ≠ .lost) :
    MadeCurrent e (makeCurrent e (refreshStarts s)) ∧
      (makeCurrent e (refreshStarts s)).arbiter.queue = (refreshStarts s).arbiter.queue ∧
      (makeCurrent e (refreshStarts s)).arbiter.elevator = s.arbiter.elevator := by
  obtain ⟨made, c, arbiter⟩ := makeCurrent_resting e (s := refreshStarts s) resting known
  rw [arbiter]
  exact ⟨made, rfl, rfl⟩

end Sys2Proof.Machine

end

section
/-! PROOFS. A submission: an entry placed or re-targeted, and the run in flight that an URGENT one suspends (R117, R125). -/

namespace Sys2Proof.Machine

/-! ### The queue after a submission (R117) -/

/-- A placing leaves the current run its occupancy. -/
theorem place_occupancy (e : QEntry) (a : Arbiter) :
    (a.place e).yieldCount = a.yieldCount ∧ (a.place e).runImmune = a.runImmune := by
  unfold Arbiter.place
  dsimp only
  split <;> exact ⟨rfl, rfl⟩

theorem place_room (e : QEntry) {a : Arbiter} (room : a.arrival < 65535) :
    (a.place e).queue = a.queue ++ [{ e with arrival := a.arrival, skip := 0 }] ∧ (a.place e).arrival = a.arrival + 1 := by
  simp [Arbiter.place, Config.maxCounter, room]

/-- Past the last arrival the arrivals are numbered anew by their order. -/
theorem place_full (e : QEntry) {a : Arbiter} (full : 65535 ≤ a.arrival) {q : List QEntry}
    (hq : q = a.queue ++ [{ e with arrival := a.arrival, skip := 0 }]) : (a.place e).arrival = q.length ∧
      (a.place e).queue = q.map fun x => { x with arrival := q.countP fun y => y.arrival < x.arrival } := by
  subst hq
  simp only [Arbiter.place, Config.maxCounter, Nat.not_lt.mpr full, if_false, renumber, List.countP_eq_length_filter, and_self]

theorem modifyEntry_others (a : Arbiter) (r : Requester) (f : QEntry → QEntry) (hf : ∀ e, e.requester = r → (f e).requester = r) :
    (a.modifyEntry r f).queue.filter (fun x => x.requester != r) = a.queue.filter (fun x => x.requester != r) := by
  unfold Arbiter.modifyEntry
  dsimp only
  induction a.queue with
  | nil => rfl
  | cons e es ih =>
    by_cases own : e.requester = r
    · simpa [own, hf e own] using ih
    · simpa [own] using ih

/-! ### A run in flight (R124, R125) -/

theorem suspendTest_suspends {c : Current} {s : State} (hc : s.arbiter.current = some c) (run : c.kind = .run) (going : c.stop = none)
    (search : c.search = none) (mortal : s.arbiter.runImmune = false) (waits : waitingOf .urgent s = true) :
    suspendTest s = askStop .suspended s := by
  rw [suspendTest, hc]
  exact if_pos ⟨run, going, search, by simp [mortal], waits⟩

theorem suspendTest_immune {s : State} (immune : s.arbiter.runImmune = true) : suspendTest s = s := by
  unfold suspendTest
  split
  · rfl
  · exact if_neg fun ⟨_, _, _, mortal, _⟩ => by simp [immune] at mortal

theorem yieldTest_short {s : State} (short : s.arbiter.yieldCount < 64) : yieldTest s = s := by
  have due : yieldDue s = false := by simp [yieldDue, Config.yieldFrames, short.ne]
  unfold yieldTest
  split
  · rfl
  · exact if_neg fun ⟨_, _, _, yields⟩ => by simp [due] at yields

section
variable {r : Requester} {k : QKind} {frame : Option Nat} {c : Current} {s : State} (new : s.arbiter.entryOf r = none)
  (hc : s.arbiter.current = some c)
include new

/-- An URGENT entry that is new is placed, and the tests for a suspension and a yield follow. -/
theorem submit_urgent_new (k : QKind) (frame : Option Nat) : ∃ e : QEntry, e.requester = r ∧ e.cls = .urgent ∧ e.kind = k ∧
    submit r .urgent k frame s = yieldTest (suspendTest (s.onArbiter fun a => a.place e)) := by
  refine ⟨{ requester := r, cls := .urgent, kind := k, frame := frame, start := startPosition r k frame s, arrival := 0, skip := 0,
            resume := false }, rfl, rfl, rfl, ?_⟩
  simp only [submit, new, if_true]

include hc

/-- The entry placed waits beside the current motion where it may be taken. -/
theorem place_waits {e : QEntry} (own : e.requester = r) (urgent : e.cls = .urgent) (other : r ≠ c.requester)
    (fit : ∀ q : QEntry, q.requester = r → q.kind = e.kind → eligible s q = true) :
    waitingOf .urgent (s.onArbiter fun a => a.place e) = true := by
  subst own
  obtain ⟨x, held, kind, cls, -⟩ := place_entry new
  have owner : x.requester = e.requester := by simpa using List.find?_some held
  have fits : eligible (s.onArbiter fun a => a.place e) x = true := (eligible_congr rfl x).trans (fit x owner kind)
  have current : (s.onArbiter fun a => a.place e).arbiter.current = some c := (place_current e s.arbiter).trans hc
  refine List.any_eq_true.mpr ⟨x, List.mem_of_find?_eq_some held, ?_⟩
  rw [fits, current, cls, urgent, Option.any_some, owner]
  simpa using other.symm

/-- A run that is not immune is suspended. -/
theorem submit_suspends {m : MoveRecord} (run : c.kind = .run) (going : c.stop = none) (search : c.search = none)
    (other : r ≠ c.requester) (hm : s.transport.move = some m) (moving : s.transport.state = .moving)
    (fit : ∀ q : QEntry, q.requester = r → q.kind = k → eligible s q = true) (mortal : s.arbiter.runImmune = false) :
    (submit r .urgent k frame s).arbiter.current = some { c with stop := some .suspended } ∧
      (submit r .urgent k frame s).transport.move = some { m with stopping := true } ∧
      (submit r .urgent k frame s).transport.drive = none ∧ (submit r .urgent k frame s).capture.armed = [] := by
  obtain ⟨e, own, urgent, kind, submitted⟩ := submit_urgent_new new k frame
  have waits := place_waits new hc own urgent other (kind ▸ fit)
  have current : (s.onArbiter fun a => a.place e).arbiter.current = some c := (place_current e s.arbiter).trans hc
  have stopped := askStop_run .suspended current run going hm moving
  rw [submitted, suspendTest_suspends current run going search ((place_occupancy e s.arbiter).2.trans mortal) waits,
    yieldTest_stopping fun x hx => Option.some.inj (stopped.1.symm.trans hx) ▸ Option.some_ne_none _]
  exact stopped

/-- An immune run short of its yield goes on. -/
theorem submit_immune (immune : s.arbiter.runImmune = true) (short : s.arbiter.yieldCount < 64) :
    (submit r .urgent k frame s).arbiter.current = some c ∧ (submit r .urgent k frame s).transport = s.transport := by
  obtain ⟨e, -, -, -, submitted⟩ := submit_urgent_new new k frame
  obtain ⟨count, kept⟩ := place_occupancy e s.arbiter
  rw [submitted, suspendTest_immune (s := s.onArbiter fun a => a.place e) (kept.trans immune),
    yieldTest_short (s := s.onArbiter fun a => a.place e) (count.trans_lt short)]
  exact ⟨(place_current e s.arbiter).trans hc, rfl⟩

end

end Sys2Proof.Machine

open Sys2Proof Sys2Proof.Machine

/-- Settles O60: the choice by `chooseIn_cases`, a selection by the first class that has an entry, a submission by the queue it leaves and
the tests that follow. -/
theorem selectionOrder : Obligations.SelectionOrder := by
  unfold Obligations.SelectionOrder
  refine ⟨fun dir pos es => ⟨chooseIn_some dir pos, fun e d chosen => ⟨chooseIn_mem chosen, chooseIn_aged chosen, fun young =>
      ⟨chooseIn_keeps chosen young, chooseIn_turns chosen young, chooseIn_up chosen young, chooseIn_down chosen young⟩⟩⟩,
    eligible_eq_false, fun s held => select_idles fun may => ?_, fun s f n e q queued => ?_,
    fun s q selected idle hold search claim blocked halted resting move known hq hselected => ?_,
    fun r cls k frame s => ⟨fun idle new => ?_, fun old idle held => ?_,
      fun c m new hc run going search other hm moving urgent fit => ?_⟩⟩
  · obtain ⟨idle, hold, search, claim, blocked, halted, state, -⟩ := (maySelect_iff s).mp may
    obtain ⟨unready, unrested⟩ : s.transport.state ≠ .ready ∧ s.transport.state ≠ .resting := by
      simpa [idle, hold, search, claim, blocked, halted] using held
    exact state.elim unready unrested
  · have start := mem_refreshStarts queued
    refine ⟨fun axis frame at_ => ?_, fun index => start.trans (startPosition_index index _ _ s),
      fun j r run job _ found opened body next => ?_, fun r rescan record => ?_, fun reference => ?_⟩
    · rw [start, frame, startPosition_axis axis _ at_]
    · have runUp : q.start = runRunUp n s := by rw [start, run, job, startPosition]
      exact ⟨fun at_ => runUp.trans (runRunUp_frame found opened body next at_),
        fun beyond => runUp.trans (runRunUp_frontier found opened body next beyond)⟩
    · simp [start, rescan, startPosition, record]
    · rw [start, reference, startPosition]
  · subst hq
    have may : maySelect s = true :=
      (maySelect_iff s).mpr ⟨idle, hold, search, claim, blocked, halted, .inr resting, move⟩
    refine ⟨fun e first => ?_, fun outside => ⟨fun cls es e d hes some_ order chosen => ?_, fun unfit => ?_⟩⟩
    · rw [hselected, select_internal may first]
      exact makeCurrent_refreshed e resting known
    · subst hes
      rw [hselected, select_class may outside some_ order]
      exact selectIn_resting (s := refreshStarts s) resting known chosen
    · have calm : entriesOf .urgent (refreshStarts s) = [] := entriesOf_eq_nil.mpr fun x hx urgent => unfit x hx (.inl urgent)
      have none_ : entriesOf .normal (refreshStarts s) = [] := entriesOf_eq_nil.mpr fun x hx normal => unfit x hx (.inr normal)
      refine ⟨fun e last => ?_, fun empty => ?_⟩
      · rw [hselected, select_background may outside calm none_ last]
        exact makeCurrent_refreshed e resting known
      · rw [select_nothing may outside calm none_ empty]
        exact idle
  · rw [submit_idle_new idle new]
    exact ⟨_, _, rfl, rfl, rfl, rfl, rfl, rfl, rfl, rfl, place_room _, fun full => place_full _ full rfl⟩
  · rw [submit_idle_held idle held]
    have moved := Arbiter.entryOf_modifyEntry s.arbiter r
      (fun e => { e with cls := cls, kind := k, frame := frame, start := startPosition r k frame s }) fun _ own => own
    rw [held] at moved
    exact ⟨⟨_, moved, rfl, rfl, rfl, rfl, rfl, rfl⟩, rfl, modifyEntry_others s.arbiter r _ fun _ own => own⟩
  · subst urgent
    exact ⟨submit_suspends new hc run going search other hm moving fit, submit_immune new hc⟩

end

section
/-! SUPPORT. The number of an accepted job and the slot it takes (R135, R136): the numbers run from 1 to 255 and round, so that of seven in
a row one is free while six jobs at most hold slots. -/

namespace Sys2Proof.Machine

/-! ### Numbers in a row -/

/-- The number `k` places after `n`, from 255 round to 1 (R136). -/
def numberAfter (n k : Nat) : Nat := (n - 1 + k) % 255 + 1

theorem numberAfter_range (n k : Nat) : 1 ≤ numberAfter n k ∧ numberAfter n k ≤ 255 := by
  unfold numberAfter; omega

theorem numberAfter_zero {n : Nat} (low : 1 ≤ n) (high : n ≤ 255) : numberAfter n 0 = n := by
  unfold numberAfter; omega

/-- The number after the number `k` places on is that of `k + 1` places. -/
theorem numberAfter_succ (n k : Nat) : numberAfter n (k + 1) = if numberAfter n k = 255 then 1 else numberAfter n k + 1 := by
  unfold numberAfter; split <;> omega

theorem nextNumber_eq {n : Nat} (high : n ≤ 255) : nextNumber n = if n = 255 then 1 else n + 1 := by
  unfold nextNumber; split <;> split <;> omega

theorem nextNumber_range (n : Nat) : 1 ≤ nextNumber n ∧ nextNumber n ≤ 255 := by
  unfold nextNumber; split <;> omega

theorem numberAfter_nextNumber {n : Nat} (low : 1 ≤ n) (high : n ≤ 255) (k : Nat) :
    numberAfter (nextNumber n) k = numberAfter n (k + 1) := by
  unfold numberAfter nextNumber; split <;> omega

/-- 255 numbers in a row are distinct. -/
theorem numberAfter_distinct (n : Nat) {m : Nat} (few : m ≤ 255) : ((List.range m).map (numberAfter n)).Nodup := by
  refine List.Nodup.map_on (fun i hi j hj same => ?_) List.nodup_range
  rw [List.mem_range] at hi hj
  unfold numberAfter at same
  omega

theorem repeat_numberAfter {n : Nat} (low : 1 ≤ n) (high : n ≤ 255) (k : Nat) :
    Nat.repeat (fun m => if m = 255 then 1 else m + 1) k n = numberAfter n k := by
  induction k with
  | zero => exact (numberAfter_zero low high).symm
  | succ k ih => rw [Nat.repeat, ih, numberAfter_succ]

/-! ### The search for a free number -/

/-- The search ends at a number it has looked up to, all before it held; where it ends early its number is free. -/
theorem freeNumber_search (held : List Nat) (looks : Nat) {n : Nat} (low : 1 ≤ n) (high : n ≤ 255) :
    ∃ k ≤ looks, freeNumber held looks n = numberAfter n k ∧ (∀ i < k, numberAfter n i ∈ held) ∧
      (k < looks → numberAfter n k ∉ held) := by
  induction looks generalizing n with
  | zero => exact ⟨0, le_rfl, (numberAfter_zero low high).symm, nofun, nofun⟩
  | succ looks ih =>
    by_cases here : n ∈ held
    · obtain ⟨nextLow, nextHigh⟩ := nextNumber_range n
      obtain ⟨k, hk, number, before, free⟩ := ih nextLow nextHigh
      simp only [numberAfter_nextNumber low high] at number before free
      refine ⟨k + 1, by omega, by simp [freeNumber, here, number], fun i hi => ?_, fun early => free (by omega)⟩
      cases i with
      | zero => rwa [numberAfter_zero low high]
      | succ i => exact before i (by omega)
    · refine ⟨0, by omega, by simp [freeNumber, here, numberAfter_zero low high], nofun, fun _ => ?_⟩
      rwa [numberAfter_zero low high]

/-- With fewer jobs than looks the search ends at a free number. -/
theorem freeNumber_free {held : List Nat} {looks n : Nat} (few : held.length < looks) (round : looks ≤ 255) (low : 1 ≤ n)
    (high : n ≤ 255) : ∃ k, freeNumber held looks n = numberAfter n k ∧ (∀ i < k, numberAfter n i ∈ held) ∧
      numberAfter n k ∉ held := by
  obtain ⟨k, hk, number, before, free⟩ := freeNumber_search held looks low high
  refine ⟨k, number, before, free (lt_of_le_of_ne hk fun all => ?_)⟩
  have inside : (List.range looks).map (numberAfter n) ⊆ held := fun x hx => by
    obtain ⟨i, hi, rfl⟩ := List.mem_map.mp hx
    exact before i (all ▸ List.mem_range.mp hi)
  have tooMany := ((numberAfter_distinct n round).subperm inside).length_le
  rw [List.length_map, List.length_range] at tooMany
  omega

theorem jobNumbers_length (s : State) : (jobNumbers s).length = s.jobs.slots.length := List.length_map _

/-- The number of the next accepted job: the first free one from the counter on (R136). -/
theorem newNumber_free {s : State} (sound : JobsSound s) : ∃ k, newNumber s = numberAfter s.jobs.counter k ∧
    (∀ i < k, numberAfter s.jobs.counter i ∈ jobNumbers s) ∧ numberAfter s.jobs.counter k ∉ jobNumbers s := by
  obtain ⟨few, _, _, low, high⟩ := sound
  exact freeNumber_free (by rw [jobNumbers_length]; omega) (by omega) low high

theorem newNumber_range {s : State} (sound : JobsSound s) :
    1 ≤ newNumber s ∧ newNumber s ≤ 255 ∧ newNumber s ∉ jobNumbers s := by
  obtain ⟨k, number, _, free⟩ := newNumber_free sound
  rw [number]
  exact ⟨(numberAfter_range _ k).1, (numberAfter_range _ k).2, free⟩

/-! ### The slot -/

/-- With two open jobs of the link, or no slot free, a job request gets no slot (R135, R137). -/
theorem acceptCheck_full {l : LinkId} {s : State} (full : 2 ≤ openOf l s ∨ 6 ≤ s.jobs.slots.length) (o : JobOrder) :
    acceptCheck l o s = .noSlot := if_pos full

theorem acceptCheck_room {l : LinkId} {o : JobOrder} {s : State} (ok : acceptCheck l o s = .ok) : s.jobs.slots.length < 6 := by
  by_contra full
  rw [acceptCheck_full (.inr (by omega))] at ok
  cases ok

/-- The job that an accepted request puts in the table (R136, R138). -/
def newJob (l : LinkId) (o : JobOrder) (s : State) : Job where
  number    := newNumber s
  link      := l
  state     := .queued
  urgent    := o.urgent
  search    := o.search
  endReason := .none
  waitClear := s.fault.halted
  body      := o.body

theorem insertJob_jobs (l : LinkId) (o : JobOrder) (s : State) :
    (insertJob l o s).jobs = { slots := s.jobs.slots ++ [newJob l o s], counter := nextNumber (newNumber s) } := by
  unfold insertJob; dsimp only; split <;> rfl

theorem insertJob_numbers (l : LinkId) (o : JobOrder) (s : State) :
    jobNumbers (insertJob l o s) = jobNumbers s ++ [newNumber s] := by
  simp [jobNumbers, insertJob_jobs, newJob]

/-- What the acceptance of a job leaves of the numbers once it has begun and the step is settled. -/
theorem accepted_core (l : LinkId) (o : JobOrder) (s : State) :
    (settleBlocks (beginJob (newNumber s) o (insertJob l o s))).still.base.core = (insertJob l o s).still.base.core := by simp

theorem accepted_numbers (l : LinkId) (o : JobOrder) (s : State) :
    jobNumbers (settleBlocks (beginJob (newNumber s) o (insertJob l o s))) = jobNumbers s ++ [newNumber s] :=
  (congrArg Fixed.numbers (accepted_core l o s)).trans (insertJob_numbers l o s)

theorem accepted_counter (l : LinkId) (o : JobOrder) (s : State) :
    (settleBlocks (beginJob (newNumber s) o (insertJob l o s))).jobs.counter = nextNumber (newNumber s) :=
  (congrArg Fixed.counter (accepted_core l o s)).trans (congrArg Jobs.counter (insertJob_jobs l o s))

theorem perform_job_ok {l : LinkId} {o : JobOrder} {s : State} (ok : acceptCheck l o s = .ok) : perform l (.job o) s =
    { state := settleBlocks (beginJob (newNumber s) o (insertJob l o s)), result := .ok, data := be8 (newNumber s) } := by
  simp [perform, jobRequest, ok]

/-! ### Every step keeps the job table sound -/

/-- Numbers and counter of a sound job table. -/
def Fixed.JobsSound (x : Fixed) : Prop :=
  x.numbers.length ≤ 6 ∧ x.numbers.Nodup ∧ (∀ n ∈ x.numbers, 1 ≤ n ∧ n ≤ 255) ∧ 1 ≤ x.counter ∧ x.counter ≤ 255

theorem jobsSound_iff (s : State) : JobsSound s ↔ s.still.base.core.JobsSound := by
  unfold JobsSound Fixed.JobsSound
  rw [← jobNumbers_length]
  rfl

/-- What keeps numbers and counter keeps the table sound. -/
theorem JobsSound.of_core {s t : State} (h : JobsSound s) (core : t.still.base.core = s.still.base.core) : JobsSound t := by
  rw [jobsSound_iff] at *
  rwa [core]

theorem JobsSound.of_jobs {s t : State} (h : JobsSound s) (jobs : t.jobs = s.jobs) : JobsSound t := by
  unfold JobsSound jobNumbers at *
  rwa [jobs]

theorem insertJob_sound {l : LinkId} {o : JobOrder} {s : State} (ok : acceptCheck l o s = .ok) (h : JobsSound s) :
    JobsSound (insertJob l o s) := by
  have room := acceptCheck_room ok
  obtain ⟨newLow, newHigh, free⟩ := newNumber_range h
  obtain ⟨nextLow, nextHigh⟩ := nextNumber_range (newNumber s)
  obtain ⟨_, distinct, range, _, _⟩ := h
  refine ⟨?_, ?_, fun n hn => ?_, ?_, ?_⟩
  · simp only [insertJob_jobs, List.length_append, List.length_singleton]
    omega
  · rw [insertJob_numbers, List.nodup_append]
    exact ⟨distinct, List.nodup_singleton _, fun a ha b hb same => free (List.mem_singleton.mp hb ▸ same ▸ ha)⟩
  · rw [insertJob_numbers, List.mem_append, List.mem_singleton] at hn
    rcases hn with old | rfl
    · exact range n old
    · exact ⟨newLow, newHigh⟩
  all_goals rwa [insertJob_jobs]

/-- A slot freed leaves the other numbers as they were. -/
theorem freeSlot_sound (n : Nat) {s : State} (h : JobsSound s) : JobsSound (freeSlot n s) := by
  obtain ⟨few, distinct, range, counter⟩ := h
  have fewer : ((freeSlot n s).jobs.slots).Sublist s.jobs.slots := List.filter_sublist
  have numbers : (jobNumbers (freeSlot n s)).Sublist (jobNumbers s) := fewer.map _
  exact ⟨fewer.length_le.trans few, distinct.sublist numbers, fun m hm => range m (numbers.subset hm), counter⟩

theorem jobsSound_afterReset (pins : Pins) (waiting : List Instr) : JobsSound (State.afterReset pins waiting) :=
  ⟨Nat.zero_le 6, .nil, nofun, le_rfl, by simp [State.afterReset, Jobs.afterReset]⟩

theorem OnlyLinks.jobs {s t : State} (only : OnlyLinks s t) : t.jobs = s.jobs := by rw [only]

/-- An accepted job takes a free number; a sent JOB_DONE and a link break free slots; all else keeps the numbers. -/
theorem jobsSound_invariant : StepInvariant JobsSound where
  links only h           := h.of_jobs only.jobs
  pins _ _ h             := h
  pending _ _ h          := h
  reset _ _              := jobsSound_afterReset _ _
  fault c _ h            := h.of_core (reportFault_core c _)
  index _ _ h            := h
  capture _ _ h          := h
  profile _ _ _ h        := h
  placePoint _ _ h       := h
  clearMap h             := h
  truncateAt n _ h       := h.of_core (by simp)
  applyClear h           := h.of_core (applyClear_core _)
  accept l o _ ok h      := (insertJob_sound ok h).of_core (by simp)
  cancelWork j _ h       := h.of_core (cancelWork_core j _)
  freeSlot n _ h         := freeSlot_sound n h
  removeHead h           := h.of_core (by simp)
  settleBlocks h         := h.of_core (by simp)
  event c s _ isEvent h ht := by
    obtain ⟨t, next, frame⟩ := event_frame c s isEvent
    rw [ht] at next
    cases next
    have numbers := frame.numbers
    have length := congrArg List.length numbers
    rw [jobNumbers_length, jobNumbers_length] at length
    unfold JobsSound
    rwa [length, numbers, frame.counter]

end Sys2Proof.Machine

open Sys2Proof Sys2Proof.Machine

/-- Settles O6: a job is accepted into a free slot under a free number, slots are freed, and nothing else changes the numbers held. -/
theorem stepKeepsJobTable : Obligations.StepKeepsJobTable := by
  unfold Obligations.StepKeepsJobTable
  exact fun _ _ h ht => jobsSound_invariant.step h ht

/-- Settles O33: the search of `newNumber_free`, its numbers spelled as repetitions of R136's step. -/
theorem jobNumberGiven : Obligations.JobNumberGiven := by
  unfold Obligations.JobNumberGiven
  intro l o s sound ok
  obtain ⟨k, number, before, free⟩ := newNumber_free sound
  obtain ⟨newLow, newHigh, _⟩ := newNumber_range sound
  obtain ⟨_, _, _, low, high⟩ := sound
  rw [perform_job_ok ok]
  refine ⟨k, newNumber s, ?_, fun i hi => ?_, number ▸ free, newLow, newHigh, rfl, rfl, ?_, accepted_numbers l o s⟩
  · rw [repeat_numberAfter low high, number]
  · rw [repeat_numberAfter low high]
    exact before i hi
  · exact (accepted_counter l o s).trans (nextNumber_eq newHigh)

/-- Settles O34: the first check of R137 fails, and a refusal changes nothing. -/
theorem noSlotRefused : Obligations.NoSlotRefused := by
  unfold Obligations.NoSlotRefused
  intro l o s full
  have refused : acceptCheck l o s = .noSlot := acceptCheck_full (full.imp_right fun six => six.ge) o
  simp [perform, jobRequest, refused, refuse]

/-- Settles O5: no job, no focus point, position 0, and not HALTED. -/
theorem resetSound : Obligations.ResetSound := by
  unfold Obligations.ResetSound
  exact ⟨jobsSound_afterReset _ _, ⟨Nat.zero_le 32, .nil⟩, ⟨Nat.zero_le _, nofun, nofun⟩, nofun⟩

end

section
/-! SUPPORT. The JOB_DONE that wait on the links, and a job that has ended: what leaves them as they are (R142, R154, R183). -/

namespace Sys2Proof.Machine

/-- The numbers whose JOB_DONE wait on a link. -/
def State.told (s : State) (l : LinkId) : List Nat := (s.link l).jobDone

/-! ### Updates of one block -/

@[simp] theorem onTransport_told (f : Transport → Transport) (s : State) : (s.onTransport f).told = s.told := rfl
@[simp] theorem onTracker_told (f : Tracker → Tracker) (s : State) : (s.onTracker f).told = s.told := rfl
@[simp] theorem onIndex_told (f : Index → Index) (s : State) : (s.onIndex f).told = s.told := rfl
@[simp] theorem onFocus_told (f : Focus → Focus) (s : State) : (s.onFocus f).told = s.told := rfl
@[simp] theorem onCapture_told (f : Capture → Capture) (s : State) : (s.onCapture f).told = s.told := rfl
@[simp] theorem onArbiter_told (f : Arbiter → Arbiter) (s : State) : (s.onArbiter f).told = s.told := rfl
@[simp] theorem modifyJob_told (n : Nat) (f : Job → Job) (s : State) : (modifyJob n f s).told = s.told := rfl

/-- A raise sets a pending flag. -/
@[simp] theorem raise_told (k : NoticeKind) (s : State) : (raise k s).told = s.told := by
  have unit (u : LinkUnit) : (u.raise k).jobDone = u.jobDone := by unfold LinkUnit.raise; split <;> rfl
  funext l
  cases l <;> exact unit _

/-! ### Operations -/

@[simp] theorem enterState_told (st : TransportState) (s : State) : (enterState st s).told = s.told := by
  unfold enterState; split <;> simp
@[simp] theorem putReference_told (r : Reference) (s : State) : (putReference r s).told = s.told := by
  unfold putReference; split <;> simp
@[simp] theorem putRollEnd_told (e : Option Nat) (s : State) : (putRollEnd e s).told = s.told := by
  unfold putRollEnd; split <;> simp
@[simp] theorem putBroken_told (v : Bool) (s : State) : (putBroken v s).told = s.told := by unfold putBroken; split <;> simp
@[simp] theorem putLeaderMissing_told (v : Bool) (s : State) : (putLeaderMissing v s).told = s.told := by
  unfold putLeaderMissing; split <;> simp
@[simp] theorem driveOff_told (s : State) : (driveOff s).told = s.told := rfl
@[simp] theorem stopMove_told (s : State) : (stopMove s).told = s.told := by unfold stopMove; (repeat' split) <;> simp
@[simp] theorem disarm_told (s : State) : (disarm s).told = s.told := rfl
@[simp] theorem disarmRun_told (c : Current) (s : State) : (disarmRun c s).told = s.told := by unfold disarmRun; split <;> simp
@[simp] theorem clearCurrent_told (s : State) : (clearCurrent s).told = s.told := rfl
@[simp] theorem askStop_told (why : StopCause) (s : State) : (askStop why s).told = s.told := by
  unfold askStop; (repeat' split) <;> simp
@[simp] theorem dropCurrent_told (s : State) : (dropCurrent s).told = s.told := by unfold dropCurrent; (repeat' split) <;> simp
@[simp] theorem withdraw_told (r : Requester) (s : State) : (withdraw r s).told = s.told := by
  unfold withdraw; dsimp only; split <;> simp
@[simp] theorem suspendTest_told (s : State) : (suspendTest s).told = s.told := by unfold suspendTest; (repeat' split) <;> simp
@[simp] theorem yieldTest_told (s : State) : (yieldTest s).told = s.told := by unfold yieldTest; (repeat' split) <;> simp
@[simp] theorem submit_told (r : Requester) (cls : QClass) (k : QKind) (frame : Option Nat) (s : State) :
    (submit r cls k frame s).told = s.told := by
  unfold submit; dsimp only; (repeat' split) <;> simp
@[simp] theorem abandonSearch_told (s : State) : (abandonSearch s).told = s.told := by unfold abandonSearch; split <;> simp
@[simp] theorem setMode_told (m : TrackerMode) (s : State) : (setMode m s).told = s.told := by
  unfold setMode newPass leaveIndexing; (repeat' split) <;> rfl
@[simp] theorem withdrawRescan_told (s : State) : (withdrawRescan s).told = s.told := by unfold withdrawRescan; split <;> simp
@[simp] theorem stopForLoss_told (s : State) : (stopForLoss s).told = s.told := by unfold stopForLoss; (repeat' split) <;> simp
@[simp] theorem askReference_told (s : State) : (askReference s).told = s.told := by
  unfold askReference setBlocked; dsimp only; (repeat' split) <;> simp
@[simp] theorem setReference_told (r : Reference) (s : State) : (setReference r s).told = s.told := by
  unfold setReference loseReference setBlocked
  dsimp only
  (repeat' split) <;> simp
@[simp] theorem clearInternal_told (s : State) : (clearInternal s).told = s.told := by simp [clearInternal, setBlocked]
@[simp] theorem clearSequencer_told (s : State) : (clearSequencer s).told = s.told := by
  unfold clearSequencer release setCaptureHold; dsimp only; split <;> simp
@[simp] theorem emptyIndex_told (s : State) : (emptyIndex s).told = s.told := by
  unfold emptyIndex trimLastMiss; dsimp only; split <;> simp
@[simp] theorem clearContents_told (s : State) : (clearContents s).told = s.told := by simp [clearContents]

/-- JOB_DONE is queued behind what waits. -/
theorem queueJobDone_told {m n : Nat} {k l : LinkId} {s : State} (h : m ∈ s.told l) : m ∈ (queueJobDone k n s).told l := by
  unfold queueJobDone State.told at *
  by_cases same : l = k
  · subst same
    rw [State.link_onLink_same]
    split
    · exact h
    · exact List.mem_append_left _ h
  · rwa [State.link_onLink_other _ _ _ _ same]

@[simp] theorem jobClosed_told (n : Nat) (st : JobState) (why : EndReason) (s : State) : (jobClosed n st why s).told = s.told := by
  simp [jobClosed, discardRevisit]

theorem endJob_told {m : Nat} {l : LinkId} {s : State} (h : m ∈ s.told l) (n : Nat) (st : JobState) (why : EndReason) :
    m ∈ (endJob n st why s).told l := by
  cases found : openJob n s with
  | none => rwa [endJob, found]
  | some j =>
    rw [endJob_open found]
    refine queueJobDone_told ?_
    split
    · exact (congrFun (jobClosed_told n st why s) l).symm ▸ h
    · rwa [jobClosed_told]

theorem LinkUnit.receiver_of_kept {u v : LinkUnit} (h : u.kept = v.kept) : u.receiver = v.receiver := by
  rw [LinkUnit.of_kept h]

/-- The end of a job of a link that is not in break is told on it (R154, R183). -/
theorem endJob_tells {n : Nat} {j : Job} {s : State} (h : openJob n s = some j) (listening : (s.link j.link).receiver ≠ .brk)
    (st : JobState) (why : EndReason) : n ∈ (endJob n st why s).told j.link := by
  have closed : (jobClosed n st why s).coast.links = s.coast.links := by simp [jobClosed]
  have kept : ((jobClosed n st why s).link j.link).kept = (s.link j.link).kept := Links.get_kept closed j.link
  have receiver : ((jobClosed n st why s).link j.link).receiver = (s.link j.link).receiver :=
    LinkUnit.receiver_of_kept kept
  have here (u : State) (same : (u.link j.link).receiver = (s.link j.link).receiver) : n ∈ (queueJobDone j.link n u).told j.link := by
    rw [queueJobDone, State.told, State.link_onLink_same, if_neg (same ▸ listening)]
    exact List.mem_append_right _ List.mem_cons_self
  rw [endJob_open h]
  split
  · exact here _ receiver
  · exact here _ receiver

/-! ### A job that has ended -/

/-- A job is over: it stands in its slot as it ended, alone under its number; roll_claim is clear and its JOB_DONE waits. -/
structure JobOver (n : Nat) (k : Job) (s : State) : Prop where
  ended    : k.isOpen = false
  distinct : (jobNumbers s).Nodup
  job      : findJob n s = some k
  claim    : s.arbiter.rollClaim = false
  told     : n ∈ s.told k.link

/-- The open job with a number is the one that the number finds. -/
theorem openJob_eq {n : Nat} {s : State} (distinct : (jobNumbers s).Nodup) : openJob n s = (findJob n s).filter Job.isOpen := by
  unfold jobNumbers at distinct
  unfold openJob findJob
  generalize s.jobs.slots = js at distinct
  induction js with
  | nil => rfl
  | cons j js ih =>
    rw [List.map_cons, List.nodup_cons] at distinct
    by_cases number : j.number = n
    · cases opened : j.isOpen with
      | true => simp [number, opened, Option.filter]
      | false =>
        have later : js.find? (fun j => j.number == n) = none := by
          simpa [List.find?_eq_none, number] using distinct.1
        rw [later] at ih
        simp [number, opened, ih distinct.2, Option.filter]
    · simp [number, ih distinct.2]

namespace JobOver
variable {n : Nat} {k : Job} {s t : State}

theorem openJob_none (h : JobOver n k s) : openJob n s = none := by
  simp [openJob_eq h.distinct, h.job, h.ended]

/-- What leaves a job alone and takes no JOB_DONE leaves it over. -/
theorem of_spares (h : JobOver n k s) (spared : Spares n s t) (core : t.still.base.core = s.still.base.core)
    (told : n ∈ s.told k.link → n ∈ t.told k.link) : JobOver n k t where
  ended    := h.ended
  distinct := by
    have numbers : jobNumbers t = jobNumbers s := congrArg Fixed.numbers core
    rw [numbers]
    exact h.distinct
  job      := spared.job.trans h.job
  claim    := spared.claim h.claim
  told     := told h.told

theorem setReference (h : JobOver n k s) (r : Reference) : JobOver n k (setReference r s) :=
  h.of_spares (setReference_spares n r s) (by simp) (by simp)

theorem loseRoll (h : JobOver n k s) (m : Nat) : JobOver n k (loseRoll m s) := by
  by_cases same : m = n
  · rw [same, Machine.loseRoll, h.openJob_none]
    exact h
  · refine h.of_spares ?_ (by simp) fun told => ?_
    · unfold Machine.loseRoll
      (repeat' split)
      · exact .refl s
      · exact .refl s
      · exact endJob_spares (Ne.symm same) _ _ s
      · exact .refl s
      · exact endJob_spares (Ne.symm same) _ _ s
    · unfold Machine.loseRoll
      (repeat' split)
      · exact told
      · exact told
      · exact endJob_told told _ _ _
      · exact told
      · exact endJob_told told _ _ _

end JobOver

theorem clearInternal_spares (n : Nat) (s : State) : Spares n s (clearInternal s) :=
  (withdraw_spares n .transport s).trans ((withdraw_spares n .tracker _).trans ((withdraw_spares n .arbiter _).trans
    (.of_eq rfl (dropInterrupted_queue _) rfl (dropInterrupted_rollClaim _))))

theorem clearContents_spares (n : Nat) (s : State) : Spares n s (clearContents s) := by
  have sequencer (u : State) : Spares n u (clearSequencer u) := by
    unfold clearSequencer abandonSearch
    dsimp only
    (repeat' split) <;> exact .of_eq rfl rfl rfl rfl
  have index (u : State) : Spares n u (emptyIndex u) := by
    unfold emptyIndex trimLastMiss
    dsimp only
    split <;> exact .of_eq rfl rfl (by simp only [State.onCapture]; split <;> (try split) <;> rfl) rfl
  have broken (u : State) : Spares n u (putBroken false u) := by unfold putBroken; split <;> exact .of_eq rfl rfl rfl rfl
  have leader (u : State) : Spares n u (putLeaderMissing false u) := by
    unfold putLeaderMissing; split <;> exact .of_eq rfl rfl rfl rfl
  have roll (u : State) : Spares n u (putRollEnd none u) := by unfold putRollEnd; split <;> exact .of_eq rfl rfl rfl rfl
  have marks (u : State) : Spares n u (putLeaderMissing false (putBroken false (putRollEnd none u))) :=
    (roll u).trans ((broken _).trans (leader _))
  have tail (u : State) : Spares n u (u.onTransport fun t => { t with tailLimit := none }) := .of_eq rfl rfl rfl rfl
  refine ((clearInternal_spares n s).trans ((sequencer _).trans (index _))).trans (Spares.trans ?_ (tail _))
  exact Spares.after (marks _) rfl rfl rfl rfl

namespace JobOver
variable {n : Nat} {k : Job} {s : State}

/-- The entry to EMPTY ends the jobs that lose the roll, not one that is over. -/
theorem enterEmpty (h : JobOver n k s) : JobOver n k (enterEmpty false s) := by
  have lost : JobOver n k ((jobNumbers s).foldl (fun acc m => Machine.loseRoll m acc) s) :=
    foldl_invariant (fun _ m h => h.loseRoll m) _ h
  rw [enterEmpty_false]
  generalize (jobNumbers s).foldl (fun acc m => Machine.loseRoll m acc) s = t at lost
  have ended : JobOver n k (workEnded t) := by
    refine JobOver.setReference (lost.of_spares (.of_eq ?_ ?_ ?_ ?_) ?_ ?_) .lost
    · simp [stopWork, slacken]
    all_goals unfold enterState
    · split <;> simp [raise, stopWork, slacken]
    · split <;> rfl
    · split <;> exact clearCurrent_rollClaim t
    · split <;> rfl
    · split
      · exact id
      · rw [raise_told]; exact id
  have started : JobOver n k ((workEnded t).onTransport fun t => { t with position := 0, absorbed := 0 }) :=
    ended.of_spares (.of_eq rfl rfl rfl rfl) (by simp) id
  have cleared := started.of_spares (clearContents_spares n _) (by simp) (by simp)
  unfold contentsEmptied
  generalize clearContents _ = u at cleared
  exact cleared.of_spares (.of_eq rfl rfl rfl rfl) rfl id

end JobOver

end Sys2Proof.Machine
end

section
/-! PROOFS. CANCEL_JOB: its refusals, and what the cancel of an open job leaves (R19, R154, R155). -/

namespace Sys2Proof.Machine

/-! ### The request (R176, R193) -/

theorem readBody_cancelJob (tag job : Byte) : readBody ((Request.cancelJob job).body tag) = some (tag, .cancelJob job) := by
  simp [Request.body, Request.kind, Request.params, readBody, readParams, oneByte, whole]

theorem exec_cancelJob {l : LinkId} {s : State} (h : Listens l s) (tag : Byte) {job : Byte} (named : job ≠ 0) :
    exec (.cancelJob l tag job) s =
      .next (replied l 0x8E tag (cancelJob l job.toNat s).result (cancelJob l job.toNat s).data (cancelJob l job.toNat s).state) :=
  exec_request (c := .cancelJob l tag job) (kind := 0x0E) (o := .cancelJob job.toNat) h rfl rfl
    (by simp [Request.body, Request.params]) (by decide) (readBody_cancelJob tag job) (if_neg named)

theorem cancelJob_open {l : LinkId} {n : Nat} {j : Job} {s : State} (found : findJob n s = some j) (own : j.link = l)
    (opened : j.isOpen = true) :
    cancelJob l n s = { state := settleBlocks (cancelWork j s), result := .ok, data := be8 n ++ [j.state.code] } := by
  simp [cancelJob, found, own, opened]

/-! ### The job given up (R92, R114) -/

/-- An item as a cancel leaves it. -/
def Item.cancelled (i : Item) : Item := if i.outcome = .pending then { i with outcome := .cancelled, inCapture := false } else i

/-- The items settled and the captures dropped, before the job ends. -/
def workDropped (n : Nat) (s : State) : State := dropCaptures n (modifyItems n (fun is => is.map Item.cancelled) s)

/-- The cancelled job ended, before the transport takes its part. -/
def jobGivenUp (n : Nat) (s : State) : State := endJob n .cancelled .cancelled (workDropped n s)

theorem cancelWork_eq (j : Job) (s : State) : cancelWork j s =
    if j.body.isRoll && j.state == .running then cancelRollWork (jobGivenUp j.number s) else jobGivenUp j.number s := rfl

/-- Captures dropped change no motion. -/
theorem dropCaptures_motion (n : Nat) (s : State) :
    (dropCaptures n s).transport = s.transport ∧ (dropCaptures n s).arbiter.current = s.arbiter.current := by
  have abandoned (u : State) : (abandonSearch u).arbiter.current = u.arbiter.current := by unfold abandonSearch; split <;> rfl
  have released (u : State) : (release ((disarm (abandonSearch u)).onCapture fun c => { c with holding := none })).transport =
      u.transport := abandonSearch_transport u
  have released' (u : State) : (release ((disarm (abandonSearch u)).onCapture fun c => { c with holding := none })).arbiter.current =
      u.arbiter.current := abandoned u
  have disarmed (u : State) : (disarm u).transport = u.transport ∧ (disarm u).arbiter = u.arbiter := ⟨rfl, rfl⟩
  unfold dropCaptures
  dsimp only
  (repeat' split) <;> simp [released, released', disarmed]

theorem workDropped_motion (n : Nat) (s : State) :
    (workDropped n s).transport = s.transport ∧ (workDropped n s).arbiter.current = s.arbiter.current :=
  dropCaptures_motion n _

section
variable {n : Nat} {j : Job} {s : State} (found : findJob n s = some j) (opened : j.isOpen = true)
include found opened

/-- Up to its end the job is the one it was, but for its items. -/
theorem workDropped_job : ∃ k, findJob n (workDropped n s) = some k ∧ openJob n (workDropped n s) = some k ∧ k.isOpen = true ∧
    k.link = j.link ∧ k.body.isRoll = j.body.isRoll := by
  obtain ⟨_, link, open_, roll⟩ := j.mapItems_keeps fun is => is.map Item.cancelled
  have here := (findJob_congr (dropCaptures_jobs n (modifyItems n (fun is => is.map Item.cancelled) s)) n).trans
    (findJob_modifyItems_same _ found)
  exact ⟨_, here, openJob_of_findJob here (open_.trans opened), open_.trans opened, link, roll⟩

/-- The job stands in its slot CANCELLED, without an entry. -/
theorem jobGivenUp_job : (∃ k, findJob n (jobGivenUp n s) = some k ∧ k.state = .cancelled ∧ k.endReason = .cancelled ∧
    k.link = j.link) ∧ (jobGivenUp n s).arbiter.entryOf (.job n) = none := by
  obtain ⟨k, here, open_, isOpen, link, _⟩ := workDropped_job found opened
  exact ⟨⟨_, findJob_endJob here isOpen _ _, rfl, rfl, link⟩, endJob_entry open_ _ _⟩

theorem jobGivenUp_told (listening : (s.link j.link).receiver ≠ .brk) : n ∈ (jobGivenUp n s).told j.link := by
  obtain ⟨k, _, open_, _, link, _⟩ := workDropped_job found opened
  have kept : ((workDropped n s).link j.link).kept = (s.link j.link).kept :=
    Links.get_kept (congrArg Coast.links (by simp [workDropped] : (workDropped n s).coast = s.coast)) j.link
  have tells := endJob_tells open_ (by rw [link, LinkUnit.receiver_of_kept kept]; exact listening) .cancelled .cancelled
  rwa [link] at tells

theorem jobGivenUp_claim (roll : j.body.isRoll = true) : (jobGivenUp n s).arbiter.rollClaim = false := by
  obtain ⟨k, _, open_, _, _, roll'⟩ := workDropped_job found opened
  rw [jobGivenUp, endJob_rollClaim open_, roll', roll, if_pos rfl]

/-- A LOAD or UNLOAD cancelled is over. -/
theorem jobGivenUp_over (distinct : (jobNumbers s).Nodup) (roll : j.body.isRoll = true)
    (listening : (s.link j.link).receiver ≠ .brk) :
    ∃ k, k.state = .cancelled ∧ k.endReason = .cancelled ∧ k.link = j.link ∧ JobOver n k (jobGivenUp n s) := by
  obtain ⟨⟨k, here, state, reason, link⟩, _⟩ := jobGivenUp_job found opened
  refine ⟨k, state, reason, link, by simp [Job.isOpen, JobState.isOpen, state], ?_, here, jobGivenUp_claim found opened roll, ?_⟩
  · have still : (jobGivenUp n s).still = s.still := by simp [jobGivenUp, workDropped]
    have numbers : jobNumbers (jobGivenUp n s) = jobNumbers s := congrArg (fun x => x.base.core.numbers) still
    rwa [numbers]
  · rw [link]
    exact jobGivenUp_told found opened listening

end

theorem jobGivenUp_asks (n : Nat) (s : State) : Asks s (jobGivenUp n s) :=
  have ⟨transport, current⟩ := workDropped_motion n s
  (Asks.of_eq transport current).trans (endJob_asks n _ _ _)

@[simp] theorem jobGivenUp_still (n : Nat) (s : State) : (jobGivenUp n s).still = s.still := by simp [jobGivenUp, workDropped]

/-- A requester whose motion is not current withdraws nothing of the transport. -/
theorem withdraw_transport_waiting {r : Requester} {s : State} (waits : ∀ c, s.arbiter.current = some c → c.requester ≠ r) :
    (withdraw r s).transport = s.transport := by
  have current : (if s.arbiter.interrupted = some r then (s.arbiter.remove r).dropInterrupted else s.arbiter.remove r).current =
      s.arbiter.current := by
    split
    · exact dropInterrupted_current _
    · rfl
  unfold withdraw
  dsimp only
  split
  · next own =>
    rw [State.onArbiter_arbiter, current] at own
    obtain ⟨c, hc, same⟩ := Option.any_eq_true _ _ |>.mp own
    exact absurd (beq_iff_eq.mp same) (waits c hc)
  · rfl

/-- A job whose motion is not current is cancelled without a change of the transport. -/
theorem jobGivenUp_transport_waiting {n : Nat} {s : State} (waits : ∀ c, s.arbiter.current = some c → c.requester ≠ .job n) :
    (jobGivenUp n s).transport = s.transport := by
  obtain ⟨transport, current⟩ := workDropped_motion n s
  refine Eq.trans ?_ transport
  cases open_ : openJob n (workDropped n s) with
  | none => rw [jobGivenUp, endJob, open_]
  | some j =>
    rw [jobGivenUp, endJob_part State.transport (fun _ _ _ => rfl) (fun _ _ => rfl) open_]
    exact withdraw_transport_waiting (by rw [← current] at waits; exact waits)

/-! ### The transport's part (R19) -/

@[simp] theorem Transport.stopped_state (t : Transport) : t.stopped.state = t.state := by unfold Transport.stopped; split <;> rfl

/-- A loss of the reference stops the move in flight at most. -/
theorem setReference_lost_transport (s : State) : (setReference .lost s).transport = { s.transport with reference := .lost } ∨
    (setReference .lost s).transport = { s.transport with reference := .lost }.stopped := by
  have lost (u : State) : (loseReference u).transport = u.transport ∨ (loseReference u).transport = u.transport.stopped := by
    have told : (lossTold u).transport = u.transport ∨ (lossTold u).transport = u.transport.stopped :=
      ((setMode_asks .idle u).trans (withdrawRescan_asks _)).transport.imp id And.left
    have stop : (stopForLoss (lossTold u)).transport = u.transport ∨ (stopForLoss (lossTold u)).transport = u.transport.stopped := by
      have stops : (stopForLoss (lossTold u)).transport = (lossTold u).transport ∨
          (stopForLoss (lossTold u)).transport = (lossTold u).transport.stopped := by
        unfold stopForLoss
        (repeat' split)
        · exact .inl rfl
        · exact .inl rfl
        · exact stopMove_transport _
      rcases stops with same | stopped <;> rcases told with same' | stopped' <;> simp [*]
    rcases loseReference_told u with result | result
    · rwa [result]
    · rw [result]
      rcases (askReference_asks (stopForLoss (lossTold u))).transport with same | ⟨stopped, _⟩
      · rwa [same]
      · rcases stop with same' | stopped' <;> simp [*]
  have told : ((if s.transport.reference = .exact then abandonSearch else id) (putReference .lost s)).transport =
      { s.transport with reference := .lost } := by split <;> simp
  unfold setReference
  split
  · next same => exact .inl (by rw [← same])
  · rw [← told]
    exact lost _

/-- In THREADING the transport enters EMPTY. -/
theorem cancelRollWork_threading {s : State} (threading : s.transport.state = .threading) :
    (cancelRollWork s).transport = s.transport.emptied := by
  simp [cancelRollWork, threading, enterEmpty_transport]

/-- In TENSIONING the reels go slack in RESTING. -/
theorem cancelRollWork_tensioning {s : State} (tensioning : s.transport.state = .tensioning) : (cancelRollWork s).transport =
    { (stopWork s).transport with tension := .slack, state := .resting, reference := .lost } := by
  have work : cancelRollWork s = setReference .lost (enterState .resting (slacken (stopWork s))) := by
    simp [cancelRollWork, tensioning]
  rw [work, setReference_idle_transport .lost (by rw [enterState_transport]; rfl), enterState_transport]
  rfl

/-- In REFERENCING and REWINDING the drives are off until the film is at rest. -/
theorem cancelRollWork_driving {s : State} (driving : s.transport.state = .referencing ∨ s.transport.state = .rewinding) :
    (cancelRollWork s).transport.state = s.transport.state ∧ (cancelRollWork s).transport.cancelling = true ∧
      (cancelRollWork s).transport.reference = .lost ∧ (cancelRollWork s).transport.drive = none ∧
      (cancelRollWork s).transport.search = none ∧ (cancelRollWork s).transport.roll = none ∧
      (cancelRollWork s).transport.position = s.transport.position := by
  have work : cancelRollWork s =
      setReference .lost ((driveOff (endSearch s)).onTransport fun t => { t with cancelling := true }) := by
    rcases driving with h | h <;> simp [cancelRollWork, h]
  rw [work]
  rcases setReference_lost_transport ((driveOff (endSearch s)).onTransport fun t => { t with cancelling := true }) with same | stopped
  · rw [same]
    exact ⟨rfl, rfl, rfl, rfl, rfl, rfl, rfl⟩
  · rw [stopped]
    unfold Transport.stopped
    split <;> exact ⟨rfl, rfl, rfl, rfl, rfl, rfl, rfl⟩

/-- The transport's part leaves a job that is over as it is. -/
theorem JobOver.cancelRollWork {n : Nat} {k : Job} {s : State} (h : JobOver n k s) : JobOver n k (cancelRollWork s) := by
  have rested : JobOver n k (enterState .resting (slacken (stopWork s))) := by
    refine h.of_spares ?_ (by simp) (by simp [slacken, stopWork])
    unfold enterState
    split <;> exact .of_eq rfl rfl rfl rfl
  have driven : JobOver n k ((driveOff (endSearch s)).onTransport fun t => { t with cancelling := true }) :=
    h.of_spares (.of_eq rfl rfl rfl rfl) (by simp) (by simp [endSearch])
  unfold Machine.cancelRollWork
  split
  · exact h.enterEmpty
  · exact rested.setReference .lost
  · exact driven.setReference .lost
  · exact driven.setReference .lost
  · exact h

end Sys2Proof.Machine

open Sys2Proof Sys2Proof.Machine

/-- Settles O31: the refusals of `cancelJob`; the job from its end, the transport from `cancelRollWork` in each of its states. -/
theorem jobCancelled : Obligations.JobCancelled := by
  unfold Obligations.JobCancelled
  intro l tag job s listens named sound
  rw [exec_cancelJob listens tag named]
  refine ⟨fun none_ => ?_, fun j found =>
    ⟨fun other => ?_, fun own ended => ?_, fun own opened other => ?_, fun own opened roll => ?_⟩⟩
  · simp [cancelJob, none_, refuse]
  · simp [cancelJob, found, other, refuse]
  · simp [cancelJob, found, own, ended, refuse]
  · have number := findJob_number found
    have work : cancelWork j s = jobGivenUp job.toNat s := by simp [cancelWork_eq, other, number]
    have listening : (s.link j.link).receiver ≠ .brk := by rw [own, listens.1]; nofun
    obtain ⟨⟨k, here, state, reason, link⟩, entry⟩ := jobGivenUp_job found opened
    have still := jobGivenUp_still job.toNat s
    rw [cancelJob_open found own opened, work]
    refine ⟨_, by simp [be8], ⟨k, here, state, reason, link.trans own⟩, entry,
      own ▸ jobGivenUp_told found opened listening, ?_, ?_, ?_⟩
    · exact congrArg (fun x => x.base.core.numbers) still
    · exact congrArg (fun x => x.base.position) still
    · exact congrArg (fun x => x.base.fault) still
  · have number := findJob_number found
    have listening : (s.link j.link).receiver ≠ .brk := by rw [own, listens.1]; nofun
    obtain ⟨k, state, reason, link, isOver⟩ := jobGivenUp_over found opened sound.2.1 roll listening
    have core := cancelWork_core j s
    have asks := jobGivenUp_asks job.toNat s
    have position : (jobGivenUp job.toNat s).transport.position = s.transport.position :=
      congrArg (fun x => x.base.position) (jobGivenUp_still job.toNat s)
    have there : (jobGivenUp job.toNat s).transport.state = s.transport.state := by
      rcases asks.transport with same | ⟨stopped, _⟩
      · rw [same]
      · rw [stopped, Transport.stopped_state]
    have work : j.state = .running → cancelWork j s = cancelRollWork (jobGivenUp job.toNat s) := fun running => by
      simp [cancelWork_eq, roll, running, number]
    have isOver' : JobOver job.toNat k (cancelWork j s) := by
      rw [cancelWork_eq, number]
      split
      · exact isOver.cancelRollWork
      · exact isOver
    rw [cancelJob_open found own opened]
    refine ⟨_, by simp [be8], ⟨k, isOver'.job, state, reason, link.trans own⟩, isOver'.claim, ?_, congrArg Fixed.numbers core,
      fault_of_still (cancelWork_fault j s), congrArg Fixed.profile core, fun idle waits => ?_, fun running threading => ?_,
      fun running tensioning => ?_, fun running driving => ?_⟩
    · have told := isOver'.told
      rwa [link.trans own] at told
    · have kept : cancelWork j s = jobGivenUp job.toNat s := by simp [cancelWork_eq, idle, number]
      rw [kept]
      exact jobGivenUp_transport_waiting waits
    · rw [work running, cancelRollWork_threading (there.trans threading)]
      exact ⟨rfl, rfl, rfl, rfl, rfl⟩
    · rw [work running, cancelRollWork_tensioning (there.trans tensioning)]
      exact ⟨rfl, rfl, rfl, rfl, rfl, rfl, position⟩
    · obtain ⟨state', cancelling, reference, drive, search, roll', position'⟩ :=
        cancelRollWork_driving (s := jobGivenUp job.toNat s) (by rwa [there])
      rw [work running]
      exact ⟨state'.trans there, cancelling, reference, drive, search, roll', position'.trans position⟩

end

section
/-! SUPPORT. A job that starts: what it keeps of its order while it tries its targets and chooses its first motion (R138, R140, R143, R144,
R147, R148). -/

namespace Sys2Proof.Machine

/-! ### A job moved on -/

/-- The job with a number has moved on from `j` in state, end reason and body alone, and state and body have a property. -/
def MovedOn (n : Nat) (j : Job) (P : JobState → JobBody → Prop) (s : State) : Prop :=
  ∃ st why b, findJob n s = some { j with state := st, endReason := why, body := b } ∧ P st b

/-- A job that waits for no clear ends. -/
theorem endJob_moves {n : Nat} {j : Job} {s : State} {P : JobState → JobBody → Prop} (found : findJob n s = some j)
    (opened : j.isOpen = true) (starts : j.waitClear = false) {st : JobState} (why : EndReason) (hP : P st (closeBody s j.body)) :
    MovedOn n j P (endJob n st why s) := by
  have closed : j.closed st why s = { j with state := st, endReason := why, body := closeBody s j.body } := by
    unfold Job.closed
    rw [← starts]
  exact ⟨st, why, _, closed ▸ findJob_endJob found opened st why, hP⟩

/-- A submission leaves the job as it is. -/
theorem MovedOn.submitJob {n : Nat} {j : Job} {s : State} {P : JobState → JobBody → Prop} (h : MovedOn n j P s) (k : QKind)
    (frame : Option Nat) : MovedOn n j P (submitJob n k frame s) := by
  obtain ⟨st, why, b, found, hP⟩ := h
  exact ⟨st, why, b, (findJob_congr (submitJob_jobs n k frame s) n).trans found, hP⟩

theorem MovedOn.ensureIndex {n : Nat} {j : Job} {s : State} {P : JobState → JobBody → Prop} (h : MovedOn n j P s) :
    MovedOn n j P (ensureIndex n s) := by
  obtain ⟨st, why, b, found, hP⟩ := h
  exact ⟨st, why, b, (findJob_congr (ensureIndex_jobs n s) n).trans found, hP⟩

/-- A job is given a state. -/
theorem setJobState_moves {n : Nat} {j : Job} {s : State} {P : JobState → JobBody → Prop} (found : findJob n s = some j)
    {st : JobState} (hP : P st j.body) : MovedOn n j P (setJobState n st s) :=
  ⟨st, j.endReason, j.body, findJob_setJobState st found, hP⟩

/-! ### The tries of the kinds of job -/

section
variable {n : Nat} {j : Job} {s : State} (found : findJob n s = some j) (opened : j.isOpen = true) (starts : j.waitClear = false)
include found opened starts

/-- A SEEK that tries its target has started, and keeps the target (R143). -/
theorem seekTry_moves {t : Target} {o : Option MoveOutcome} {f : Option Nat} (body : j.body = .seek t none o f) (final : Bool) :
    MovedOn n j (fun st b => st ≠ .queued ∧ ∃ r, b = .seek t r o f) (seekTry n final s) := by
  have open_ := openJob_of_findJob found opened
  obtain ⟨number, link, state, urgent, search, reason, waits, _⟩ := j
  cases body
  unfold seekTry
  rw [open_]
  dsimp only
  cases resolve final t s with
  | found k =>
    refine MovedOn.submitJob ?_ _ _
    exact ⟨.running, reason, .seek t (some k) o f,
      findJob_modifyJob_same (f := fun j => { j with state := .running, body := .seek t (some k) o f }) (fun _ => rfl) found,
      nofun, some k, rfl⟩
  | beyond => exact (setJobState_moves found ⟨nofun, none, rfl⟩).ensureIndex
  | notFound => exact endJob_moves found opened starts _ ⟨nofun, none, rfl⟩

/-- An INDEX_TO that tests its target has started, and keeps the target (R147). -/
theorem indexToTry_moves {t : Target} {x c p : Option Nat} (body : j.body = .indexTo t x c p) (final : Bool) :
    MovedOn n j (fun st b => st ≠ .queued ∧ ∃ x c p, b = .indexTo t x c p) (indexToTry n final s) := by
  have open_ := openJob_of_findJob found opened
  obtain ⟨number, link, state, urgent, search, reason, waits, _⟩ := j
  cases body
  have ends {st : JobState} (why : EndReason) (final_ : st ≠ .queued) :
      MovedOn n _ (fun st b => st ≠ .queued ∧ ∃ x c p, b = .indexTo t x c p) (endJob n st why s) :=
    endJob_moves found opened starts why ⟨final_, x, _, _, rfl⟩
  have waits_ : MovedOn n _ (fun st b => st ≠ .queued ∧ ∃ x c p, b = .indexTo t x c p) (ensureIndex n (setJobState n .running s)) :=
    (setJobState_moves found ⟨nofun, x, c, p, rfl⟩).ensureIndex
  unfold indexToTry
  rw [open_]
  dsimp only
  (repeat' split)
  · exact ends _ nofun
  · exact ends _ nofun
  · exact ends _ nofun
  · exact waits_
  · next k _ =>
    have named := findJob_modifyJob_same (f := fun j => { j with body := .indexTo t (some k) none none }) (fun _ => rfl) found
    exact endJob_moves (P := fun st b => st ≠ .queued ∧ ∃ x c p, b = .indexTo t x c p) named opened starts _
      ⟨nofun, some k, _, _, rfl⟩
  · exact ends _ nofun
  · exact waits_

end

/-- What an item was asked to be, and how often it was captured. -/
def Item.asked (i : Item) : Target × Nat := (i.target, i.captures)

theorem fetchFinal_ne_queued (is : List Item) : fetchFinal is ≠ .queued := by
  unfold fetchFinal; (repeat' split) <;> nofun

theorem map_asked_modify {f : Item → Item} (hf : ∀ i, (f i).asked = i.asked) (k : Nat) (is : List Item) :
    (is.modify k f).map Item.asked = is.map Item.asked := by
  refine List.ext_getElem? fun p => ?_
  by_cases same : k = p <;> cases at_ : is[p]? <;> simp [same, at_, hf]

theorem retryItem_asked (final : Bool) (s : State) (i : Item) : (retryItem final s i).asked = i.asked := by
  unfold retryItem; (repeat' split) <;> rfl

/-- A FETCH that chooses its next motion has started, and its items are as they were asked (R144). -/
theorem fetchChoose_moves {n : Nat} {j : Job} {s : State} (found : findJob n s = some j) (opened : j.isOpen = true)
    (starts : j.waitClear = false) {is : List Item} (body : j.body = .fetch is) :
    MovedOn n j (fun st b => st ≠ .queued ∧ ∃ is', b = .fetch is' ∧ is'.map Item.asked = is.map Item.asked) (fetchChoose n s) := by
  have open_ := openJob_of_findJob found opened
  cases chosen : nearestItem s 1 is with
  | some x =>
    obtain ⟨k, d⟩ := x
    rw [fetchChoose_ready found opened body chosen]
    refine MovedOn.submitJob ?_ _ _
    exact setJobState_moves (findJob_modifyItem found opened body)
      ⟨nofun, _, rfl, map_asked_modify (f := fun i => { i with inCapture := true }) (fun _ => rfl) _ is⟩
  | none =>
    obtain ⟨number, link, state, urgent, search, reason, waits, _⟩ := j
    cases body
    unfold fetchChoose
    rw [open_]
    dsimp only
    rw [chosen]
    dsimp only
    split
    · exact (setJobState_moves found ⟨nofun, is, rfl, rfl⟩).ensureIndex
    · exact endJob_moves found opened starts _ ⟨fetchFinal_ne_queued is, is, rfl, rfl⟩

/-! ### A SWEEP tries its bounds (R148, R149) -/

/-- A submission of an open job leaves it an entry of that kind, and the revisit lists as they were. -/
theorem submitJob_entry {n : Nat} {j : Job} {s : State} (found : findJob n s = some j) (opened : j.isOpen = true) (k : QKind)
    (frame : Option Nat) : ∃ e, (submitJob n k frame s).arbiter.entryOf (.job n) = some e ∧ e.kind = k ∧
      e.cls = if j.urgent then .urgent else .normal := by
  rw [submitJob_open found opened]
  obtain ⟨e, entry, kind, cls, _⟩ := submit_entry (.job n) (if j.urgent then .urgent else .normal) k frame s
  exact ⟨e, entry, kind, cls⟩

theorem submitJob_revisits (n : Nat) (k : QKind) (frame : Option Nat) (s : State) :
    (submitJob n k frame s).capture.revisits = s.capture.revisits := by
  unfold submitJob
  split
  · rfl
  · exact submit_revisits _ _ _ _ s

theorem ensureIndex_entry {n : Nat} {j : Job} {s : State} (found : findJob n s = some j) (opened : j.isOpen = true) :
    ∃ e, (ensureIndex n s).arbiter.entryOf (.job n) = some e ∧ e.kind = .index := by
  unfold ensureIndex
  split
  · next held =>
    obtain ⟨e, entry, kind⟩ := Option.any_eq_true _ _ |>.mp held
    exact ⟨e, entry, beq_iff_eq.mp kind⟩
  · obtain ⟨e, entry, kind, _⟩ := submitJob_entry found opened .index none
    exact ⟨e, entry, kind⟩

theorem ensureIndex_revisits (n : Nat) (s : State) : (ensureIndex n s).capture.revisits = s.capture.revisits := by
  unfold ensureIndex
  split
  · rfl
  · exact submitJob_revisits n _ _ s

/-- What a SWEEP has become with its bounds tried: it failed; or it is QUEUED with both bounds, the first frame next and a RUN entry; or it
is RESOLVING with an INDEX entry. While it is open the revisit lists `rs` stand. -/
def SweepTried (n : Nat) (urgent : Bool) (rs : List RevisitList) (st : JobState) (r : SweepRec) (s : State) : Prop :=
  st = .failed ∨
    s.capture.revisits = rs ∧
      (st = .queued ∧ r.fromFrame ≠ none ∧ r.endFrame ≠ none ∧ r.nextFrame = r.fromFrame ∧
          (∃ e, s.arbiter.entryOf (.job n) = some e ∧ e.kind = .run ∧ e.cls = if urgent then .urgent else .normal) ∨
        st = .resolving ∧ ∃ e, s.arbiter.entryOf (.job n) = some e ∧ e.kind = .index)

/-- A SWEEP has moved on from `j` by a try of its bounds; of its record `r` the bounds and the next frame alone have changed. -/
def SweepMoved (n : Nat) (j : Job) (r : SweepRec) (rs : List RevisitList) (s : State) : Prop :=
  ∃ st why x e y, findJob n s = some
      { j with state := st, endReason := why, body := .sweep { r with fromFrame := x, endFrame := e, nextFrame := y } } ∧
    SweepTried n j.urgent rs st { r with fromFrame := x, endFrame := e, nextFrame := y } s

theorem sweepTry_moves {n : Nat} {j : Job} {s : State} (found : findJob n s = some j) (opened : j.isOpen = true)
    (starts : j.waitClear = false) {r : SweepRec} (body : j.body = .sweep r) (new : r.fromFrame = none) (final : Bool) :
    SweepMoved n j r s.capture.revisits (sweepTry n final s) := by
  have open_ := openJob_of_findJob found opened
  obtain ⟨number, link, state, urgent, search, reason, waits, _⟩ := j
  cases body
  unfold sweepTry
  rw [open_]
  dsimp only
  rw [if_neg (by simp [new])]
  generalize boundNow (r.fromFrame.map EndFrame.frame) (resolveFrom final r.fromT s) = f
  generalize boundNow r.endFrame (resolveTo final r.toT s) = e
  have bounded := findJob_modifySweep_open (fun r => { r with fromFrame := f.frame, endFrame := e.bound }) found opened rfl
  have fails (why : EndReason) : SweepMoved n ⟨number, link, state, urgent, search, reason, waits, .sweep r⟩ r s.capture.revisits
      (endJob n .failed why (modifySweep n (fun r => { r with fromFrame := f.frame, endFrame := e.bound }) s)) := by
    obtain ⟨st, why', b, ended, rfl, rfl⟩ := endJob_moves (st := .failed) (P := fun st b => st = .failed ∧ b = .sweep
      { r with fromFrame := f.frame, endFrame := e.bound }) bounded opened starts why ⟨rfl, rfl⟩
    exact ⟨_, why', f.frame, e.bound, r.nextFrame, ended, .inl rfl⟩
  split
  · exact fails _
  · exact fails _
  · split
    · next x y hx hy =>
      split
      · exact fails _
      · have next_ := findJob_modifySweep_open (fun r => { r with nextFrame := some x }) bounded opened rfl
        have queued := findJob_setJobState .queued next_
        obtain ⟨e', entry, kind, cls⟩ := submitJob_entry queued rfl .run none
        refine ⟨.queued, reason, f.frame, e.bound, some x, (findJob_congr (submitJob_jobs n _ _ _) n).trans queued,
          .inr ⟨submitJob_revisits n _ _ _, .inl ⟨rfl, ?_, ?_, hx.symm, e', entry, kind, cls⟩⟩⟩
        · simp [hx]
        · simp [hy]
    · have resolving := findJob_setJobState .resolving bounded
      exact ⟨.resolving, reason, f.frame, e.bound, r.nextFrame, (findJob_congr (ensureIndex_jobs n _) n).trans resolving,
        .inr ⟨ensureIndex_revisits n _, .inr ⟨rfl, ensureIndex_entry resolving rfl⟩⟩⟩

end Sys2Proof.Machine
end

section
/-! SUPPORT. The job requests: their frames, the targets they name, and their checks (R15, R20, R137, R193, R194). -/

namespace Sys2Proof.Machine

/-! ### Targets -/

/-- A target is read by the type of its field (R194). -/
def ReadsTarget (f : TargetField) (g : Target) : Prop :=
  (f.code = 1 → g = .frame f.w0.toNat) ∧ (f.code = 2 → g = .address ⟨f.w0.toNat, f.w1.toNat, f.w2.toNat⟩) ∧
    (f.code = 3 → g = .rollEnd)

theorem reads_of_targetOf {f : TargetField} {g : Target} (h : targetOf f = some g) : ReadsTarget f g := by
  unfold targetOf at h
  refine ⟨fun code => ?_, fun code => ?_, fun code => ?_⟩
  all_goals
    simp [code] at h
    exact h.2.symm

theorem targetOf_of_namedTarget {f : TargetField} {g : Target} (h : namedTarget f = some g) : targetOf f = some g := by
  unfold namedTarget at h
  split at h
  · cases h
  · exact h

/-- Fields that all name a frame or an address are an item list, each item the target of its field. -/
theorem itemTargets_named {reads : TargetField → Target → Prop} (hreads : ∀ f g, targetOf f = some g → reads f g)
    {fs : List TargetField} (named : ∀ f ∈ fs, namedTarget f ≠ none) :
    ∃ gs, itemTargets fs = some gs ∧ List.Forall₂ reads fs gs := by
  induction fs with
  | nil => exact ⟨[], rfl, .nil⟩
  | cons f fs ih =>
    obtain ⟨gs, listed, read⟩ := ih fun x hx => named x (List.mem_cons_of_mem f hx)
    obtain ⟨g, hg⟩ := Option.ne_none_iff_exists'.mp (named f List.mem_cons_self)
    exact ⟨g :: gs, by simp [itemTargets, hg, listed], .cons (hreads f g (targetOf_of_namedTarget hg)) read⟩

/-! ### Frames -/

theorem getTarget_put_last (t : TargetField) : getTarget (putTarget t) = some (t, []) := by
  have read := getTarget_put t []
  rwa [List.append_nil] at read

theorem getItems_put_last (ts : List TargetField) : getItems ts.length (putItems ts) = some (ts, []) := by
  have read := getItems_put ts []
  rwa [List.append_nil] at read

theorem readBody_loadRoll (tag : Byte) : readBody (Request.loadRoll.body tag) = some (tag, .loadRoll) := by
  simp [Request.body, Request.kind, Request.params, readBody, readParams, bare]

theorem readBody_unloadRoll (tag : Byte) : readBody (Request.unloadRoll.body tag) = some (tag, .unloadRoll) := by
  simp [Request.body, Request.kind, Request.params, readBody, readParams, bare]

theorem readBody_seekFrame (tag flags : Byte) (t : TargetField) :
    readBody ((Request.seekFrame flags t).body tag) = some (tag, .seekFrame flags t) := by
  simp [Request.body, Request.kind, Request.params, readBody, readParams, flagsTarget, whole, getTarget_put_last]

theorem readBody_indexTo (tag flags : Byte) (t : TargetField) :
    readBody ((Request.indexTo flags t).body tag) = some (tag, .indexTo flags t) := by
  simp [Request.body, Request.kind, Request.params, readBody, readParams, flagsTarget, whole, getTarget_put_last]

theorem readBody_sweep (tag flags : Byte) (x y : TargetField) :
    readBody ((Request.sweep flags x y).body tag) = some (tag, .sweep flags x y) := by
  simp [Request.body, Request.kind, Request.params, readBody, readParams, whole, getTarget_put_last]

theorem readBody_fetch (tag flags : Byte) {items : List TargetField} (few : items.length ≤ 32) :
    readBody ((Request.fetch flags items).body tag) = some (tag, .fetch flags items) := by
  have count : (BitVec.ofNat 8 items.length).toNat = items.length := by
    rw [BitVec.toNat_ofNat]
    omega
  simp [Request.body, Request.kind, Request.params, readBody, readParams, whole, getItems_put_last,
    Nat.mod_eq_of_lt (show items.length < 256 by omega)]

/-! ### Checks -/

section
variable {l : LinkId} {s : State} (few : openOf l s < 2) (room : s.jobs.slots.length < 6)
include few room

theorem slot_free : ¬ (Config.jobsPerLink ≤ openOf l s ∨ Config.jobSlots ≤ s.jobs.slots.length) := by
  unfold Config.jobsPerLink Config.jobSlots
  omega

theorem acceptCheck_load (empty : s.index.state = .empty) (film : s.transport.state = .empty → s.pins.levels.filmPresent = true)
    (notThreading : s.transport.state ≠ .threading) (notRewinding : s.transport.state ≠ .rewinding) (free : rollJob s = none) :
    acceptCheck l .load s = .ok := by
  rw [acceptCheck, if_neg (slot_free few room)]
  simpa [loadCheck, empty, notThreading, notRewinding, free] using film

theorem acceptCheck_unload (filled : s.transport.state ≠ .empty) (ended : ∀ j ∈ s.jobs.slots, j.isOpen = false)
    (delivered : s.capture.ring = []) (answered : s.capture.outstanding = none) : acceptCheck l .unload s = .ok := by
  rw [acceptCheck, if_neg (slot_free few room)]
  have none_open : s.jobs.slots.any (fun j => j.isOpen) = false := by simpa using ended
  simp [unloadCheck, filled, none_open, delivered, Capture.answerOutstanding, answered]

theorem acceptCheck_sweep (filled : s.transport.state ≠ .empty) {revisit search : Bool} {x y : Target}
    (ordered : s.fault.halted = true ∨ boundsReversed x y s = false) : acceptCheck l (.sweep revisit search x y) s = .ok := by
  rw [acceptCheck, if_neg (slot_free few room)]
  rcases ordered with halted | ordered <;> simp [*]

end

end Sys2Proof.Machine
end

section
/-! PROOFS. The six job requests where their checks pass: the answer, and the job that each leaves (R134 to R139, R148, R180). -/

namespace Sys2Proof.Machine

/-! ### The job in its slot -/

/-- With a slot free the number found is no other job's, whatever the counter names. -/
theorem newNumber_fresh {s : State} (room : s.jobs.slots.length < 6) : newNumber s ∉ jobNumbers s := by
  rw [← jobNumbers_length] at room
  unfold newNumber freeNumber
  split
  · obtain ⟨low, high⟩ := nextNumber_range s.jobs.counter
    obtain ⟨k, number, _, free⟩ := freeNumber_free room (by omega) low high
    rwa [number]
  · next free => simpa using free

/-- The accepted job stands in the table under its number. -/
theorem findJob_insertJob (l : LinkId) (o : JobOrder) {s : State} (room : s.jobs.slots.length < 6) :
    findJob (newNumber s) (insertJob l o s) = some (newJob l o s) := by
  have others : s.jobs.slots.find? (fun j => j.number == newNumber s) = none := by
    simpa [jobNumbers, List.find?_eq_none] using newNumber_fresh room
  simp [findJob, insertJob_jobs, List.find?_append, others, newJob]

theorem newJob_isOpen (l : LinkId) (o : JobOrder) (s : State) : (newJob l o s).isOpen = true := rfl

/-- The slot taken changes transport, fault record and arbiter in nothing. -/
theorem insertJob_frame (l : LinkId) (o : JobOrder) (s : State) : (insertJob l o s).transport = s.transport ∧
    (insertJob l o s).fault = s.fault ∧ (insertJob l o s).arbiter = s.arbiter := by
  unfold insertJob
  dsimp only
  split <;> exact ⟨rfl, rfl, rfl⟩

/-- A SWEEP with revisit on has an empty revisit list (R93). -/
theorem insertJob_revisitOf (l : LinkId) {o : JobOrder} (keeps : o.keepsRevisits = true) (s : State) :
    (insertJob l o s).capture.revisitOf (newNumber s) = some [] := by
  have others : (s.capture.revisits.filter fun r => r.job != newNumber s).find? (fun r => r.job == newNumber s) = none := by
    simp [List.find?_eq_none]
  simp [insertJob, keeps, Capture.revisitOf, discardRevisit, List.find?_append, others]

/-! ### The job begun -/

/-- The state that the acceptance of a job leaves, before the rest of the step is settled. -/
def begun (l : LinkId) (o : JobOrder) (s : State) : State := beginJob (newNumber s) o (insertJob l o s)

/-- A LOAD or UNLOAD waits, and while HALTED every job does. -/
theorem begun_waits {l : LinkId} {o : JobOrder} {s : State} (room : s.jobs.slots.length < 6)
    (waits : o.isRoll = true ∨ s.fault.halted = true) : findJob (newNumber s) (begun l o s) = some (newJob l o s) := by
  obtain ⟨_, fault, _⟩ := insertJob_frame l o s
  refine (findJob_congr ?_ _).trans (findJob_insertJob l o room)
  unfold begun beginJob
  dsimp only
  split
  · split
    · rfl
    · exact askStop_jobs _ _
  · next notRoll =>
    rw [fault, if_pos (waits.resolve_left notRoll)]

/-- While HALTED no motion is submitted (R138). -/
theorem begun_queue {l : LinkId} {o : JobOrder} {s : State} (halted : s.fault.halted = true) :
    (begun l o s).arbiter.queue = s.arbiter.queue := by
  obtain ⟨_, fault, arbiter⟩ := insertJob_frame l o s
  have claimed (v : Bool) (u : State) : (setRollClaim v u).fault = u.fault ∧ (setRollClaim v u).arbiter.queue = u.arbiter.queue :=
    ⟨rfl, rfl⟩
  unfold begun beginJob
  dsimp only
  rw [(claimed _ _).1, fault, if_pos halted, if_pos halted]
  split
  · rw [(claimed _ _).2, arbiter]
  · rw [arbiter]

/-- An accepted LOAD or UNLOAD claims the transport (R139). -/
theorem begun_claim {l : LinkId} {o : JobOrder} {s : State} (roll : o.isRoll = true) : (begun l o s).arbiter.rollClaim = true := by
  unfold begun beginJob
  dsimp only
  rw [if_pos roll]
  split
  · rfl
  · exact askStop_rollClaim _ _

/-- A job readied for its start: it waits for no clear. -/
def readied (l : LinkId) (o : JobOrder) (s : State) : State :=
  modifyJob (newNumber s) (fun j => { j with waitClear := false }) (insertJob l o s)

/-- The job that starts. -/
def startingJob (l : LinkId) (o : JobOrder) (s : State) : Job := { newJob l o s with waitClear := false }

theorem findJob_readied (l : LinkId) (o : JobOrder) {s : State} (room : s.jobs.slots.length < 6) :
    findJob (newNumber s) (readied l o s) = some (startingJob l o s) :=
  findJob_modifyJob_same (f := fun j => { j with waitClear := false }) (fun _ => rfl) (findJob_insertJob l o room)

/-- Unless the part is HALTED any other job starts (R138). -/
theorem begun_starts {l : LinkId} {o : JobOrder} {s : State} (notRoll : o.isRoll = false) (runs : s.fault.halted = false) :
    begun l o s = startJob (newNumber s) (insertJob l o s) := by
  obtain ⟨_, fault, _⟩ := insertJob_frame l o s
  simp [begun, beginJob, notRoll, fault, runs]

/-- While HALTED it stands in its slot and nothing more (R138). -/
theorem begun_halted {l : LinkId} {o : JobOrder} {s : State} (notRoll : o.isRoll = false) (halted : s.fault.halted = true) :
    begun l o s = insertJob l o s := by
  obtain ⟨_, fault, _⟩ := insertJob_frame l o s
  simp [begun, beginJob, notRoll, fault, halted]

theorem openJob_insertJob (l : LinkId) (o : JobOrder) {s : State} (room : s.jobs.slots.length < 6) :
    openJob (newNumber s) (insertJob l o s) = some (newJob l o s) :=
  openJob_of_findJob (findJob_insertJob l o room) (newJob_isOpen l o s)

/-! ### What an acceptance leaves -/

/-- The job taken up on a link: of the request's kind, with its urgent flag and focus policy, and with what is held of it. While HALTED it
is QUEUED for the clear and submits no motion; else it waits for none, and a SEEK, FETCH or INDEX_TO has started. -/
def TakenUp (l : LinkId) (s : State) (code : Byte) (urgent search : Bool) (held : Job → State → Prop) (u : State) : Prop :=
  ∃ j, findJob (newNumber s) u = some j ∧ j.link = l ∧ j.body.code = code ∧ j.urgent = urgent ∧ j.search = search ∧ held j u ∧
    (s.fault.halted = true → j.state = .queued ∧ j.endReason = .none ∧ j.waitClear = true ∧ u.arbiter.queue = s.arbiter.queue) ∧
    (s.fault.halted = false → j.waitClear = false ∧ (code = 3 ∨ code = 4 ∨ code = 6 → j.state ≠ .queued))

/-- A row is accepted on a link: it is answered OK with the job's number over a settled state, in which the job has its number, the counter
names the next, and position count, fault record and profile are as before. -/
def Accepted (l : LinkId) (tag : Byte) (s : State) (row : Host.Outcome State Fault Refusal) (kind code : Byte) (urgent search : Bool)
    (held : Job → State → Prop) : Prop :=
  ∃ u t, t = settleBlocks u ∧ row = .next (replied l kind tag .ok (be8 (newNumber s)) t) ∧
    jobNumbers t = jobNumbers s ++ [newNumber s] ∧ t.jobs.counter = nextNumber (newNumber s) ∧
    t.transport.position = s.transport.position ∧ t.fault = s.fault ∧ t.transport.profile = s.transport.profile ∧
    TakenUp l s code urgent search held u

theorem base_frame {s t : State} (h : t.still.base = s.still.base) : t.transport.position = s.transport.position ∧
    t.fault = s.fault ∧ t.transport.profile = s.transport.profile :=
  ⟨congrArg Base.position h, congrArg Base.fault h, congrArg (fun x => x.core.profile) h⟩

/-- Position count, fault record and profile are told by the transport and the fault record. -/
theorem begun_frame (l : LinkId) (o : JobOrder) (s : State) :
    (settleBlocks (begun l o s)).transport.position = s.transport.position ∧ (settleBlocks (begun l o s)).fault = s.fault ∧
      (settleBlocks (begun l o s)).transport.profile = s.transport.profile := by
  have base : (settleBlocks (begun l o s)).still.base = (insertJob l o s).still.base := by simp [begun]
  obtain ⟨position, fault, profile⟩ := base_frame base
  obtain ⟨transport, fault', _⟩ := insertJob_frame l o s
  rw [position, fault, profile, transport, fault']
  exact ⟨rfl, rfl, rfl⟩

/-- A row that is the arrival of a job request whose checks pass. -/
theorem accepted_of_request {c : Instr} {l : LinkId} {tag kind code : Byte} {r : Request} {o : JobOrder} {s0 s : State}
    {urgent search : Bool} {held : Job → State → Prop} (h : Listens l s) (hexec : exec c s0 = .next (requestArrives l tag r s))
    (hkind : r.kind = kind) (hlen : (r.body tag).length ≤ 250) (known : requestKinds.contains kind = true)
    (hread : readBody (r.body tag) = some (tag, r)) (hcheck : checkRequest r = some (.job o)) (ok : acceptCheck l o s = .ok)
    (up : TakenUp l s code urgent search held (begun l o s)) :
    Accepted l tag s (exec c s0) (replyKind kind) code urgent search held := by
  have answered := exec_request h hexec hkind hlen known hread hcheck
  rw [perform_job_ok ok, ← begun] at answered
  have numbers := accepted_numbers l o s
  have counter := accepted_counter l o s
  rw [← begun] at numbers counter
  obtain ⟨position, fault, profile⟩ := begun_frame l o s
  exact ⟨begun l o s, _, rfl, answered, numbers, counter, position, fault, profile, up⟩

section
variable {l : LinkId} {o : JobOrder} {s : State} {held : Job → State → Prop} (room : s.jobs.slots.length < 6)
include room

/-- While HALTED the job waits for the clear (R138, R139). -/
theorem takenUp_halted (halted : s.fault.halted = true) (holds : held (newJob l o s) (begun l o s)) :
    TakenUp l s o.body.code o.urgent o.search held (begun l o s) :=
  ⟨_, begun_waits room (.inr halted), rfl, rfl, rfl, rfl, holds, fun _ => ⟨rfl, rfl, halted, begun_queue halted⟩,
    fun runs => by simp [halted] at runs⟩

/-- A LOAD or UNLOAD waits for the transport (R139). -/
theorem takenUp_roll (roll : o.isRoll = true) (holds : held (newJob l o s) (begun l o s)) :
    TakenUp l s o.body.code o.urgent o.search held (begun l o s) := by
  refine ⟨_, begun_waits room (.inl roll), rfl, rfl, rfl, rfl, holds, fun halted => ⟨rfl, rfl, halted, begun_queue halted⟩,
    fun runs => ⟨runs, fun started => ?_⟩⟩
  cases o <;> simp_all [JobOrder.isRoll, JobOrder.body, JobBody.code]

end

/-- A job that has moved on from its start is taken up (R138). -/
theorem takenUp_started {l : LinkId} {o : JobOrder} {s : State} {held : Job → State → Prop} (runs : s.fault.halted = false)
    (h : ∃ st why b, findJob (newNumber s) (begun l o s) = some { startingJob l o s with state := st, endReason := why, body := b } ∧
      b.code = o.body.code ∧ (o.body.code = 3 ∨ o.body.code = 4 ∨ o.body.code = 6 → st ≠ .queued) ∧
      held { startingJob l o s with state := st, endReason := why, body := b } (begun l o s)) :
    TakenUp l s o.body.code o.urgent o.search held (begun l o s) := by
  obtain ⟨st, why, b, found, code, started, holds⟩ := h
  exact ⟨_, found, rfl, code, rfl, rfl, holds, fun halted => by simp [runs] at halted, fun _ => ⟨rfl, started⟩⟩

/-! ### The six requests -/

/-- Items asked for the targets of the fields, none captured yet. -/
theorem items_asked {reads : TargetField → Target → Prop} {fs : List TargetField} {gs : List Target}
    (targets : List.Forall₂ reads fs gs)
    {is : List Item} (asked : is.map Item.asked = (gs.map newItem).map Item.asked) : is.length = fs.length ∧
      ∀ (k : Nat) f i, fs[k]? = some f → is[k]? = some i → reads f i.target ∧ i.captures = 0 := by
  induction targets generalizing is with
  | nil =>
    rw [List.map_nil, List.map_nil, List.map_eq_nil_iff] at asked
    subst asked
    exact ⟨rfl, nofun⟩
  | @cons f g fs gs read _ ih =>
    cases is with
    | nil => cases asked
    | cons i is =>
      simp only [List.map_cons, List.cons.injEq] at asked
      obtain ⟨first, later⟩ := asked
      obtain ⟨length, each⟩ := ih later
      refine ⟨by simp [length], fun k f' i' hf hi => ?_⟩
      cases k with
      | zero =>
        cases hf
        cases hi
        obtain ⟨target, captures⟩ := Prod.mk.inj first
        exact ⟨target ▸ read, captures⟩
      | succ k => exact each k f' i' hf hi

section
variable {l : LinkId} {tag : Byte} {s : State} (listens : Listens l s) (few : openOf l s < 2) (room : s.jobs.slots.length < 6)
include listens few room

theorem loadRoll_accepted {lv : Levels} (empty : s.index.state = .empty)
    (film : s.transport.state = .empty → lv.filmPresent = true) (notThreading : s.transport.state ≠ .threading)
    (notRewinding : s.transport.state ≠ .rewinding) (free : rollJob s = none) :
    Accepted l tag s (exec (.loadRoll l tag lv) s) 0xB0 1 false false fun j u =>
      j.body = .load ∧ j.state = .queued ∧ u.arbiter.rollClaim = true :=
  accepted_of_request (c := .loadRoll l tag lv) (kind := 0x30) (r := .loadRoll) (o := .load) (s := takeLevels lv s) listens rfl rfl
    (by simp [Request.body, Request.params]) (by decide) (readBody_loadRoll tag) rfl
    (acceptCheck_load (s := takeLevels lv s) few room empty film notThreading notRewinding free)
    (takenUp_roll (o := .load) (s := takeLevels lv s) room rfl ⟨rfl, rfl, begun_claim rfl⟩)

theorem unloadRoll_accepted (filled : s.transport.state ≠ .empty) (ended : ∀ j ∈ s.jobs.slots, j.isOpen = false)
    (delivered : s.capture.ring = []) (answered : s.capture.outstanding = none) :
    Accepted l tag s (exec (.unloadRoll l tag) s) 0xB1 2 false false fun j u =>
      j.body = .unload ∧ j.state = .queued ∧ u.arbiter.rollClaim = true :=
  accepted_of_request (c := .unloadRoll l tag) (kind := 0x31) (r := .unloadRoll) (o := .unload) listens rfl rfl
    (by simp [Request.body, Request.params]) (by decide) (readBody_unloadRoll tag) rfl
    (acceptCheck_unload few room filled ended delivered answered) (takenUp_roll (o := .unload) room rfl ⟨rfl, rfl, begun_claim rfl⟩)

variable (filled : s.transport.state ≠ .empty) {reads : TargetField → Target → Prop}
  (hreads : ∀ f g, targetOf f = some g → reads f g)
include filled hreads

theorem seekFrame_accepted {flags : Byte} (low : flags.toNat < 2) {x : TargetField} (named : namedTarget x ≠ none) :
    Accepted l tag s (exec (.seekFrame l tag flags x) s) 0xB2 3 (flags.getLsbD 0) false fun j _ =>
      ∃ a r, j.body = .seek a r none none ∧ reads x a := by
  obtain ⟨a, ha⟩ := Option.ne_none_iff_exists'.mp named
  have target := hreads x a (targetOf_of_namedTarget ha)
  refine accepted_of_request (c := .seekFrame l tag flags x) (kind := 0x32) (r := .seekFrame flags x)
    (o := .seek (flags.getLsbD 0) a) listens rfl rfl (by simp [Request.body, Request.params]) (by decide)
    (readBody_seekFrame tag flags x) (by simp [checkRequest, low, ha])
    ((if_neg (slot_free few room)).trans (if_neg filled)) ?_
  cases runs : s.fault.halted with
  | true => exact takenUp_halted (o := .seek (flags.getLsbD 0) a) room runs ⟨a, none, rfl, target⟩
  | false =>
    refine takenUp_started (o := .seek (flags.getLsbD 0) a) runs ?_
    have starts : begun l (.seek (flags.getLsbD 0) a) s = seekTry (newNumber s) false (readied l (.seek (flags.getLsbD 0) a) s) := by
      rw [begun_starts rfl runs, startJob, openJob_insertJob l _ room]
      rfl
    rw [starts]
    obtain ⟨st, why, _, found, started, r, rfl⟩ := seekTry_moves (findJob_readied l (.seek (flags.getLsbD 0) a) room) rfl rfl rfl false
    exact ⟨st, why, _, found, rfl, fun _ => started, a, r, rfl, target⟩

theorem indexTo_accepted {y : TargetField} {a : Target} (named : targetOf y = some a) (notFrame : ∀ n, a ≠ .frame n) :
    Accepted l tag s (exec (.indexTo l tag 0 y) s) 0xB5 6 false false fun j _ =>
      ∃ b f n p, j.body = .indexTo b f n p ∧ reads y b := by
  have target := hreads y a named
  have check : checkRequest (.indexTo 0 y) = some (.job (.indexTo a)) := by
    cases a with
    | frame n => exact absurd rfl (notFrame n)
    | address b => simp [checkRequest, named]
    | rollEnd => simp [checkRequest, named]
  refine accepted_of_request (c := .indexTo l tag 0 y) (kind := 0x35) (r := .indexTo 0 y) (o := .indexTo a) listens rfl rfl
    (by simp [Request.body, Request.params]) (by decide) (readBody_indexTo tag 0 y) check
    ((if_neg (slot_free few room)).trans (if_neg filled)) ?_
  cases runs : s.fault.halted with
  | true => exact takenUp_halted (o := .indexTo a) room runs ⟨a, none, none, none, rfl, target⟩
  | false =>
    refine takenUp_started (o := .indexTo a) runs ?_
    have starts : begun l (.indexTo a) s = indexToTry (newNumber s) false (readied l (.indexTo a) s) := by
      rw [begun_starts rfl runs, startJob, openJob_insertJob l _ room]
      rfl
    rw [starts]
    obtain ⟨st, why, _, found, started, f, n, p, rfl⟩ := indexToTry_moves (findJob_readied l (.indexTo a) room) rfl rfl rfl false
    exact ⟨st, why, _, found, rfl, fun _ => started, a, f, n, p, rfl, target⟩

theorem fetch_accepted {flags : Byte} (low : flags.toNat < 4) {items : List TargetField} (some_ : 1 ≤ items.length)
    (fits : items.length ≤ 32) (named : ∀ f ∈ items, namedTarget f ≠ none) :
    Accepted l tag s (exec (.fetch l tag flags items) s) 0xB3 4 (flags.getLsbD 0) (flags.getLsbD 1) fun j _ =>
      ∃ is : List Item, j.body = .fetch is ∧ is.length = items.length ∧
        ∀ (k : Nat) f i, items[k]? = some f → is[k]? = some i → reads f i.target ∧ i.captures = 0 := by
  obtain ⟨gs, listed, targets⟩ := itemTargets_named hreads named
  have held {is : List Item} (asked : is.map Item.asked = (gs.map newItem).map Item.asked) := items_asked targets asked
  refine accepted_of_request (c := .fetch l tag flags items) (kind := 0x33) (r := .fetch flags items)
    (o := .fetch (flags.getLsbD 0) (flags.getLsbD 1) gs) listens rfl rfl ?_ (by decide) (readBody_fetch tag flags fits)
    (by simp [checkRequest, low, some_, fits, listed]) ((if_neg (slot_free few room)).trans (if_neg filled)) ?_
  · simp only [Request.body, Request.params, List.length_cons, putItems_length]
    omega
  cases runs : s.fault.halted with
  | true =>
    exact takenUp_halted (o := .fetch (flags.getLsbD 0) (flags.getLsbD 1) gs) room runs ⟨gs.map newItem, rfl, held rfl⟩
  | false =>
    refine takenUp_started (o := .fetch (flags.getLsbD 0) (flags.getLsbD 1) gs) runs ?_
    generalize order : JobOrder.fetch (flags.getLsbD 0) (flags.getLsbD 1) gs = o
    have body : o.body = .fetch (gs.map newItem) := by rw [← order]; rfl
    have starts : begun l o s = fetchChoose (newNumber s)
        (modifyItems (newNumber s) (fun is => is.map (retryItem false (readied l o s))) (readied l o s)) := by
      rw [begun_starts (by rw [← order]; rfl) runs, startJob, openJob_insertJob l _ room]
      dsimp only
      rw [newJob, body]
      rfl
    have tried := findJob_modifyItems_same (fun is => is.map (retryItem false (readied l o s))) (findJob_readied l o room)
    rw [Job.mapItems_fetch _ (by exact body) rfl] at tried
    obtain ⟨st, why, _, found, started, is, rfl, asked⟩ := fetchChoose_moves tried rfl rfl rfl
    rw [starts]
    refine ⟨st, why, _, found, by rw [body]; rfl, fun _ => started, is, rfl, held (asked.trans ?_)⟩
    simp [retryItem_asked]

theorem sweep_accepted {flags : Byte} (low : flags.toNat < 4) {x y : TargetField} {a b : Target} (hx : namedTarget x = some a)
    (hy : targetOf y = some b) (ordered : boundsOrdered a b = true) (resolved : s.fault.halted = true ∨ boundsReversed a b s = false) :
    Accepted l tag s (exec (.sweep l tag flags x y) s) 0xB4 5 false (flags.getLsbD 1) fun j u =>
      ∃ r, j.body = .sweep r ∧ reads x r.fromT ∧ reads y r.toT ∧ r.revisit = flags.getLsbD 0 ∧ r.captured = 0 ∧
        r.revisits = 0 ∧ r.overflow = false ∧
        (j.isOpen = true → flags.getLsbD 0 = true → u.capture.revisitOf (newNumber s) = some []) ∧
        (s.fault.halted = false → j.state = .queued ∨ j.state = .resolving ∨ j.state = .failed) ∧
        (s.fault.halted = false → j.state = .queued → r.fromFrame ≠ none ∧ r.endFrame ≠ none ∧ r.nextFrame = r.fromFrame ∧
          ∃ e, u.arbiter.entryOf (.job (newNumber s)) = some e ∧ e.kind = .run ∧ e.cls = .normal) ∧
        (j.state = .resolving → ∃ e, u.arbiter.entryOf (.job (newNumber s)) = some e ∧ e.kind = .index) := by
  have from_ := hreads x a (targetOf_of_namedTarget hx)
  have to_ := hreads y b hy
  refine accepted_of_request (c := .sweep l tag flags x y) (kind := 0x34) (r := .sweep flags x y)
    (o := .sweep (flags.getLsbD 0) (flags.getLsbD 1) a b) listens rfl rfl (by simp [Request.body, Request.params]) (by decide)
    (readBody_sweep tag flags x y) (by simp [checkRequest, low, hx, hy, ordered]) (acceptCheck_sweep few room filled resolved) ?_
  have listed : flags.getLsbD 0 = true →
      (insertJob l (.sweep (flags.getLsbD 0) (flags.getLsbD 1) a b) s).capture.revisitOf (newNumber s) = some [] :=
    fun on => insertJob_revisitOf l (o := .sweep (flags.getLsbD 0) (flags.getLsbD 1) a b) on s
  cases runs : s.fault.halted with
  | true =>
    refine takenUp_halted (o := .sweep (flags.getLsbD 0) (flags.getLsbD 1) a b) room runs
      ⟨_, rfl, from_, to_, rfl, rfl, rfl, rfl, fun _ on => ?_, nofun, nofun, nofun⟩
    rw [begun_halted rfl runs]
    exact listed on
  | false =>
    refine takenUp_started (o := .sweep (flags.getLsbD 0) (flags.getLsbD 1) a b) runs ?_
    have starts : begun l (.sweep (flags.getLsbD 0) (flags.getLsbD 1) a b) s =
        sweepTry (newNumber s) false (readied l (.sweep (flags.getLsbD 0) (flags.getLsbD 1) a b) s) := by
      rw [begun_starts rfl runs, startJob, openJob_insertJob l _ room]
      rfl
    obtain ⟨st, why, f, e, next_, found, tried⟩ := sweepTry_moves
      (findJob_readied l (.sweep (flags.getLsbD 0) (flags.getLsbD 1) a b) room) rfl rfl rfl rfl false
    rw [starts]
    refine ⟨st, why, _, found, rfl, fun other => ?_, _, rfl, from_, to_, rfl, rfl, rfl, rfl, fun open_ on => ?_, fun _ => ?_,
      fun _ queued => ?_, fun resolving => ?_⟩
    · simp [JobOrder.body, JobBody.code] at other
    · rcases tried with rfl | ⟨revisits, _⟩
      · cases open_
      · rw [Capture.revisitOf, revisits]
        exact listed on
    · rcases tried with rfl | ⟨_, ⟨rfl, _⟩ | ⟨rfl, _⟩⟩ <;> simp
    · rcases tried with rfl | ⟨_, ⟨rfl, bounds⟩ | ⟨rfl, _⟩⟩
      · cases queued
      · exact bounds
      · cases queued
    · rcases tried with rfl | ⟨_, ⟨rfl, _⟩ | ⟨rfl, entry⟩⟩
      · cases resolving
      · cases resolving
      · exact entry

end

end Sys2Proof.Machine

open Sys2Proof Sys2Proof.Machine

/-- Settles O32: each request's acceptance, its targets read by `reads_of_targetOf`. -/
theorem jobsAccepted : Obligations.JobsAccepted := by
  unfold Obligations.JobsAccepted
  intro l tag flags lv x y items s reads accepted listens few room hreads haccepted
  have targets (f : TargetField) (g : Target) (h : targetOf f = some g) : reads f g := (hreads f g).mpr (reads_of_targetOf h)
  refine ⟨fun empty film notThreading notRewinding free => ?_, fun filled ended delivered answered => ?_, fun filled low named => ?_,
    fun filled low some_ fits named => ?_, fun a b filled low hx hy ordered resolved => ?_, fun a filled named notFrame => ?_⟩
  · exact (haccepted _ _ _ _ _ _).mpr (loadRoll_accepted listens few room empty film notThreading notRewinding free)
  · exact (haccepted _ _ _ _ _ _).mpr (unloadRoll_accepted listens few room filled ended delivered answered)
  · exact (haccepted _ _ _ _ _ _).mpr (seekFrame_accepted listens few room filled targets low named)
  · exact (haccepted _ _ _ _ _ _).mpr (fetch_accepted listens few room filled targets low some_ fits named)
  · exact (haccepted _ _ _ _ _ _).mpr (sweep_accepted listens few room filled targets low hx hy ordered resolved)
  · exact (haccepted _ _ _ _ _ _).mpr (indexTo_accepted listens few room filled targets named notFrame)

end

section
/-! PROOFS. The fault record: a first fault, a later one, and STOP held at reset. -/

namespace Sys2Proof.Machine

/-! ### The record as a report leaves it (R159, R160) -/

/-- A first fault sets the record, and what the halt does after it leaves the record alone. -/
theorem reportFault_first_fault {s : State} (h : s.fault.halted = false) (c : Cause) :
    (reportFault c s).fault = FaultRecord.first c s := by
  rw [reportFault_first h]
  exact fault_of_still (s := s.onFault fun _ => FaultRecord.first c s) (by simp [halted, FaultRecord.first])

/-- A later fault takes the cause's place where it outranks it, and sets later_fault in either case. -/
theorem reportFault_later_fault {s : State} {old : Cause} (h : s.fault.halted = true) (cause : s.fault.cause = some old) (c : Cause) :
    (reportFault c s).fault =
      if c.rank < old.rank then { s.fault with cause := some c, position := some s.transport.position, later := true }
      else { s.fault with later := true } := by
  have outranks : (s.fault.cause.all fun old => c.rank < old.rank) = decide (c.rank < old.rank) := by rw [cause]; rfl
  unfold reportFault
  rw [if_pos h]
  by_cases severe : c.rank < old.rank
  · rw [if_pos severe, if_pos (outranks.trans (decide_eq_true severe))]
    refine fault_of_still (s := s.onFault fun f => { f with cause := some c, position := some s.transport.position, later := true }) ?_
    rw [breakFilm_still]
    split <;> (simp only [slacken_still, applyFate_still]; rfl)
  · rw [if_neg severe, if_neg (by simpa [outranks] using severe)]
    rfl

/-- The rank of a cause is its place in the order of severity (8.1). -/
theorem Cause.rank_eq_idxOf (c : Cause) :
    c.rank = ([.filmBreak, .capstanStall, .tensionRange, .lensFault, .operatorStop] : List Cause).idxOf c + 1 := by
  cases c <;> rfl

/-! ### The detectors (R11, R22 to R25, R76, R77) -/

/-- The fault record that a row's own effect leaves stands after the rest of the step. -/
theorem Settles.fault {c : Instr} {s : State} {r : FaultRecord} (h : Settles c s fun u => u.fault = r) :
    ∃ t, exec c s = .next t ∧ t.fault = r := by
  obtain ⟨u, effect, fault⟩ := h
  exact ⟨_, effect, (settle_fault_eq u).trans fault⟩

/-- The states in which a low tension is a break of the film, while the part is not HALTED. -/
theorem breakWatched_of_state {s : State} (h : s.transport.state = .referencing ∨ s.transport.state = .ready ∨
    s.transport.state = .moving ∨ s.transport.state = .tensioning ∨ s.transport.state = .rewinding) : breakWatched s = true := by
  rcases h with h | h | h | h | h <;> simp [breakWatched, h]

theorem tensionEffect_breakLow (side : Side) {s : State} (h : breakWatched s = true) :
    tensionEffect side .breakLow s = reportFault .filmBreak s := by
  simp [tensionEffect, h]

theorem filmOutEffect_threaded {s : State} (h : s.transport.state = .referencing ∨ s.transport.state = .ready ∨
    s.transport.state = .moving ∨ s.transport.state = .tensioning ∨ s.transport.state = .resting) :
    filmOutEffect s = reportFault .filmBreak s := by
  rcases h with h | h | h | h | h <;> simp [filmOutEffect, h]

/-- With the supply side out of band tension was not reached when its limit ran out. -/
theorem tensionRunsOut_supply {s : State} (h : s.pins.supply ≠ .inBand) : tensionRunsOut s = reportFault .tensionRange s := by
  simp [tensionRunsOut, bothInBand, h]

theorem stallTaken_of_state {s : State} (h : s.focus.state = .homing ∨ s.focus.state = .slewing ∨ s.focus.state = .searching) :
    stallTaken s = true := by
  rcases h with h | h | h <;> simp [stallTaken, h]

theorem lensFaults_fault {s : State} (first : s.fault.halted = false) : (lensFaults s).fault = FaultRecord.first .lensFault s := by
  have base : (lensFails s).still.base = s.still.base := by simp
  have position : (lensFails s).transport.position = s.transport.position := congrArg Base.position base
  rw [lensFaults, reportFault_first_fault ((congrArg (fun b => b.fault.halted) base).trans first), FaultRecord.first, FaultRecord.first,
    position]

/-! ### STOP held at reset (R158) -/

theorem exec_powerOnReset_stop {lv : Levels} (h : lv.stop = true) (s : State) :
    exec (.powerOnReset lv) s = .next (serviceLinks (reportFault .operatorStop (State.powered lv s))) := by
  simp [exec, execPowerOnReset, h]

theorem serviceLinks_fault (s : State) : (serviceLinks s).fault = s.fault := fault_of_still (by simp)

theorem serviceLinks_transport (s : State) : (serviceLinks s).transport = s.transport := by
  rw [show serviceLinks s = _ from serviceLinks_only s]

/-- The transport of a part that comes up halted: in neither state of a reset is a reel held. -/
theorem powered_stop_transport (lv : Levels) (s : State) :
    (reportFault .operatorStop (State.powered lv s)).transport.state = .halted ∧
      (reportFault .operatorStop (State.powered lv s)).transport.tension = .slack := by
  have first : (State.powered lv s).fault.halted = false := rfl
  have notHeld : heldAtHalt (State.powered lv s).transport.state = false := by
    cases film : lv.filmPresent <;> simp [State.powered, State.afterReset, Transport.afterReset, heldAtHalt, film]
  obtain ⟨t, -, halt⟩ := halted_transport .operatorStop (State.powered lv s)
  obtain ⟨r, b, transport, -⟩ := reportFault_transport first .operatorStop
  rw [transport, halt, notHeld]
  exact ⟨rfl, rfl⟩

end Sys2Proof.Machine

open Sys2Proof Sys2Proof.Machine

/-- Settles O37: the later report's record, rank by place in the order of severity. -/
theorem laterFaultRanked : Obligations.LaterFaultRanked := by
  unfold Obligations.LaterFaultRanked
  intro c old s h cause
  have record := reportFault_later_fault h cause c
  have newer := c.rank_eq_idxOf
  have older := old.rank_eq_idxOf
  refine ⟨?_, ?_, fun severe => ?_, fun mild => ?_⟩
  · rw [record]; split <;> exact h
  · rw [record]; split <;> rfl
  · rw [record, if_pos (by omega)]
    exact ⟨rfl, rfl⟩
  · rw [record, if_neg (by omega)]
    exact ⟨cause, rfl⟩

/-- Settles O36: each detector's test holds, and its row's own effect is the report. -/
theorem firstFaultRecorded : Obligations.FirstFaultRecorded := by
  unfold Obligations.FirstFaultRecorded
  intro s records first hrecords
  have reports {c : Instr} {why : Cause} (h : Settles c s fun u => u.fault = FaultRecord.first why s) : records c why :=
    (hrecords c why).mpr h.fault
  refine ⟨fun limit => ?_, fun limit => ?_, fun limit => ?_, fun state limit outOfBand => ?_, ?_, fun state count => ?_,
    fun state recal => ?_, fun state side => ?_, fun state => ?_⟩
  · exact reports (.of_taken rfl limit (reportFault_first_fault first _))
  · exact reports (.of_taken rfl limit (reportFault_first_fault first _))
  · exact reports (.of_taken rfl limit (reportFault_first_fault first _))
  · refine reports (.of_taken rfl (by simp [limit, state]) ?_)
    rw [tensionRunsOut_supply outOfBand, reportFault_first_fault first]
  · exact reports ⟨_, rfl, reportFault_first_fault (s := stopIn s) first _⟩
  · exact reports (.of_taken rfl (by simp [homingSpent, state, count, Config.homingSteps]) (lensFaults_fault first))
  · refine reports (.of_taken rfl (stallTaken_of_state state) ?_)
    rw [Machine.lensStalls, if_pos recal, lensFaults_fault first]
  · refine reports ⟨_, rfl, ?_⟩
    rw [tensionEffect_breakLow side (breakWatched_of_state (s := putReading side .breakLow s) state)]
    exact reportFault_first_fault (s := putReading side .breakLow s) first _
  · refine reports ⟨_, rfl, ?_⟩
    rw [filmOutEffect_threaded (s := filmOut s) state]
    exact reportFault_first_fault (s := filmOut s) first _

/-- Settles O4: the STOP level is taken as a first fault of the reset state, where no reel is held. -/
theorem resetWithStopHalts : Obligations.ResetWithStopHalts := by
  unfold Obligations.ResetWithStopHalts
  intro lv s stop
  obtain ⟨state, tension⟩ := powered_stop_transport lv s
  refine ⟨_, exec_powerOnReset_stop stop s, ?_, ?_, ?_⟩
  · rw [serviceLinks_fault]
    exact reportFault_first_fault (s := State.powered lv s) rfl .operatorStop
  · rw [serviceLinks_transport, state]
  · rw [serviceLinks_transport, tension]

end

section
/-! PROOFS. Every command completes, and none touches the waiting commands. -/

namespace Sys2Proof.Machine

theorem pending_of_given {s t : State} (h : t.still.base.core.given = s.still.base.core.given) : t.pending = s.pending :=
  congrArg Given.pending h

theorem pending_of_core {s t : State} (h : t.still.base.core = s.still.base.core) : t.pending = s.pending :=
  pending_of_given (congrArg Fixed.given h)

theorem pending_of_base {s t : State} (h : t.still.base = s.still.base) : t.pending = s.pending := pending_of_core (congrArg Base.core h)

theorem settle_pending (s : State) : (settle s).pending = s.pending := pending_of_base (settle_base s)

/-- An event that keeps the waiting commands, taken or not. -/
theorem taken_pending {test : Bool} {act : State → State} {s : State} (h : (act s).still.base.core = s.still.base.core) :
    (taken test act s).pending = s.pending := pending_of_core (taken_keeps Base.core h)

theorem requestArrives_pending (l : LinkId) (tag : Byte) (r : Request) (s : State) : (requestArrives l tag r s).pending = s.pending :=
  pending_of_given (requestArrives_given l tag r s)

theorem serviceLinks_pending (s : State) : (serviceLinks s).pending = s.pending := pending_of_base (by simp)

/-- A row of a link keeps the waiting commands; so does the reset. -/
theorem linkRow_keeps_pending {c : Instr} (row : isMachineEvent c = false) (s : State) : ∃ t, exec c s = .next t ∧ t.pending = s.pending := by
  have received {t : State} (h : t.still.base.core.given = s.still.base.core.given) : (serviceLinks t).pending = s.pending :=
    (serviceLinks_pending t).trans (pending_of_given h)
  cases c <;> cases row <;> refine ⟨_, rfl, ?_⟩
  case powerOnReset lv =>
    split
    · exact (serviceLinks_pending _).trans (pending_of_core (s := State.powered lv s) (reportFault_core _ _))
    · rfl
  case unknownRequest l tag kind rest => exact received (frameArrives_given l _ s)
  case hold l => exact received (receiveByte_given l _ s)
  case resume l => exact received (receiveByte_given l _ s)
  case strayByte l b => exact received (receiveByte_given l b s)
  case frameReceived l body check => exact received (receiveBytes_given l _ s)
  case linkBreak l => exact pending_of_given (beginBreak_given l s)
  case linkBreakEnd l => exact received (by rw [endBreak_still])
  case transmissionEnd l => exact pending_of_given (endTransmission_given l s)
  all_goals exact requestArrives_pending _ _ _ _

/-- A row of the machine side keeps the waiting commands: the input levels it changes are no part of them. -/
theorem event_keeps_pending {c : Instr} (row : isMachineEvent c = true) (s : State) : ∃ t, exec c s = .next t ∧ t.pending = s.pending := by
  cases c <;> cases row <;> refine ⟨_, rfl, ?_⟩
  case filmPresentClear => exact (settle_pending _).trans (pending_of_core (s := filmOut s) (filmOutEffect_core _))
  case stopRise => exact (settle_pending _).trans (pending_of_core (s := stopIn s) (reportFault_core _ _))
  case tensionChange side r => exact (settle_pending _).trans (pending_of_core (s := putReading side r s) (tensionEffect_core side r _))
  case homeSwitchSet => exact taken_pending (s := putHomeSwitch true s) (by simp)
  case lensStep leaves =>
    cases leaves with
    | false => exact taken_pending (s := s) (by simp)
    | true => exact taken_pending (s := putHomeSwitch false s) (by simp)
  case cameraReadyRise => exact settle_pending (readyRises s)
  case cameraReadyFall => rfl
  case highEdge => exact pending_of_core (by simp)
  case markOn => exact pending_of_core (by simp)
  case markOff => exact pending_of_core (by simp)
  case spliceOn => exact pending_of_core (by simp)
  case spliceOff => exact pending_of_core (by simp)
  all_goals exact taken_pending (by simp)

end Sys2Proof.Machine

open Sys2Proof Sys2Proof.Machine

/-- Settles O2: the rows of the machine side, and the rest. -/
theorem everyCommandCompletes : Obligations.EveryCommandCompletes := by
  unfold Obligations.EveryCommandCompletes
  intro c s
  cases row : isMachineEvent c with
  | true => exact event_keeps_pending row s
  | false => exact linkRow_keeps_pending row s

end

section
/-! SUPPORT. The transport's own place in the queue, and blocked: what jobs and the other requesters leave of them (R117, R122, R133). -/

namespace Sys2Proof.Machine

/-- The class and kind of the entry that the transport holds, and blocked. -/
def Arbiter.reReference (a : Arbiter) : Option (QClass × QKind) × Bool :=
  ((a.entryOf .transport).map fun e => (e.cls, e.kind), a.blocked)

/-! ### Entries of the other requesters -/

theorem Arbiter.reReference_place {e : QEntry} (h : e.requester ≠ .transport) (a : Arbiter) :
    (a.place e).reReference = a.reReference := by
  have last (n m : Nat) : [{ e with arrival := n, skip := m }].find? (fun x => x.requester == .transport) = none := by simp [h]
  unfold Arbiter.place Arbiter.reReference Arbiter.entryOf
  dsimp only
  split
  · simp [List.find?_append, last]
  · simp [renumber, List.find?_map, List.find?_append, Function.comp_def, last]

theorem Arbiter.reReference_remove {r : Requester} (h : r ≠ .transport) (a : Arbiter) : (a.remove r).reReference = a.reReference := by
  have own : (fun e : QEntry => decide ((e.requester != r) = true ∧ (e.requester == .transport) = true)) = fun e => e.requester == .transport := by
    funext e
    by_cases he : e.requester = .transport <;> simp [he, h.symm]
  simp only [Arbiter.reReference, Arbiter.remove, Arbiter.entryOf, List.find?_filter, own]

theorem Arbiter.reReference_modifyEntry {r : Requester} (h : r ≠ .transport) {f : QEntry → QEntry}
    (hf : ∀ e, (f e).requester = e.requester) (a : Arbiter) : (a.modifyEntry r f).reReference = a.reReference := by
  have same (e : QEntry) (he : e.requester = .transport) : (if e.requester = r then f e else e) = e :=
    if_neg (he ▸ h.symm)
  have own : (fun e : QEntry => (if e.requester = r then f e else e).requester == .transport) = fun e => e.requester == .transport := by
    funext e
    split <;> simp [hf]
  simp only [Arbiter.reReference, Arbiter.modifyEntry, Arbiter.entryOf, List.find?_map, Function.comp_def, own, Option.map_map]
  refine congrArg (·, a.blocked) (Option.map_congr fun e he => ?_)
  rw [same e (by simpa using List.find?_some he)]

@[simp] theorem Arbiter.reReference_dropInterrupted (a : Arbiter) : a.dropInterrupted.reReference = a.reReference := by
  unfold Arbiter.dropInterrupted; split <;> rfl

/-! ### Stops and tests -/

@[simp] theorem clearCurrent_reReference (s : State) : (clearCurrent s).arbiter.reReference = s.arbiter.reReference := by
  simp only [clearCurrent, State.onArbiter_arbiter, Arbiter.clearCurrent]; split <;> rfl
@[simp] theorem askStop_reReference (why : StopCause) (s : State) : (askStop why s).arbiter.reReference = s.arbiter.reReference := by
  unfold askStop; (repeat' split) <;> simp [Arbiter.reReference, Arbiter.entryOf]
@[simp] theorem dropCurrent_reReference (s : State) : (dropCurrent s).arbiter.reReference = s.arbiter.reReference := by
  unfold dropCurrent
  (repeat' split)
  · rfl
  · simp
  · simp [Arbiter.reReference, Arbiter.entryOf]
@[simp] theorem suspendTest_reReference (s : State) : (suspendTest s).arbiter.reReference = s.arbiter.reReference := by
  unfold suspendTest; (repeat' split) <;> simp
@[simp] theorem yieldTest_reReference (s : State) : (yieldTest s).arbiter.reReference = s.arbiter.reReference := by
  unfold yieldTest; (repeat' split) <;> simp

/-! ### Submissions and withdrawals of the other requesters -/

theorem submit_reReference {r : Requester} (h : r ≠ .transport) (cls : QClass) (k : QKind) (frame : Option Nat) (s : State) :
    (submit r cls k frame s).arbiter.reReference = s.arbiter.reReference := by
  unfold submit
  dsimp only
  split
  · rw [yieldTest_reReference]
    split
    · rw [suspendTest_reReference]; exact Arbiter.reReference_place h _
    · exact Arbiter.reReference_place h _
  · have changed : (s.arbiter.modifyEntry r fun e =>
        { e with cls := cls, kind := k, frame := frame, start := startPosition r k frame s }).reReference = s.arbiter.reReference :=
      Arbiter.reReference_modifyEntry h
        (f := fun e => { e with cls := cls, kind := k, frame := frame, start := startPosition r k frame s }) (fun _ => rfl) _
    rw [yieldTest_reReference]
    (repeat' split) <;> simp [changed]

theorem withdraw_reReference {r : Requester} (h : r ≠ .transport) (s : State) :
    (withdraw r s).arbiter.reReference = s.arbiter.reReference := by
  have removed : (if s.arbiter.interrupted = some r then (s.arbiter.remove r).dropInterrupted else s.arbiter.remove r).reReference =
      s.arbiter.reReference := by
    split <;> simp [Arbiter.reReference_remove h]
  unfold withdraw
  dsimp only
  (repeat' split) <;> simp [removed]

@[simp] theorem withdrawRescan_reReference (s : State) : (withdrawRescan s).arbiter.reReference = s.arbiter.reReference := by
  unfold withdrawRescan
  split
  · rfl
  · rw [State.onArbiter_arbiter, Arbiter.reReference_dropInterrupted, withdraw_reReference (by simp)]
    rfl

theorem syncReadAhead_reReference (s : State) : (syncReadAhead s).arbiter.reReference = s.arbiter.reReference := by
  unfold syncReadAhead
  split
  · exact submit_reReference (by simp) _ _ _ s
  · exact withdraw_reReference (by simp) s
  · rfl

/-! ### Jobs -/

@[simp] theorem modifyJob_arbiter (n : Nat) (f : Job → Job) (s : State) : (modifyJob n f s).arbiter = s.arbiter := rfl
@[simp] theorem setJobState_arbiter (n : Nat) (st : JobState) (s : State) : (setJobState n st s).arbiter = s.arbiter := rfl
@[simp] theorem modifySweep_arbiter (n : Nat) (f : SweepRec → SweepRec) (s : State) : (modifySweep n f s).arbiter = s.arbiter := rfl
@[simp] theorem modifyItems_arbiter (n : Nat) (f : List Item → List Item) (s : State) : (modifyItems n f s).arbiter = s.arbiter := rfl
@[simp] theorem modifyItem_arbiter (n k : Nat) (f : Item → Item) (s : State) : (modifyItem n k f s).arbiter = s.arbiter := rfl

@[simp] theorem submitJob_reReference (n : Nat) (k : QKind) (frame : Option Nat) (s : State) :
    (submitJob n k frame s).arbiter.reReference = s.arbiter.reReference := by
  unfold submitJob; split
  · rfl
  · exact submit_reReference (by simp) _ _ _ s
@[simp] theorem ensureIndex_reReference (n : Nat) (s : State) : (ensureIndex n s).arbiter.reReference = s.arbiter.reReference := by
  unfold ensureIndex; split <;> simp
@[simp] theorem endJob_reReference (n : Nat) (st : JobState) (why : EndReason) (s : State) :
    (endJob n st why s).arbiter.reReference = s.arbiter.reReference := by
  cases open_ : openJob n s with
  | none => rw [endJob, open_]
  | some j =>
    rw [endJob_part (fun s => s.arbiter.reReference) (fun _ _ _ => rfl) (fun _ _ => rfl) open_]
    exact withdraw_reReference (by simp) _
@[simp] theorem fetchChoose_reReference (n : Nat) (s : State) : (fetchChoose n s).arbiter.reReference = s.arbiter.reReference := by
  unfold fetchChoose; (repeat' split) <;> simp
@[simp] theorem seekTry_reReference (n : Nat) (final : Bool) (s : State) :
    (seekTry n final s).arbiter.reReference = s.arbiter.reReference := by
  unfold seekTry; (repeat' split) <;> simp
@[simp] theorem indexToTry_reReference (n : Nat) (final : Bool) (s : State) :
    (indexToTry n final s).arbiter.reReference = s.arbiter.reReference := by
  unfold indexToTry; (repeat' split) <;> simp
@[simp] theorem sweepTry_reReference (n : Nat) (final : Bool) (s : State) :
    (sweepTry n final s).arbiter.reReference = s.arbiter.reReference := by
  unfold sweepTry; dsimp only; (repeat' split) <;> simp
@[simp] theorem startJob_reReference (n : Nat) (s : State) : (startJob n s).arbiter.reReference = s.arbiter.reReference := by
  unfold startJob; (repeat' split) <;> simp
@[simp] theorem startWaiting_reReference (n : Nat) (s : State) : (startWaiting n s).arbiter.reReference = s.arbiter.reReference := by
  unfold startWaiting; (repeat' split) <;> simp

/-! ### Arbitration restarts (R127, R133, R169) -/

/-- A request for a REFERENCE that the transport did not hold: its entry is placed, and blocked cleared. -/
theorem askReference_placed {s : State} (lost : s.transport.reference = .lost) (leader : s.transport.leaderMissing = false)
    (film : threaded s = true) (none_held : s.arbiter.entryOf .transport = none) :
    (askReference s).arbiter.reReference = (some (.internal, .reference), false) := by
  have free : ((withdrawRescan s).arbiter.entryOf .transport).isSome = false := by
    have kept := congrArg Prod.fst (withdrawRescan_reReference s)
    simpa [Arbiter.reReference, none_held] using kept
  obtain ⟨e, held, kind, cls, -⟩ := submit_entry .transport .internal .reference none (withdrawRescan s)
  unfold askReference
  rw [if_pos ⟨lost, by simp [leader], film⟩]
  simp only [free, Bool.false_eq_true, if_false]
  exact congrArg (fun o : Option QEntry => (o.map fun e => (e.cls, e.kind), false)) held |>.trans (by rw [Option.map_some, cls, kind])

theorem readAheadWanted_of_resting {s : State} (state : s.transport.state = .resting) (on : s.transport.profile.readAhead = true)
    (growing : s.index.state = .growing) : readAheadWanted s = true := by
  simp [readAheadWanted, state, on, growing]

/-- With READ_AHEAD placed where it is due, an entry waits: the READ_AHEAD, or one that is not withdrawn with it. -/
theorem syncReadAhead_waits {s : State} (h : s.arbiter.queue ≠ [] ∧ (s.arbiter.entryOf .arbiter ≠ none → readAheadWanted s = true) ∨
    readAheadWanted s = true) : (syncReadAhead s).arbiter.queue ≠ [] := by
  have waits {r : Requester} {u : State} {e : QEntry} (held : u.arbiter.entryOf r = some e) : u.arbiter.queue ≠ [] :=
    List.ne_nil_of_mem (List.mem_of_find?_eq_some held)
  unfold syncReadAhead
  split
  · obtain ⟨e, held, -⟩ := submit_entry .arbiter .background .readAhead none s
    exact waits held
  · next held unwanted => simp [held, unwanted] at h
  · cases held : s.arbiter.entryOf .arbiter with
    | none =>
      cases wanted : readAheadWanted s with
      | true => simp_all
      | false => simpa [held, wanted] using h
    | some e => exact waits held

theorem syncReadAhead_asks (s : State) : Asks s (syncReadAhead s) := by
  unfold syncReadAhead
  split
  · exact submit_asks _ _ _ _ s
  · exact withdraw_asks (by simp) s
  · exact .refl s

/-- In RESTING with reference LOST and a motion waiting, the REFERENCE is placed before the waiting jobs start, and stays (R133). -/
theorem restart_reReference {s : State} (state : s.transport.state = .resting) (lost : s.transport.reference = .lost)
    (leader : s.transport.leaderMissing = false) (none_held : s.arbiter.entryOf .transport = none)
    (waits : (syncReadAhead (setBlocked false s)).arbiter.queue ≠ []) :
    (restart s).arbiter.reReference = (some (.internal, .reference), false) := by
  have coast : (syncReadAhead (setBlocked false s)).coast = s.coast := by simp
  have kept := congrArg Prod.fst (syncReadAhead_reReference (setBlocked false s))
  have reference := (syncReadAhead_asks (setBlocked false s)).reference.trans lost
  have state' := (congrArg (·.motion.state) coast).trans state
  have leader' := (congrArg (·.motion.leaderMissing) coast).trans leader
  unfold restart
  generalize syncReadAhead (setBlocked false s) = u at *
  have free : u.arbiter.entryOf .transport = none := by
    have before : (setBlocked false s).arbiter.entryOf .transport = none := none_held
    simpa [Arbiter.reReference, before] using kept
  have state' : u.transport.state = .resting := state'
  have asks : u.transport.state = .resting ∧ (!u.arbiter.queue.isEmpty) = true := ⟨state', by simpa using waits⟩
  dsimp only
  rw [if_pos asks, foldl_keeps (fun s => s.arbiter.reReference) fun s n => startWaiting_reReference n s]
  exact askReference_placed reference leader' (by simp [threaded, state']) free

end Sys2Proof.Machine

end

section
/-! SUPPORT. The film-break cut of the index (R72, R53). -/

namespace Sys2Proof.Machine

/-- The first entry that reaches a threshold, all before it below (R72). -/
theorem firstReaching_reached {th : Int} {es : List Entry} {k : Nat} {e : Entry} (at_ : es[k]? = some e) (reaches : th ≤ e.high)
    (below : ∀ (i : Nat) x, i < k → es[i]? = some x → (x.high : Int) < th) (j : Nat) : firstReaching th j es = some (j + k, e) := by
  induction es generalizing k j with
  | nil => simp at at_
  | cons x xs ih =>
    cases k with
    | zero =>
      cases at_
      simp [firstReaching, reaches]
    | succ k =>
      have first : (x.high : Int) < th := below 0 x (Nat.succ_pos k) rfl
      rw [firstReaching, if_neg (by omega), ih at_ (fun i y hi hy => below (i + 1) y (by omega) hy) (j + 1)]
      congr 2
      omega

theorem firstReaching_below {th : Int} {es : List Entry} (below : ∀ e ∈ es, (e.high : Int) < th) (j : Nat) :
    firstReaching th j es = none := by
  induction es generalizing j with
  | nil => rfl
  | cons x xs ih =>
    have first := below x List.mem_cons_self
    rw [firstReaching, if_neg (by omega), ih (fun e he => below e (List.mem_cons_of_mem x he))]

/-- A segment that the cut leaves with fewer than 256 entries is unverified. -/
theorem cutSegments_short {count : Nat} {segs : List Segment} {i : Nat} {sg : Segment} (k : Nat)
    (at_ : (cutSegments count k segs)[i]? = some sg) (short : count < 256 * (k + i + 1)) : sg = {} := by
  induction segs generalizing i k with
  | nil => simp [cutSegments] at at_
  | cons x xs ih =>
    cases i with
    | zero =>
      rw [cutSegments, if_pos (show count < Config.segmentSize * (k + 1) from short)] at at_
      exact (Option.some.inj at_).symm
    | succ i => exact ih (k + 1) at_ (by omega)

section
variable {th : Int} {s : State}

/-- The cut at the first entry that reaches the threshold. -/
theorem filmBreakCut_reached {k : Nat} {e : Entry} (h : firstReaching th 0 s.index.entries = some (k, e)) :
    (filmBreakCut th s).index.entries = s.index.entries.take k ∧ (filmBreakCut th s).index.frontier = e.low := by
  unfold filmBreakCut
  rw [h]
  exact ⟨rfl, rfl⟩

/-- With every entry below the threshold the frontier alone is held to it. -/
theorem filmBreakCut_below (h : firstReaching th 0 s.index.entries = none) :
    (filmBreakCut th s).index.entries = s.index.entries ∧
      ((filmBreakCut th s).index.frontier : Int) = max 0 (min (s.index.frontier : Int) th) := by
  have frontier : (filmBreakCut th s).index.frontier = (min (s.index.frontier : Int) th).toNat := by
    unfold filmBreakCut
    rw [h]
    rfl
  refine ⟨?_, by omega⟩
  unfold filmBreakCut
  rw [h]
  rfl

theorem filmBreakCut_segments : ∃ segs,
    (filmBreakCut th s).index.segments = cutSegments (filmBreakCut th s).index.entries.length 0 segs := by
  unfold filmBreakCut
  split <;> exact ⟨_, rfl⟩

theorem filmBreakCut_mode : (filmBreakCut th s).tracker.mode = s.tracker.mode := by
  unfold filmBreakCut
  split <;> rfl

theorem filmBreakCut_transport : (filmBreakCut th s).transport = s.transport := by
  unfold filmBreakCut
  split <;> rfl

end

end Sys2Proof.Machine

end

section
/-! PROOFS. CLEAR_FAULT: its checks, and what an accepted clear leaves (R167 to R169). -/

namespace Sys2Proof.Machine

/-! ### The request -/

theorem readBody_clearFault (tag : Byte) : readBody (Request.clearFault.body tag) = some (tag, .clearFault) := by
  simp [Request.body, Request.kind, Request.params, readBody, readParams, bare]

theorem exec_clearFault {l : LinkId} {s : State} (h : Listens l s) (tag : Byte) (lv : Levels) :
    exec (.clearFault l tag lv) s = .next (replied l 0x8D tag (clearFault (takeLevels lv s)).result
      (clearFault (takeLevels lv s)).data (clearFault (takeLevels lv s)).state) :=
  exec_request (c := .clearFault l tag lv) (kind := 0x0D) (o := .clearFault) (s' := takeLevels lv s) h rfl rfl
    (by simp [Request.body, Request.params]) (by decide) (readBody_clearFault tag) rfl

section
variable {s : State}

theorem clearFault_refused {r : Result} (h : clearCheck s = r) (refused : r ≠ .ok) :
    clearFault s = { state := s, result := r, data := faultBytes s.fault } := by
  unfold clearFault
  rw [h]
  split
  · exact absurd rfl refused
  · rfl

/-! ### The checks (R167) -/

theorem clearCheck_running (h : s.fault.halted = false) : clearCheck s = .wrongState := by simp [clearCheck, h]

variable (halted : s.fault.halted = true)
include halted

theorem clearCheck_stop (stop : s.pins.levels.stop = true) : clearCheck s = .conditionPresent := by simp [clearCheck, halted, stop]

variable (free : s.pins.levels.stop = false)
include free

theorem clearCheck_film (broken : s.fault.cause = some .filmBreak) (out : s.pins.levels.filmPresent = false) :
    clearCheck s = .conditionPresent := by simp [clearCheck, halted, free, broken, out]

/-- A lens off its home switch refuses, whatever becomes of the check for film before it. -/
theorem clearCheck_lens (faulted : s.focus.state = .faulted) (away : s.pins.levels.homeSwitch = false) :
    clearCheck s = .conditionPresent := by
  simp [clearCheck, halted, free, homeReachable, faulted, away]

variable (film : s.fault.cause = some .filmBreak → s.pins.levels.filmPresent = true)
  (home : s.focus.state ≠ .faulted ∨ s.pins.levels.homeSwitch = true)
include film home

/-- Past the other checks a FILM_BREAK waits for its captures. -/
theorem clearCheck_captures : clearCheck s =
    if s.fault.cause = some .filmBreak ∧ (!s.capture.ring.isEmpty || s.capture.answerOutstanding) then .busy else .ok := by
  have reachable : homeReachable s = true := by rcases home with lens | switch <;> simp [homeReachable, *]
  have threaded : ¬ (s.fault.cause = some .filmBreak ∧ (!s.pins.levels.filmPresent) = true) := fun ⟨broken, out⟩ => by
    simp [film broken] at out
  rw [clearCheck, if_neg (by simp [halted]), if_neg (by simp [free]), if_neg threaded, if_neg (by simp [reachable])]

end

/-- A record in the ring, or a trigger outstanding (R167). -/
theorem capturesHeld_iff {c : Capture} : (!c.ring.isEmpty || c.answerOutstanding) = true ↔ c.ring ≠ [] ∨ c.outstanding ≠ none := by
  simp [Capture.answerOutstanding, Option.isSome_iff_ne_none]

/-! ### The reference as the transport leaves HALTED (R169) -/

theorem setReference_reference (r : Reference) (s : State) : (setReference r s).transport.reference = r := by
  by_cases lost : r = .lost
  · subst lost
    rcases setReference_lost_transport s with same | stopped
    · rw [same]
    · rw [stopped, Transport.stopped]
      split <;> rfl
  · rw [setReference_transport lost]

/-- Out of INDEXING a loss of reference leaves the index as it is. -/
theorem loseReference_index {s : State} (mode : s.tracker.mode ≠ .indexing) : (loseReference s).index = s.index := by
  have idle : (setMode .idle s).index = s.index := by
    unfold setMode
    rw [if_neg mode]
    split <;> rfl
  have film : (stopForLoss (lossTold s)).film = (lossTold s).film := stopForLoss_film _
  have told : (lossTold s).index = s.index := (index_of_film_eq (withdrawRescan_film (setMode .idle s))).trans idle
  have closed : (lossTold s).tracker.rescan = none := congrArg Tracker.rescan (tracker_of_film_eq (withdrawRescan_film (setMode .idle s)))
  have stopped := (index_of_film film).trans told
  rcases loseReference_told s with result | result
  · rw [result, stopped]
  · rw [result, index_of_film (askReference_film (by rw [tracker_of_film film, closed])), stopped]

theorem setReference_index (r : Reference) {s : State} (mode : s.tracker.mode ≠ .indexing) : (setReference r s).index = s.index := by
  have told : ((if s.transport.reference = .exact then abandonSearch else id) (putReference r s)).film = s.film := by split <;> simp
  unfold setReference
  split
  · rfl
  · cases r with
    | lost => exact (loseReference_index (by rw [tracker_of_film told]; exact mode)).trans (index_of_film told)
    | exact => exact index_of_film told
    | drifted => exact index_of_film told

theorem clearedReference_other {c : Option Cause} (notBreak : c ≠ some .filmBreak) (notStall : c ≠ some .capstanStall) (r : Reference) :
    clearedReference c r = if r = .lost then .lost else .drifted := by
  unfold clearedReference
  split
  · exact absurd rfl notBreak
  · exact absurd rfl notStall
  · rfl

/-! ### An accepted clear (R168) -/

/-- After the cut, the fault record cleared and its change told. -/
def recordCleared (s : State) : State := raise .fault ((clearCut s).onFault fun _ => FaultRecord.clear)

/-- An accepted clear before arbitration restarts. -/
def haltLifted (s : State) : State := clearLens (leaveHalt s.fault.cause (recordCleared s))

theorem clearFault_accepted {s : State} (h : clearCheck s = .ok) :
    clearFault s = { state := settleBlocks (restart (haltLifted s)), result := .ok, data := faultBytes s.fault } := by
  unfold clearFault
  rw [h]
  rfl

theorem exec_clearFault_accepted {l : LinkId} {s : State} (h : Listens l s) (tag : Byte) {lv : Levels}
    (accepted : clearCheck (takeLevels lv s) = .ok) : exec (.clearFault l tag lv) s =
      .next (replied l 0x8D tag .ok (faultBytes s.fault) (settleBlocks (restart (haltLifted (takeLevels lv s))))) := by
  rw [exec_clearFault h, clearFault_accepted accepted, show (takeLevels lv s).fault = s.fault from rfl]

theorem clearCut_transport (s : State) : (clearCut s).transport = s.transport := by
  unfold clearCut
  split
  · exact filmBreakCut_transport
  · rfl

theorem clearCut_break {s : State} {p : Nat} (broken : s.fault.cause = some .filmBreak) (position : s.fault.position = some p) :
    clearCut s = filmBreakCut ((p : Int) - 2 * s.transport.profile.pitchMax) s := by simp [clearCut, broken, position]

section
variable {s : State}

theorem recordCleared_transport : (recordCleared s).transport = s.transport := clearCut_transport s

theorem recordCleared_pins : (recordCleared s).pins = s.pins := congrArg (fun b => b.core.given.pins) (clearCut_base s)

theorem haltLifted_fault : (haltLifted s).fault = FaultRecord.clear :=
  fault_of_still (s := recordCleared s) (leaveHalt_fault _ _)

/-- The lens needs its homing again (R78). -/
theorem haltLifted_focus : (haltLifted s).focus.state = .unhomed ∧ (haltLifted s).focus.lens = none := ⟨rfl, rfl⟩

/-- With film in the gate the part rests with the reels slack. -/
theorem haltLifted_resting (film : s.pins.levels.filmPresent = true) : haltLifted s =
    clearLens (setReference (clearedReference s.fault.cause s.transport.reference) (enterState .resting (slacken (recordCleared s)))) := by
  rw [haltLifted, leaveHalt, if_pos (by rw [recordCleared_pins]; exact film), recordCleared_transport]

theorem haltLifted_resting_transport (film : s.pins.levels.filmPresent = true) :
    (haltLifted s).transport.state = .resting ∧ (haltLifted s).transport.position = s.transport.position ∧
      (haltLifted s).transport.reference = clearedReference s.fault.cause s.transport.reference := by
  rw [haltLifted_resting film]
  have coast := setReference_coast (clearedReference s.fault.cause s.transport.reference)
    (enterState .resting (slacken (recordCleared s)))
  have still := setReference_still (clearedReference s.fault.cause s.transport.reference)
    (enterState .resting (slacken (recordCleared s)))
  refine ⟨(congrArg (·.motion.state) coast).trans ?_,
    (congrArg (·.base.position) still).trans (?_ : _ = s.still.base.position), setReference_reference _ _⟩
  · exact congrArg Transport.state (enterState_transport _ _)
  · rw [enterState_still, slacken_still]
    exact congrArg Transport.position recordCleared_transport

theorem haltLifted_resting_map (film : s.pins.levels.filmPresent = true) : (haltLifted s).focus.map = (clearCut s).focus.map := by
  have still : (setReference (clearedReference s.fault.cause s.transport.reference)
      (enterState .resting (slacken (recordCleared s)))).still = (recordCleared s).still := by simp
  rw [haltLifted_resting film]
  exact congrArg Still.map still

theorem haltLifted_resting_index (film : s.pins.levels.filmPresent = true) (mode : (clearCut s).tracker.mode ≠ .indexing) :
    (haltLifted s).index = (clearCut s).index := by
  have entered : (enterState .resting (slacken (recordCleared s))).film = (recordCleared s).film := by unfold enterState; split <;> rfl
  have tracker : (enterState .resting (slacken (recordCleared s))).tracker = (clearCut s).tracker := tracker_of_film entered
  rw [haltLifted_resting film, clearLens, State.onFocus_index, setReference_index _ (by rw [tracker]; exact mode)]
  exact index_of_film entered

/-- With no film in the gate the part is EMPTY. -/
theorem haltLifted_empty (out : s.pins.levels.filmPresent = false) :
    haltLifted s = clearLens (enterEmpty false (slacken (recordCleared s))) := by
  rw [haltLifted, leaveHalt, if_neg (by rw [recordCleared_pins, out]; exact Bool.false_ne_true)]

theorem haltLifted_empty_transport (out : s.pins.levels.filmPresent = false) :
    (haltLifted s).transport = (slacken (recordCleared s)).transport.emptied := by
  rw [haltLifted_empty out, clearLens, State.onFocus_transport, enterEmpty_transport]

/-- The reels are slack, with film in the gate and without. -/
theorem haltLifted_tension : (haltLifted s).transport.tension = .slack := by
  cases film : s.pins.levels.filmPresent with
  | true =>
    have coast := setReference_coast (clearedReference s.fault.cause s.transport.reference)
      (enterState .resting (slacken (recordCleared s)))
    rw [haltLifted_resting film]
    refine (congrArg (·.motion.tension) coast).trans ?_
    exact congrArg Transport.tension (enterState_transport _ _)
  | false =>
    rw [haltLifted_empty_transport film]
    rfl

theorem contentsEmptied_index (s : State) : (contentsEmptied s).index = Index.fresh := by
  rw [contentsEmptied, emptyTracker, State.onTracker_index, clearContents_index]

theorem haltLifted_empty_entries (out : s.pins.levels.filmPresent = false) : (haltLifted s).index.entries = [] := by
  rw [haltLifted_empty out, clearLens, State.onFocus_index, enterEmpty_false, contentsEmptied_index, Index.fresh]

end

end Sys2Proof.Machine

open Sys2Proof Sys2Proof.Machine

/-- Settles O30: the checks in order, what an accepted clear leaves before arbitration restarts, and the REFERENCE as it does. -/
theorem faultCleared : Obligations.FaultCleared := by
  unfold Obligations.FaultCleared
  intro l tag lv q s refused taken listens hq hrefused htaken
  subst hq
  have refuses {r : Result} (check : clearCheck (takeLevels lv s) = r) (hr : r ≠ .ok) : refused r := by
    rw [hrefused, exec_clearFault listens, clearFault_refused check hr]
    rfl
  refine ⟨fun running => ?_, fun halted stop => ?_, fun halted free broken out => ?_, fun halted free film =>
    ⟨fun faulted away => ?_, fun home broken captures => ?_, fun home delivered => ?_⟩, fun v state lost leader none_held waits => ?_⟩
  · exact refuses (clearCheck_running (s := takeLevels lv s) running) nofun
  · exact refuses (clearCheck_stop (s := takeLevels lv s) halted stop) nofun
  · exact refuses (clearCheck_film (s := takeLevels lv s) halted free broken out) nofun
  · exact refuses (clearCheck_lens (s := takeLevels lv s) halted free faulted away) nofun
  · refine refuses ((clearCheck_captures (s := takeLevels lv s) halted free film home).trans (if_pos ⟨broken, ?_⟩)) nofun
    exact capturesHeld_iff.mpr captures
  · have accepted : clearCheck (takeLevels lv s) = .ok := by
      refine (clearCheck_captures (s := takeLevels lv s) halted free film home).trans (if_neg fun ⟨broken, held⟩ => ?_)
      obtain ⟨ring, outstanding⟩ := delivered broken
      exact (capturesHeld_iff.mp held).elim (· ring) (· outstanding)
    obtain ⟨unhomed, unknown⟩ := haltLifted_focus (s := takeLevels lv s)
    refine ⟨haltLifted (takeLevels lv s), (htaken _).mpr ⟨exec_clearFault_accepted listens tag accepted, haltLifted_fault⟩,
      haltLifted_tension, unhomed, unknown, fun present => ?_, fun out => ?_⟩
    · obtain ⟨state, position, reference⟩ := haltLifted_resting_transport (s := takeLevels lv s) present
      refine ⟨state, position, fun lost => ?_, fun notBreak notStall => ?_, fun p th broken at_ mode hth => ?_⟩
      · rw [reference]
        rcases lost with cause | cause <;> simp [clearedReference, takeLevels, cause]
      · rw [reference]
        exact clearedReference_other notBreak notStall _
      · have cut : clearCut (takeLevels lv s) = filmBreakCut th (takeLevels lv s) := by
          rw [clearCut_break (s := takeLevels lv s) broken at_, hth]
          rfl
        have index := haltLifted_resting_index (s := takeLevels lv s) present (by rw [cut, filmBreakCut_mode]; exact mode)
        have map := haltLifted_resting_map (s := takeLevels lv s) present
        rw [cut] at index map
        rw [index, map]
        refine ⟨fun k e held reaches below => ?_, fun below => ?_, fun i sg held short => ?_, filmBreakCut_map th _⟩
        · have first := firstReaching_reached held reaches below 0
          rw [Nat.zero_add] at first
          exact filmBreakCut_reached (s := takeLevels lv s) first
        · exact filmBreakCut_below (s := takeLevels lv s) (firstReaching_below below 0)
        · obtain ⟨segs, segments⟩ := filmBreakCut_segments (th := th) (s := takeLevels lv s)
          rw [segments] at held
          exact cutSegments_short 0 held (by simpa using short)
    · have transport := haltLifted_empty_transport (s := takeLevels lv s) out
      rw [transport]
      exact ⟨rfl, rfl, rfl, haltLifted_empty_entries out⟩
  · have due : (syncReadAhead (setBlocked false v)).arbiter.queue ≠ [] :=
      syncReadAhead_waits (s := setBlocked false v) (waits.imp id fun ⟨on, growing⟩ => readAheadWanted_of_resting state on growing)
    have entry := restart_reReference state lost leader none_held due
    obtain ⟨e, held, kinds⟩ := Option.map_eq_some_iff.mp (congrArg Prod.fst entry)
    exact ⟨e, held, congrArg Prod.fst kinds, congrArg Prod.snd kinds, congrArg Prod.snd entry⟩

end

section
/-! PROOFS. What the transmitters choose, and the replies built for them (R181 to R186, R195). -/

namespace Sys2Proof.Machine

/-! ### Flags of the notices (R181) -/

@[simp] theorem NoticeFlags.get_put_same (f : NoticeFlags) (k : NoticeKind) (v : Bool) : (f.put k v).get k = v := by cases k <;> rfl

theorem NoticeFlags.get_put_other (f : NoticeFlags) {k m : NoticeKind} (h : m ≠ k) (v : Bool) : (f.put k v).get m = f.get m := by
  cases k <;> cases m <;> first | rfl | exact absurd rfl h

theorem raise_link (k : NoticeKind) (l : LinkId) (s : State) : (raise k s).link l = (s.link l).raise k := by cases l <;> rfl

/-! ### The next transmission (R185) -/

section
variable {l : LinkId} {s : State}

theorem nextTransmission_reply {body : List Byte} (slot : (s.link l).replySlot = some body) :
    nextTransmission l s = some (.reply, body) := by simp [nextTransmission, slot]

theorem nextTransmission_jobDone {n : Nat} {rest : List Nat} {j : Job} (slot : (s.link l).replySlot = none)
    (waits : (s.link l).jobDone = n :: rest) (found : findJob n s = some j) :
    nextTransmission l s = some (.jobDone, jobDoneBody j s) := by simp [nextTransmission, slot, waits, found]

theorem nextTransmission_captured {r : CaptureRecord} {rest : List CaptureRecord} (slot : (s.link l).replySlot = none)
    (waits : (s.link l).jobDone = []) (ring : s.capture.ring = r :: rest) (own : r.link = l) (kept : r.drop = false) :
    nextTransmission l s = some (.captured, capturedBody r) := by
  simp [nextTransmission, slot, waits, ring, own, kept, Option.filter]

/-- With no reply, no JOB_DONE and a head of the ring that is another link's the notices are next. -/
theorem nextTransmission_notice (slot : (s.link l).replySlot = none) (waits : (s.link l).jobDone = [])
    (other : ∀ r ∈ s.capture.ring.head?, r.link ≠ l) :
    nextTransmission l s = (nextNotice (s.link l)).map fun k => (.notice k, noticeBody k s) := by
  have none_ : (s.capture.ring.head?.filter fun r => r.link == l && !r.drop) = none := by
    rw [Option.filter_eq_none_iff]
    intro r hr
    simp [other r hr]
  simp [nextTransmission, slot, waits, none_]

end

/-- The first element with a property: it is in the list and has it, and none before it does. -/
theorem find?_eq_some_iff_takeWhile {α : Type} [DecidableEq α] (p : α → Bool) (xs : List α) (k : α) :
    xs.find? p = some k ↔ k ∈ xs ∧ p k = true ∧ ∀ m ∈ xs.takeWhile (· != k), p m = false := by
  induction xs with
  | nil => simp
  | cons x xs ih =>
    by_cases same : x = k
    · subst same
      cases hp : p x with
      | true => simp [hp]
      | false =>
        have other : xs.find? p ≠ some x := fun found => by simp [List.find?_some found] at hp
        simp [hp, other]
    · cases hp : p x <;> simp [hp, ih, same, Ne.symm same]

theorem nextNotice_eq_some (u : LinkUnit) (k : NoticeKind) : nextNotice u = some k ↔
    u.flags.get k = true ∧ u.mask.get k = false ∧
      ∀ m ∈ noticeOrder.takeWhile (· != k), u.flags.get m = true → u.mask.get m = true := by
  have all : k ∈ noticeOrder := by cases k <;> decide
  rw [nextNotice, find?_eq_some_iff_takeWhile]
  simp [all, and_assoc]

/-! ### An IDLE transmitter chooses (R182, R186) -/

section
variable {l : LinkId} {s : State}

theorem serviceLink_sending {k : TxKind} {f : List Byte} (h : (s.link l).transmitter = .sending k f) : serviceLink l s = s := by
  simp [serviceLink, h]

theorem serviceLink_hold (listening : (s.link l).receiver ≠ .brk) (idle : (s.link l).transmitter = .idle)
    (hold : (s.link l).hold = true) : serviceLink l s = s.onLink l fun u => { u with transmitter := .held } := by
  simp [serviceLink, listening, idle, hold]

theorem serviceLink_nothing (idle : (s.link l).transmitter = .idle) (free : (s.link l).hold = false)
    (next : nextTransmission l s = none) : serviceLink l s = s := by
  simp [serviceLink, idle, free, next]

/-- Without hold a transmitter that sends nothing begins to send what is next. -/
theorem serviceLink_begins {k : TxKind} {body : List Byte} (listening : (s.link l).receiver ≠ .brk)
    (waits : (s.link l).transmitter = .idle ∨ (s.link l).transmitter = .held) (free : (s.link l).hold = false)
    (next : nextTransmission l s = some (k, body)) : serviceLink l s = beginTransmission l k body s := by
  rcases waits with idle | held
  · simp [serviceLink, listening, idle, free, next]
  · simp [serviceLink, listening, held, free, next]

/-- A reply in its slot is sent at once by a transmitter that sends nothing and is not held. -/
theorem serviceLinks_reply {body : List Byte} (listening : (s.link l).receiver ≠ .brk)
    (waits : (s.link l).transmitter = .idle ∨ (s.link l).transmitter = .held) (free : (s.link l).hold = false)
    (slot : (s.link l).replySlot = some body) :
    ((serviceLinks s).link l).transmitter = .sending .reply (frameOf body) := by
  obtain ⟨t, -, same, chosen⟩ := serviceLinks_link l s
  rw [← same] at listening waits free slot
  rw [chosen, serviceLink_begins listening waits free (nextTransmission_reply slot)]
  simp [beginTransmission]

theorem serviceLinks_sending {k : TxKind} {f : List Byte} (h : (s.link l).transmitter = .sending k f) :
    ((serviceLinks s).link l).transmitter = .sending k f := by
  obtain ⟨t, -, same, chosen⟩ := serviceLinks_link l s
  rw [chosen, serviceLink_sending (same ▸ h), same, h]

theorem serviceLinks_hold (listening : (s.link l).receiver ≠ .brk) (idle : (s.link l).transmitter = .idle)
    (hold : (s.link l).hold = true) : ((serviceLinks s).link l).transmitter = .held := by
  obtain ⟨t, -, same, chosen⟩ := serviceLinks_link l s
  rw [← same] at listening idle hold
  rw [chosen, serviceLink_hold listening idle hold]
  simp

/-- The choice of all transmitters leaves a unit all but its transmitter and pending flags. -/
theorem serviceLinks_link_same (l : LinkId) (s : State) : (serviceLinks s).link l =
    { s.link l with transmitter := ((serviceLinks s).link l).transmitter, flags := ((serviceLinks s).link l).flags } := by
  obtain ⟨t, -, same, chosen⟩ := serviceLinks_link l s
  rw [chosen, ← same]
  exact serviceLink_link_same l t

end

/-! ### The link status of a reply (R195) -/

theorem linkStatus_eq (u : LinkUnit) : linkStatus u = u.frameDropped.toNat + 2 * u.sessionRestarted.toNat := by
  simp [linkStatus, bitsOf_cons, bitsOf_nil]

/-- The link status byte carries its two flags and nothing else. -/
theorem linkStatus_byte (u : LinkUnit) : (BitVec.ofNat 8 (linkStatus u)).getLsbD 0 = u.frameDropped ∧
    (BitVec.ofNat 8 (linkStatus u)).getLsbD 1 = u.sessionRestarted ∧ (BitVec.ofNat 8 (linkStatus u)).toNat < 4 := by
  rw [linkStatus_eq]
  cases u.frameDropped <;> cases u.sessionRestarted <;> decide

end Sys2Proof.Machine

open Sys2Proof Sys2Proof.Machine

/-- Settles O12: the check register after each of the nine bytes. -/
theorem checkExample : Obligations.CheckExample := by
  unfold Obligations.CheckExample
  have b1 : crcByte 0xFFFF#16 0x31 = 0xC782 := by decide
  have b2 : crcByte 0xC782 0x32 = 0x3DBA := by decide
  have b3 : crcByte 0x3DBA 0x33 = 0x5BCE := by decide
  have b4 : crcByte 0x5BCE 0x34 = 0x5349 := by decide
  have b5 : crcByte 0x5349 0x35 = 0x4560 := by decide
  have b6 : crcByte 0x4560 0x36 = 0x2EF4 := by decide
  have b7 : crcByte 0x2EF4 0x37 = 0x7718 := by decide
  have b8 : crcByte 0x7718 0x38 = 0xA12B := by decide
  have b9 : crcByte 0xA12B 0x39 = 0x29B1 := by decide
  exact ⟨by simp only [crc, List.foldl_cons, List.foldl_nil, b1, b2, b3, b4, b5, b6, b7, b8, b9], rfl⟩

/-- Settles O18: the raise at one unit, by whether it is in break. -/
theorem raiseSetsFlags : Obligations.RaiseSetsFlags := by
  unfold Obligations.RaiseSetsFlags
  refine fun k s => ⟨raise_only k s, fun l => ?_⟩
  rw [raise_link, LinkUnit.raise]
  refine ⟨fun brk => if_pos brk, fun listening => ?_⟩
  rw [if_neg listening]
  exact ⟨NoticeFlags.get_put_same _ k true, fun m other => NoticeFlags.get_put_other _ other true, rfl⟩

/-- Settles O17: the four places a transmitter looks at in turn, and what it does with what it finds. -/
theorem transmitOrder : Obligations.TransmitOrder := by
  unfold Obligations.TransmitOrder
  refine fun l s => ⟨fun body slot => nextTransmission_reply slot,
    fun slot n rest j waits found => nextTransmission_jobDone slot waits found,
    fun slot waits r rest ring own kept => nextTransmission_captured slot waits ring own kept, fun slot waits other k => ?_,
    fun listening idle => ⟨serviceLink_only l s, fun m other => serviceLink_link_other s other,
      fun free next => serviceLink_nothing idle free next, fun k body free next => ?_, fun hold => ?_⟩,
    fun k f sending => serviceLink_sending sending⟩
  · rw [nextTransmission_notice slot waits other, ← noticeOrder, ← nextNotice_eq_some]
    simp
  · rw [serviceLink_begins listening (.inl idle) free next, beginTransmission, State.link_onLink_same]
    refine ⟨rfl, rfl, fun n notice => ?_, fun n other => ?_⟩
    · subst notice
      exact NoticeFlags.get_put_same _ n false
    · cases k with
      | notice m => exact NoticeFlags.get_put_other _ (fun same => other (by rw [same])) false
      | reply | jobDone | captured => rfl
  · rw [serviceLink_hold listening idle hold, State.link_onLink_same]

/-- Settles O19: the reply as it is built, which the transmitters' choice leaves in its slot. -/
theorem replySent : Obligations.ReplySent := by
  unfold Obligations.ReplySent
  refine fun l kind tag r data s => ⟨(buildReply_only l kind tag r data s).trans (serviceLinks_only _),
    BitVec.ofNat 8 (linkStatus (s.link l)), linkStatus_byte _, ?_⟩
  have built : (buildReply l kind tag r data s).link l = { s.link l with
      replySlot := some (kind :: tag :: r.code :: BitVec.ofNat 8 (linkStatus (s.link l)) :: data),
      frameDropped := false, sessionRestarted := false } := State.link_onLink_same _ _ _
  rw [replied]
  refine ⟨?_, ?_, ?_, fun idle free listening => ?_, rfl⟩
  · rw [serviceLinks_link_same, built]
  · rw [serviceLinks_link_same, built]
  · rw [serviceLinks_link_same, built]
  · exact serviceLinks_reply (by rw [built]; exact listening) (by rw [built]; exact .inl idle) (by rw [built]; exact free) (by rw [built])

end

section
/-! PROOFS. Frames answered INVALID, and SET_NOTICE_MASK (R176, R179, R193, R194). -/

namespace Sys2Proof.Machine

/-! ### Bodies (R192, R193) -/

theorem requestKinds_kind (r : Request) : requestKinds.contains r.kind = true := by cases r <;> rfl

/-- A request's body fits a frame: a FETCH of 35 items has the longest. -/
theorem body_length (tag : Byte) {r : Request} (few : ∀ flags items, r = .fetch flags items → items.length ≤ 35) :
    2 ≤ (r.body tag).length ∧ (r.body tag).length ≤ 250 := by
  cases r with
  | fetch flags items =>
    have := few flags items rfl
    simp only [Request.body, Request.params, List.length_cons, putItems_length]
    omega
  | _ => simp [Request.body, Request.params, put16, put24, putTarget_length]

theorem readBody_getStatus (tag : Byte) : readBody (Request.getStatus.body tag) = some (tag, .getStatus) := by
  simp [Request.body, Request.kind, Request.params, readBody, readParams, bare]

theorem readBody_getProfile (tag : Byte) : readBody (Request.getProfile.body tag) = some (tag, .getProfile) := by
  simp [Request.body, Request.kind, Request.params, readBody, readParams, bare]

theorem readBody_getFocusMap (tag : Byte) : readBody (Request.getFocusMap.body tag) = some (tag, .getFocusMap) := by
  simp [Request.body, Request.kind, Request.params, readBody, readParams, bare]

theorem readBody_setNoticeMask (tag mask : Byte) :
    readBody ((Request.setNoticeMask mask).body tag) = some (tag, .setNoticeMask mask) := by
  simp [Request.body, Request.kind, Request.params, readBody, readParams, oneByte, whole]

theorem readBody_getJob (tag job : Byte) : readBody ((Request.getJob job).body tag) = some (tag, .getJob job) := by
  simp [Request.body, Request.kind, Request.params, readBody, readParams, oneByte, whole]

theorem readBody_setProfile (tag : Byte) (r : ProfileRecord) :
    readBody ((Request.setProfile r).body tag) = some (tag, .setProfile r) := by
  have record := getProfileRecord_put r []
  rw [List.append_nil] at record
  simp [Request.body, Request.kind, Request.params, readBody, readParams, whole, record]

/-- As many items as the count byte can say are read back. -/
theorem readBody_fetch_counted (tag flags : Byte) {items : List TargetField} (few : items.length < 256) :
    readBody ((Request.fetch flags items).body tag) = some (tag, .fetch flags items) := by
  simp [Request.body, Request.kind, Request.params, readBody, readParams, whole, getItems_put_last, Nat.mod_eq_of_lt few]

/-- Every request that fits a frame is read back from its body. -/
theorem readBody_body (tag : Byte) {r : Request} (few : ∀ flags items, r = .fetch flags items → items.length ≤ 35) :
    readBody (r.body tag) = some (tag, r) := by
  cases r with
  | getStatus => exact readBody_getStatus tag
  | getProfile => exact readBody_getProfile tag
  | setProfile r => exact readBody_setProfile tag r
  | getEntries n count => exact readBody_getEntries tag n count
  | findAddress b d p => exact readBody_findAddress tag b d p
  | getFocusMap => exact readBody_getFocusMap tag
  | setFocusPoint position lens => exact readBody_setFocusPoint tag position lens
  | clearFocusMap => exact readBody_clearFocusMap tag
  | verifySegment seg => exact readBody_verifySegment tag seg
  | unverifySegment seg => exact readBody_unverifySegment tag seg
  | truncateIndex n => exact readBody_truncateIndex tag n
  | setNoticeMask mask => exact readBody_setNoticeMask tag mask
  | clearFault => exact readBody_clearFault tag
  | cancelJob job => exact readBody_cancelJob tag job
  | getJob job => exact readBody_getJob tag job
  | loadRoll => exact readBody_loadRoll tag
  | unloadRoll => exact readBody_unloadRoll tag
  | seekFrame flags t => exact readBody_seekFrame tag flags t
  | fetch flags items => exact readBody_fetch_counted tag flags (Nat.lt_of_le_of_lt (few flags items rfl) (by decide))
  | sweep flags x y => exact readBody_sweep tag flags x y
  | indexTo flags t => exact readBody_indexTo tag flags t

/-! ### INVALID (R176) -/

theorem answerFrame_unknown (l : LinkId) (tag : Byte) {kind : Byte} (unknown : requestKinds.contains kind = false) (rest : List Byte)
    (s : State) : answerFrame l (kind :: tag :: rest) s = buildReply l 0xFF tag .invalid [] s := by
  rw [answerFrame, unknown]
  rfl

/-- A request that fails the body check is answered INVALID, and nothing else comes of it. -/
theorem requestArrives_invalid {l : LinkId} {tag : Byte} {r : Request} {s : State} (h : Listens l s)
    (few : ∀ flags items, r = .fetch flags items → items.length ≤ 35) (fails : checkRequest r = none) :
    requestArrives l tag r s = replied l (replyKind r.kind) tag .invalid [] s := by
  have unread : readRequest (r.body tag) = none := by simp [readRequest, readBody_body tag few, fails]
  have answered : answerFrame l (r.body tag) s = buildReply l (replyKind r.kind) tag .invalid [] s := by
    have known := requestKinds_kind r
    unfold Request.body at unread ⊢
    simp only [answerFrame, known, unread, Bool.not_true, Bool.false_eq_true, if_false]
  rw [requestArrives, frameArrives_listens h (body_length tag few), answered, replied]

end Sys2Proof.Machine

namespace Sys2Proof.TargetField
variable {t : TargetField}

/-! ### Target fields (R194) -/

/-- The field breaks no rule of R194's row for FRAME. -/
def IsFrame (t : TargetField) : Prop := t.code = 1 ∧ t.w0.toNat ≤ 16383 ∧ t.w1 = 0 ∧ t.w2 = 0

/-- The field breaks no rule of R194's row for ADDRESS. -/
def IsAddress (t : TargetField) : Prop := t.code = 2 ∧ t.w0 ≠ 0 ∧ t.w1 ≠ 0 ∧ t.w2 ≠ 0

/-- The field breaks no rule of R194's row for ROLL_END. -/
def IsRollEnd (t : TargetField) : Prop := t.code = 3 ∧ t.w0 = 0 ∧ t.w1 = 0 ∧ t.w2 = 0

/-- The address a field names. -/
def address (t : TargetField) : Machine.Address := ⟨t.w0.toNat, t.w1.toNat, t.w2.toNat⟩

theorem IsFrame.not_address (h : t.IsFrame) : ¬ t.IsAddress := fun k => absurd (h.1.symm.trans k.1) (by decide)

theorem IsFrame.not_rollEnd (h : t.IsFrame) : ¬ t.IsRollEnd := fun k => absurd (h.1.symm.trans k.1) (by decide)

theorem IsAddress.not_rollEnd (h : t.IsAddress) : ¬ t.IsRollEnd := fun k => absurd (h.1.symm.trans k.1) (by decide)

/-- A field is of one row of R194 or of none. -/
theorem row (t : TargetField) : t.IsFrame ∨ t.IsAddress ∨ t.IsRollEnd ∨ (¬ t.IsFrame ∧ ¬ t.IsAddress ∧ ¬ t.IsRollEnd) := by
  tauto

/-- The bounds of a sweep in order: of two frames or two addresses the first does not lie above the second (R137). -/
def Ordered (x y : TargetField) : Prop :=
  (x.IsFrame → y.IsFrame → x.w0.toNat ≤ y.w0.toNat) ∧
    (x.IsAddress → y.IsAddress → x.w0.toNat < y.w0.toNat ∨ x.w0 = y.w0 ∧
      (x.w1.toNat < y.w1.toNat ∨ x.w1 = y.w1 ∧ x.w2.toNat ≤ y.w2.toNat))

end Sys2Proof.TargetField

namespace Sys2Proof.Machine

/-! ### What a target field names (R194) -/

section
variable {t : TargetField}

theorem targetOf_isFrame (h : t.IsFrame) : targetOf t = some (.frame t.w0.toNat) := by
  obtain ⟨code, low, rest⟩ := h
  simp [targetOf, code, rest, Config.maxFrame, low]

theorem targetOf_isAddress (h : t.IsAddress) : targetOf t = some (.address t.address) := by
  obtain ⟨code, words⟩ := h
  simpa [targetOf, code, TargetField.address] using words

theorem targetOf_isRollEnd (h : t.IsRollEnd) : targetOf t = some .rollEnd := by
  obtain ⟨code, words⟩ := h
  simp [targetOf, code, words]

/-- A field that is of no row names no target. -/
theorem targetOf_none (frame : ¬ t.IsFrame) (address : ¬ t.IsAddress) (rollEnd : ¬ t.IsRollEnd) : targetOf t = none := by
  unfold targetOf
  split
  · next code => exact if_neg fun words => frame ⟨BitVec.eq_of_toNat_eq code, words⟩
  · next code => exact if_neg fun words => address ⟨BitVec.eq_of_toNat_eq code, words⟩
  · next code => exact if_neg fun words => rollEnd ⟨BitVec.eq_of_toNat_eq code, words⟩
  · rfl

theorem namedTarget_none_iff : namedTarget t = none ↔ ¬ (t.IsFrame ∨ t.IsAddress) := by
  rcases t.row with frame | address | rollEnd | ⟨frame, address, rollEnd⟩
  · simp [namedTarget, targetOf_isFrame frame, frame]
  · simp [namedTarget, targetOf_isAddress address, address]
  · have frame : ¬ t.IsFrame := fun frame => frame.not_rollEnd rollEnd
    have address : ¬ t.IsAddress := fun address => address.not_rollEnd rollEnd
    simp [namedTarget, targetOf_isRollEnd rollEnd, frame, address]
  · simp [namedTarget, targetOf_none frame address rollEnd, frame, address]

theorem namedTarget_isFrame (h : t.IsFrame) : namedTarget t = some (.frame t.w0.toNat) := by
  simp [namedTarget, targetOf_isFrame h]

theorem namedTarget_isAddress (h : t.IsAddress) : namedTarget t = some (.address t.address) := by
  simp [namedTarget, targetOf_isAddress h]

end

theorem targetOf_none_iff {t : TargetField} : targetOf t = none ↔ ¬ (t.IsFrame ∨ t.IsAddress ∨ t.IsRollEnd) := by
  rcases t.row with frame | address | rollEnd | ⟨frame, address, rollEnd⟩
  · simp [targetOf_isFrame frame, frame]
  · simp [targetOf_isAddress address, address]
  · simp [targetOf_isRollEnd rollEnd, rollEnd]
  · simp [targetOf_none frame address rollEnd, frame, address, rollEnd]

theorem itemTargets_none_iff {ts : List TargetField} : itemTargets ts = none ↔ ¬ ∀ t ∈ ts, t.IsFrame ∨ t.IsAddress := by
  induction ts with
  | nil => simp [itemTargets]
  | cons t ts ih =>
    cases named : namedTarget t with
    | none =>
      have breaks := namedTarget_none_iff.mp named
      simp [itemTargets, named, breaks]
    | some x =>
      have names : t.IsFrame ∨ t.IsAddress := by
        by_contra breaks
        rw [namedTarget_none_iff.mpr breaks] at named
        cases named
      rw [List.forall_mem_cons, and_iff_right names, ← ih]
      cases listed : itemTargets ts <;> simp [itemTargets, named, listed]

/-! ### The ranges (R193) -/

theorem ite_order_eq_none {c : Prop} [Decidable c] (o : Order) : (if c then some o else none) = none ↔ ¬ c := by simp

/-- Of two addresses the second does not lie below the first, word by word. -/
theorem address_not_below {x y : TargetField} : y.address.lt x.address = false ↔ x.w0.toNat < y.w0.toNat ∨ x.w0 = y.w0 ∧
    (x.w1.toNat < y.w1.toNat ∨ x.w1 = y.w1 ∧ x.w2.toNat ≤ y.w2.toNat) := by
  rw [← Bool.not_eq_true, Address.lt_iff]
  simp only [TargetField.address, ← BitVec.toNat_inj]
  omega

theorem checkRequest_seekFrame (fl : Byte) (t : TargetField) :
    checkRequest (.seekFrame fl t) = none ↔ ¬ (fl.toNat ≤ 1 ∧ (t.IsFrame ∨ t.IsAddress)) := by
  rw [checkRequest]
  split
  · next low => rw [Option.map_eq_none_iff, namedTarget_none_iff, and_iff_right (Nat.le_of_lt_succ low)]
  · next high => exact iff_of_true rfl fun ⟨low, _⟩ => high (Nat.lt_succ_of_le low)

theorem checkRequest_fetch (fl : Byte) (ts : List TargetField) : checkRequest (.fetch fl ts) = none ↔
    ¬ (fl.toNat ≤ 3 ∧ 1 ≤ ts.length ∧ ts.length ≤ 32 ∧ ∀ t ∈ ts, t.IsFrame ∨ t.IsAddress) := by
  rw [checkRequest]
  split
  · next fits =>
    obtain ⟨low, some_, few⟩ := fits
    rw [Option.map_eq_none_iff, itemTargets_none_iff, and_iff_right (Nat.le_of_lt_succ low), and_iff_right some_, and_iff_right few]
  · next out => exact iff_of_true rfl fun ⟨low, some_, few, _⟩ => out ⟨Nat.lt_succ_of_le low, some_, few⟩

theorem checkRequest_indexTo (fl : Byte) (t : TargetField) :
    checkRequest (.indexTo fl t) = none ↔ ¬ (fl = 0 ∧ (t.IsAddress ∨ t.IsRollEnd)) := by
  rw [checkRequest]
  split
  · next zero =>
    rw [and_iff_right zero]
    rcases t.row with frame | address | rollEnd | ⟨frame, address, rollEnd⟩
    · simp [targetOf_isFrame frame, frame.not_address, frame.not_rollEnd]
    · simp [targetOf_isAddress address, address]
    · simp [targetOf_isRollEnd rollEnd, rollEnd]
    · simp [targetOf_none frame address rollEnd, address, rollEnd]
  · next flags => exact iff_of_true rfl fun ⟨zero, _⟩ => flags zero

/-- What the bounds of a sweep name is in order just when the fields are. -/
theorem boundsOrdered_iff {x y : TargetField} {a b : Target} (hx : namedTarget x = some a) (hy : targetOf y = some b) :
    boundsOrdered a b = true ↔ x.Ordered y := by
  have named : x.IsFrame ∨ x.IsAddress := by
    by_contra breaks
    rw [namedTarget_none_iff.mpr breaks] at hx
    cases hx
  have names : y.IsFrame ∨ y.IsAddress ∨ y.IsRollEnd := by
    by_contra breaks
    rw [targetOf_none_iff.mpr breaks] at hy
    cases hy
  unfold TargetField.Ordered
  rcases named with frame | address
  · cases (namedTarget_isFrame frame).symm.trans hx
    rcases names with frame' | address' | rollEnd'
    · cases (targetOf_isFrame frame').symm.trans hy
      simp [boundsOrdered, frame, frame', frame.not_address]
    · cases (targetOf_isAddress address').symm.trans hy
      have other : ¬ y.IsFrame := fun frame' => frame'.not_address address'
      simp [boundsOrdered, frame.not_address, other]
    · cases (targetOf_isRollEnd rollEnd').symm.trans hy
      have other : ¬ y.IsFrame := fun frame' => frame'.not_rollEnd rollEnd'
      simp [boundsOrdered, frame.not_address, other]
  · cases (namedTarget_isAddress address).symm.trans hx
    have other : ¬ x.IsFrame := fun frame => frame.not_address address
    rcases names with frame' | address' | rollEnd'
    · cases (targetOf_isFrame frame').symm.trans hy
      simp [boundsOrdered, other, frame'.not_address]
    · cases (targetOf_isAddress address').symm.trans hy
      simp [boundsOrdered, other, address, address', address_not_below]
    · cases (targetOf_isRollEnd rollEnd').symm.trans hy
      have other' : ¬ y.IsAddress := fun address' => address'.not_rollEnd rollEnd'
      simp [boundsOrdered, other, other']

theorem checkRequest_sweep (fl : Byte) (x y : TargetField) : checkRequest (.sweep fl x y) = none ↔
    ¬ (fl.toNat ≤ 3 ∧ (x.IsFrame ∨ x.IsAddress) ∧ (y.IsFrame ∨ y.IsAddress ∨ y.IsRollEnd) ∧ x.Ordered y) := by
  rw [checkRequest]
  split
  · next low =>
    rw [and_iff_right (Nat.le_of_lt_succ low)]
    cases hx : namedTarget x with
    | none =>
      have breaks := namedTarget_none_iff.mp hx
      exact iff_of_true rfl fun ⟨named, _⟩ => breaks named
    | some a =>
      cases hy : targetOf y with
      | none =>
        have breaks := targetOf_none_iff.mp hy
        exact iff_of_true rfl fun ⟨_, names, _⟩ => breaks names
      | some b =>
        have named : x.IsFrame ∨ x.IsAddress := not_not.mp fun breaks => by simp [namedTarget_none_iff.mpr breaks] at hx
        have names : y.IsFrame ∨ y.IsAddress ∨ y.IsRollEnd := not_not.mp fun breaks => by simp [targetOf_none_iff.mpr breaks] at hy
        rw [and_iff_right named, and_iff_right names, ← boundsOrdered_iff hx hy]
        simp
  · next high => exact iff_of_true rfl fun ⟨low, _⟩ => high (Nat.lt_succ_of_le low)

/-! ### SET_NOTICE_MASK (R179) -/

/-- A mask byte of four settings is reported as it came. -/
theorem maskOf_bits {mask : Byte} (low : mask.toNat < 16) : be8 (maskOf mask).bits = [mask] := by
  have all : ∀ n < 16, be8 (maskOf (BitVec.ofNat 8 n)).bits = [BitVec.ofNat 8 n] := by decide
  have same := all mask.toNat low
  rwa [BitVec.ofNat_toNat, BitVec.setWidth_eq] at same

theorem exec_setNoticeMask {l : LinkId} {s : State} (h : Listens l s) (tag : Byte) {mask : Byte} (low : mask.toNat < 16) :
    exec (.setNoticeMask l tag mask) s =
      .next (replied l 0x8C tag (setNoticeMask l mask s).result (setNoticeMask l mask s).data (setNoticeMask l mask s).state) :=
  exec_request (c := .setNoticeMask l tag mask) (kind := 0x0C) (o := .setNoticeMask mask) h rfl rfl
    (by simp [Request.body, Request.params]) (by decide) (readBody_setNoticeMask tag mask) (if_pos low)

end Sys2Proof.Machine

open Sys2Proof Sys2Proof.Machine

/-- Settles O20: the frame is taken by the unit at rest, and its kind is looked up before all else. -/
theorem unknownRequestInvalid : Obligations.UnknownRequestInvalid := by
  unfold Obligations.UnknownRequestInvalid
  intro l tag kind rest s listens formed
  simp only [Instr.wellFormed, Bool.and_eq_true, Bool.not_eq_true', decide_eq_true_eq] at formed
  obtain ⟨unknown, fits⟩ := formed
  have arrives : frameArrives l (kind :: tag :: rest) s = buildReply l 0xFF tag .invalid [] s := by
    rw [frameArrives_listens listens (by simp only [List.length_cons]; omega), answerFrame_unknown l tag unknown]
  simpa only [exec, execUnknownRequest, replied] using congrArg (fun t => Host.Outcome.next (serviceLinks t)) arrives

/-- Settles O21: `checkRequest` request by request, and the INVALID answer where it gives no order. -/
theorem badOperandInvalid : Obligations.BadOperandInvalid := by
  unfold Obligations.BadOperandInvalid
  intro frame address rollEnd hframe haddress hrollEnd
  obtain rfl : frame = TargetField.IsFrame := funext fun t => propext (hframe t)
  obtain rfl : address = TargetField.IsAddress := funext fun t => propext (haddress t)
  obtain rfl : rollEnd = TargetField.IsRollEnd := funext fun t => propext (hrollEnd t)
  refine ⟨fun n count => ?_, fun b d p => ?_, fun p x => ?_, fun sg => ⟨?_, ?_⟩, fun n => ?_, fun m => ?_, fun j => ⟨?_, ?_⟩,
    checkRequest_seekFrame, checkRequest_fetch, checkRequest_sweep, checkRequest_indexTo, fun r rows => ?_,
    fun l tag r s listens few fails => requestArrives_invalid listens few fails⟩
  · exact ite_order_eq_none _
  · exact (ite_order_eq_none _).trans (by tauto)
  · exact (ite_order_eq_none _).trans (by simp only [Config.maxPosition, Config.maxStep]; omega)
  · exact (ite_order_eq_none _).trans (by simp only [Config.segments]; omega)
  · exact (ite_order_eq_none _).trans (by simp only [Config.segments]; omega)
  · exact (ite_order_eq_none _).trans Nat.not_le
  · exact (ite_order_eq_none _).trans (by omega)
  · simp [checkRequest]
  · simp [checkRequest]
  · rcases rows with rfl | rfl | rfl | rfl | rfl | rfl | rfl | ⟨p, rfl⟩ <;> exact Option.some_ne_none _

/-- Settles O29: the request's one operation changes the mask of its link. -/
theorem noticeMaskSet : Obligations.NoticeMaskSet := by
  unfold Obligations.NoticeMaskSet
  intro l tag mask s listens low
  refine ⟨s.onLink l fun u => { u with mask := maskOf mask }, ?_, onLink_only l _ s, fun k other => State.link_onLink_other l k _ s other,
    State.link_onLink_same l _ s⟩
  rw [exec_setNoticeMask listens tag low]
  simp only [setNoticeMask, maskOf_bits low, List.singleton_append]

end

section
/-! PROOFS. Bytes and frames received, and the end of a transmission (R173 to R175, R186, R187). -/

namespace Sys2Proof.Machine

theorem State.onLink_congr {l : LinkId} {f g : LinkUnit → LinkUnit} {s : State} (h : f (s.link l) = g (s.link l)) :
    s.onLink l f = s.onLink l g := by
  cases l <;> simp_all [State.onLink, Links.modify, State.link, Links.get]

/-! ### The receiver (R174) -/

/-- The receiver of a link put in a state. -/
def putReceiver (l : LinkId) (r : Receiver) (s : State) : State := s.onLink l fun u => { u with receiver := r }

@[simp] theorem putReceiver_receiver (l : LinkId) (r : Receiver) (s : State) : ((putReceiver l r s).link l).receiver = r := by
  simp [putReceiver]

@[simp] theorem putReceiver_putReceiver (l : LinkId) (q r : Receiver) (s : State) :
    putReceiver l r (putReceiver l q s) = putReceiver l r s := State.onLink_onLink l _ _ s

section
variable {l : LinkId} {s : State}

theorem betweenBytes_away (h : (s.link l).receiver ≠ .hunt) : betweenBytes l s = s := if_neg h

theorem receiveByte_start (hunts : (s.link l).receiver = .hunt) :
    receiveByte l (.good Config.startByte) s = putReceiver l .length s := by simp [receiveByte, hunts, putReceiver]

theorem receiveByte_length {n : Nat} (waits : (s.link l).receiver = .length) (low : 2 ≤ n) (high : n ≤ 250) :
    receiveByte l (.good (BitVec.ofNat 8 n)) s = putReceiver l (.body n []) s := by
  have value : n % 256 = n := Nat.mod_eq_of_lt (Nat.lt_of_le_of_lt high (by decide))
  simp [receiveByte, waits, putReceiver, value, low, high]

theorem receiveByte_body {len : Nat} {soFar : List Byte} (waits : (s.link l).receiver = .body len soFar) (b : Byte) :
    receiveByte l (.good b) s =
      putReceiver l (if len ≤ soFar.length + 1 then .check len (soFar ++ [b]) none else .body len (soFar ++ [b])) s := by
  simp [receiveByte, waits, putReceiver]

theorem receiveByte_first {len : Nat} {body : List Byte} (waits : (s.link l).receiver = .check len body none) (b : Byte) :
    receiveByte l (.good b) s = putReceiver l (.check len body (some b)) s := by
  simp [receiveByte, waits, putReceiver]

theorem receiveByte_second {len : Nat} {body : List Byte} {first : Byte} (waits : (s.link l).receiver = .check len body (some first))
    (b : Byte) : receiveByte l (.good b) s = if first ++ b = bodyCheck body then placeFrame l body s else s.onLink l dropped := by
  simp [receiveByte, waits]

/-- HOLD in HUNT (R174). -/
theorem receiveByte_hold (hunts : (s.link l).receiver = .hunt) :
    receiveByte l (.good Config.holdByte) s = s.onLink l fun u => { u with hold := true } := by
  simp [receiveByte, hunts, Config.startByte, Config.holdByte]

/-- RESUME in HUNT (R174). -/
theorem receiveByte_resume (hunts : (s.link l).receiver = .hunt) :
    receiveByte l (.good Config.resumeByte) s = s.onLink l fun u => { u with hold := false } := by
  simp [receiveByte, hunts, Config.startByte, Config.holdByte, Config.resumeByte]

/-- Any other byte in HUNT, or a bad one, is discarded (R174). -/
theorem receiveByte_stray (hunts : (s.link l).receiver = .hunt) {b : RxByte}
    (stray : b = .bad ∨ ∃ v, b = .good v ∧ v ≠ 0xA5 ∧ v ≠ 0x5C ∧ v ≠ 0x5D) : receiveByte l b s = s.onLink l dropped := by
  rcases stray with rfl | ⟨v, rfl, start, hold, resume⟩
  · simp [receiveByte, hunts]
  · simp only [receiveByte, hunts]
    exact (if_neg start).trans ((if_neg hold).trans (if_neg resume))

end

/-! ### A frame byte by byte (R173, R174) -/

/-- A byte that leaves the receiver inside a frame; the transmitters do not choose before the next. -/
theorem receiveBytes_inside {l : LinkId} {b c : Byte} {r : Receiver} {s : State} (taken : receiveByte l (.good b) s = putReceiver l r s)
    (inside : r ≠ .hunt) (bs : List Byte) : receiveBytes l (b :: c :: bs) s = receiveBytes l (c :: bs) (putReceiver l r s) := by
  rw [receiveBytes, taken, betweenBytes_away (by rwa [putReceiver_receiver])]
  exact nofun

/-- The bytes of a body are gathered up to the length that was sent. -/
theorem receiveBytes_body {l : LinkId} {len : Nat} {soFar bs : List Byte} {s : State} (waits : (s.link l).receiver = .body len soFar)
    (some_ : bs ≠ []) (length : soFar.length + bs.length = len) (c : Byte) (cs : List Byte) :
    receiveBytes l (bs ++ c :: cs) s = receiveBytes l (c :: cs) (putReceiver l (.check len (soFar ++ bs) none) s) := by
  induction bs generalizing soFar s with
  | nil => exact absurd rfl some_
  | cons b bs ih =>
    have taken := receiveByte_body waits b
    cases bs with
    | nil =>
      rw [if_pos (show len ≤ soFar.length + 1 from Nat.le_of_eq length.symm)] at taken
      exact receiveBytes_inside taken nofun cs
    | cons b' bs =>
      rw [if_neg (by simp only [List.length_cons] at length; omega)] at taken
      have rest := ih (putReceiver_receiver l (.body len (soFar ++ [b])) s) nofun
        (by simp only [List.length_cons, List.length_append, List.length_nil] at length ⊢; omega)
      rw [putReceiver_putReceiver, List.append_assoc] at rest
      exact (receiveBytes_inside taken nofun (bs ++ c :: cs)).trans rest

/-- A frame that comes to a receiver in HUNT is placed with its check equal, else discarded. -/
theorem receiveBytes_frame {l : LinkId} {body : List Byte} {s : State} (hunts : (s.link l).receiver = .hunt) (low : 2 ≤ body.length)
    (high : body.length ≤ 250) (check : BitVec 16) : ∃ r,
    receiveBytes l (Config.startByte :: BitVec.ofNat 8 body.length :: (body ++ checkBytes check)) s =
      if check = bodyCheck body then placeFrame l body (putReceiver l r s) else (putReceiver l r s).onLink l dropped := by
  have some_ : body ≠ [] := fun none_ => by simp [none_] at low
  have start := receiveBytes_inside (receiveByte_start hunts) nofun (c := BitVec.ofNat 8 body.length) (body ++ checkBytes check)
  have length : receiveBytes l (BitVec.ofNat 8 body.length :: (body ++ checkBytes check)) (putReceiver l .length s) =
      receiveBytes l (body ++ checkBytes check) (putReceiver l (.body body.length []) s) := by
    obtain ⟨b, bs, rfl⟩ := List.exists_cons_of_ne_nil some_
    have taken := receiveByte_length (putReceiver_receiver l .length s) low high
    rw [putReceiver_putReceiver] at taken
    rw [List.cons_append, receiveBytes, taken, betweenBytes_away (by rw [putReceiver_receiver]; exact nofun)]
    exact nofun
  have gathered := receiveBytes_body (putReceiver_receiver l (.body body.length []) s) some_ (Nat.zero_add _)
    (check.extractLsb' 8 8) [check.extractLsb' 0 8]
  rw [putReceiver_putReceiver, List.nil_append] at gathered
  have first := receiveByte_first (putReceiver_receiver l (.check body.length body none) s) (check.extractLsb' 8 8)
  rw [putReceiver_putReceiver] at first
  refine ⟨.check body.length body (some (check.extractLsb' 8 8)), ?_⟩
  rw [start, length, checkBytes, gathered, receiveBytes, first, betweenBytes_away (by rw [putReceiver_receiver]; exact nofun),
    receiveBytes, receiveByte_second (putReceiver_receiver l _ s), bytes16]
  exact nofun

/-! ### A frame placed (R175) -/

section
variable {l : LinkId} {s : State} (hunts : (s.link l).receiver = .hunt) (r : Receiver)
include hunts

theorem dropped_putReceiver : (putReceiver l r s).onLink l dropped = s.onLink l fun u => { u with frameDropped := true } := by
  rw [putReceiver, State.onLink_onLink]
  exact State.onLink_congr (by simp [dropped, hunts])

theorem placeFrame_full (full : 2 ≤ (s.link l).inputBuffer.length) (body : List Byte) :
    placeFrame l body (putReceiver l r s) = s.onLink l fun u => { u with frameDropped := true } := by
  rw [placeFrame, if_pos (by simpa [putReceiver, Config.bufferFrames] using full), dropped_putReceiver hunts]

/-- With room in the buffer the frame stands behind those there, and the oldest is taken if it can be. -/
theorem placeFrame_room (room : (s.link l).inputBuffer.length < 2) (body : List Byte) : placeFrame l body (putReceiver l r s) =
    takeFrame l (s.onLink l fun u => { u with inputBuffer := u.inputBuffer ++ [body] }) := by
  rw [placeFrame, if_neg (by simpa [putReceiver, Config.bufferFrames] using room), putReceiver, State.onLink_onLink]
  congr 1
  exact State.onLink_congr (by simp [hunts])

end

theorem takeFrame_waits {l : LinkId} {s : State} (slot : (s.link l).replySlot ≠ none) : takeFrame l s = s := by
  unfold takeFrame
  split
  · next none_ _ => exact absurd none_ slot
  · rfl

theorem takeFrame_oldest {l : LinkId} {body : List Byte} {rest : List (List Byte)} {s : State} (slot : (s.link l).replySlot = none)
    (buffer : (s.link l).inputBuffer = body :: rest) :
    takeFrame l s = answerFrame l body (s.onLink l fun u => { u with inputBuffer := rest }) := by
  simp [takeFrame, slot, buffer]

theorem takeFrame_empty {l : LinkId} {s : State} (buffer : (s.link l).inputBuffer = []) : takeFrame l s = s := by
  simp [takeFrame, buffer]

/-! ### The ring's head sent (R106) -/

theorem removeHead_keeps (s : State) : (removeHead s).capture.ring = s.capture.ring.tail ∧
    (removeHead s).capture.ringHead = (s.capture.ringHead + 1) % 32 ∧ (removeHead s).jobs = s.jobs ∧ (removeHead s).index = s.index ∧
    (removeHead s).focus = s.focus ∧ (removeHead s).fault = s.fault := by
  unfold removeHead
  generalize hu : (s.onCapture fun c => { c with ring := c.ring.tail, ringHead := (c.ringHead + 1) % Config.ringSlots }) = u
  by_cases same : throttleAt u.capture.ring.length u.capture.throttle = u.capture.throttle
  · rw [throttleTest_unchanged same, ← hu]
    exact ⟨rfl, rfl, rfl, rfl, rfl, rfl⟩
  · rw [throttleTest_changed same, ← hu]
    exact ⟨rfl, rfl, rfl, rfl, rfl, rfl⟩

/-! ### A transmission ends (R187) -/

theorem exec_transmissionEnd {l : LinkId} {k : TxKind} {f : List Byte} {s : State} (h : (s.link l).transmitter = .sending k f) :
    exec (.transmissionEnd l) s =
      .next (serviceLinks (dropHeads (sentFrame l k (s.onLink l fun u => { u with transmitter := .idle })))) := by
  simp [exec, execTransmissionEnd, endTransmission, h]

end Sys2Proof.Machine

open Sys2Proof Sys2Proof.Machine

/-- Settles O13: the frame's bytes in turn, then the frame placed by the buffer and the reply slot. -/
theorem frameReceivedPlaced : Obligations.FrameReceivedPlaced := by
  unfold Obligations.FrameReceivedPlaced
  intro l body check s hunts low high
  obtain ⟨r, received⟩ := receiveBytes_frame hunts low high check
  have arrives : exec (.frameReceived l body check) s = .next (serviceLinks
      (if check = bodyCheck body then placeFrame l body (putReceiver l r s) else (putReceiver l r s).onLink l dropped)) :=
    congrArg (fun t => Host.Outcome.next (serviceLinks t)) received
  rw [arrives]
  refine ⟨fun out => ?_, fun equal room waits => ?_, fun equal empty free => ?_⟩
  · split
    · next equal =>
      rw [placeFrame_full hunts r (out.resolve_left (not_not_intro equal))]
    · rw [dropped_putReceiver hunts]
  · rw [if_pos equal, placeFrame_room hunts r room, takeFrame_waits (by simpa using waits)]
  · rw [if_pos equal, placeFrame_room hunts r (by simp [empty]), takeFrame_oldest (body := body) (rest := [])
      (by simpa using free) (by simp [empty]), State.onLink_onLink, State.onLink_self]
    generalize s.link l = u at empty
    cases u
    simp_all

/-- Settles O14: what the byte changes in the unit, and what its transmitter then chooses. -/
theorem controlBytes : Obligations.ControlBytes := by
  unfold Obligations.ControlBytes
  intro l s hunts
  have listening : (s.link l).receiver ≠ .brk := fun brk => by cases hunts.symm.trans brk
  refine ⟨?_, ?_, fun b stray => ?_⟩
  · refine ⟨_, congrArg (fun t => Host.Outcome.next (serviceLinks t)) (receiveByte_hold hunts),
      (onLink_only l _ s).trans (serviceLinks_only _), ?_, fun idle => ?_, fun k f sending => ?_⟩
    · rw [serviceLinks_link_same, State.link_onLink_same]
    · exact serviceLinks_hold (by simpa using listening) (by simpa using idle) (by simp)
    · exact serviceLinks_sending (by simpa using sending)
  · refine ⟨_, congrArg (fun t => Host.Outcome.next (serviceLinks t)) (receiveByte_resume hunts),
      (onLink_only l _ s).trans (serviceLinks_only _), ?_, fun body held slot => ?_, fun k f sending => ?_⟩
    · rw [serviceLinks_link_same, State.link_onLink_same]
    · exact serviceLinks_reply (by simpa using listening) (.inr (by simpa using held)) (by simp) (by simpa using slot)
    · exact serviceLinks_sending (by simpa using sending)
  · refine ⟨_, congrArg (fun t => Host.Outcome.next (serviceLinks t)) (receiveByte_stray hunts stray),
      (onLink_only l _ s).trans (serviceLinks_only _), ?_, ?_, ?_⟩
    all_goals
      rw [serviceLinks_link_same, State.link_onLink_same]
      rfl

/-- Settles O16: the frame's owner by the kind of the frame. -/
theorem transmissionEnds : Obligations.TransmissionEnds := by
  unfold Obligations.TransmissionEnds
  intro l f s
  refine ⟨fun sending body rest buffer => ?_, fun sending empty => ?_, fun sending n rest waits => ?_, fun sending r rest ring => ?_,
    fun k sending => by rw [exec_transmissionEnd sending, sentFrame]⟩
  · rw [exec_transmissionEnd sending, sentFrame, State.onLink_onLink, takeFrame_oldest (body := body) (rest := rest)
      (by simp) (by simp [buffer]), State.onLink_onLink]
    rfl
  · rw [exec_transmissionEnd sending, sentFrame, State.onLink_onLink, takeFrame_empty (by simp [empty])]
    rfl
  · refine ⟨freeSlot n ((s.onLink l fun u => { u with transmitter := .idle }).onLink l fun u => { u with jobDone := rest }), ?_, rfl,
      rfl, rfl, ?_⟩
    · rw [exec_transmissionEnd sending]
      simp [sentFrame, waits]
    · exact congrArg LinkUnit.jobDone (State.link_onLink_same l (fun u => { u with jobDone := rest }) _)
  · obtain ⟨tail, head, jobs, index, focus, fault⟩ := removeHead_keeps (s.onLink l fun u => { u with transmitter := .idle })
    exact ⟨_, exec_transmissionEnd sending, tail.trans (congrArg List.tail ring), head, jobs, index, focus, fault⟩

end

section
/-! PROOFS. The records read by GET_STATUS, GET_PROFILE, GET_FOCUS_MAP and GET_JOB, and the bytes of the records (R191, R196 to R202). -/

namespace Sys2Proof.Machine

/-! ### The requests (R176, R178) -/

section
variable {l : LinkId} {s : State} (h : Listens l s) (tag : Byte)
include h

theorem exec_getStatus (lv : Levels) : exec (.getStatus l tag lv) s =
    .next (replied l 0x81 tag .ok (statusBytes l (takeLevels lv s)) (takeLevels lv s)) :=
  exec_request (c := .getStatus l tag lv) (kind := 0x01) (o := .getStatus) (s' := takeLevels lv s) h rfl rfl
    (by simp [Request.body, Request.params]) (by decide) (readBody_getStatus tag) rfl

theorem exec_getProfile : exec (.getProfile l tag) s = .next (replied l 0x82 tag .ok (profileBytes s.transport.profile) s) :=
  exec_request (c := .getProfile l tag) (kind := 0x02) (o := .getProfile) h rfl rfl (by simp [Request.body, Request.params])
    (by decide) (readBody_getProfile tag) rfl

theorem exec_getFocusMap : exec (.getFocusMap l tag) s = .next (replied l 0x86 tag .ok (mapBytes s.focus.map) s) :=
  exec_request (c := .getFocusMap l tag) (kind := 0x06) (o := .getFocusMap) h rfl rfl (by simp [Request.body, Request.params])
    (by decide) (readBody_getFocusMap tag) rfl

theorem exec_getJob {job : Byte} (named : job ≠ 0) : exec (.getJob l tag job) s =
    .next (replied l 0x8F tag (getJob job.toNat s).result (getJob job.toNat s).data (getJob job.toNat s).state) :=
  exec_request (c := .getJob l tag job) (kind := 0x0F) (o := .getJob job.toNat) h rfl rfl (by simp [Request.body, Request.params])
    (by decide) (readBody_getJob tag job) (if_neg named)

end

/-! ### The frame at the axis (R61) -/

theorem frameAtFrom_some {p k n : Nat} {es : List Entry} (h : frameAtFrom p es k = some n) :
    ∃ i e, n = k + i ∧ es[i]? = some e ∧ e.low ≤ p ∧ p ≤ e.high := by
  induction es generalizing k with
  | nil => cases h
  | cons e es ih =>
    rw [frameAtFrom] at h
    split at h
    · next within =>
      cases h
      exact ⟨0, e, rfl, rfl, within⟩
    · obtain ⟨i, x, hn, held, within⟩ := ih h
      exact ⟨i + 1, x, by omega, held, within⟩

theorem frameAtFrom_none {p k : Nat} {es : List Entry} (h : frameAtFrom p es k = none) : ∀ e ∈ es, ¬ (e.low ≤ p ∧ p ≤ e.high) := by
  induction es generalizing k with
  | nil => simp
  | cons e es ih =>
    rw [frameAtFrom] at h
    split at h
    · cases h
    · next outside => exact List.forall_mem_cons.mpr ⟨outside, ih h⟩

/-- The frame at the axis holds the position less the axis offset. -/
theorem frameAtAxis_some {n : Nat} {s : State} (h : frameAtAxis s = some n) : ∃ e, s.index.entries[n]? = some e ∧
    e.low + s.transport.profile.axisOffset ≤ s.transport.position ∧ s.transport.position ≤ e.high + s.transport.profile.axisOffset := by
  unfold frameAtAxis at h
  dsimp only at h
  split at h
  · cases h
  · obtain ⟨i, e, hn, held, low, high⟩ := frameAtFrom_some h
    rw [Nat.zero_add] at hn
    subst hn
    exact ⟨e, held, by omega, by omega⟩

theorem frameAtAxis_none {s : State} (h : frameAtAxis s = none) : ∀ e ∈ s.index.entries,
    s.transport.position < e.low + s.transport.profile.axisOffset ∨ e.high + s.transport.profile.axisOffset < s.transport.position := by
  intro e he
  unfold frameAtAxis at h
  dsimp only at h
  split at h
  · omega
  · have outside := frameAtFrom_none h e he
    omega

/-! ### Bytes -/

/-- The number of the job whose motion is current, 0 when it is no job's (R197). -/
def statusJob : Option Current → Nat
  | some { requester := .job n, .. } => n
  | _ => 0

theorem statusJob_job {o : Option Current} {c : Current} {n : Nat} (current : o = some c) (job : c.requester = .job n) :
    statusJob o = n := by
  subst current
  cases c
  cases job
  rfl

theorem statusJob_none {o : Option Current} (h : ∀ c, o = some c → ∀ n, c.requester ≠ .job n) : statusJob o = 0 := by
  rcases o with _ | c
  · rfl
  · obtain ⟨requester, _⟩ := c
    cases requester with
    | job n => exact absurd rfl (h _ rfl n)
    | tracker | transport | arbiter => rfl

theorem NoticeFlags.bits_eq (f : NoticeFlags) :
    f.bits = f.fault.toNat + 2 * f.rollState.toNat + 4 * f.indexProgress.toNat + 8 * f.dispute.toNat := by
  simp only [NoticeFlags.bits, bitsOf_cons, bitsOf_nil]
  ring

theorem levelsByte_eq (lv : Levels) :
    levelsByte lv = lv.filmPresent.toNat + 2 * lv.stop.toNat + 4 * lv.protectKey.toNat + 8 * lv.cameraReady.toNat := by
  simp only [levelsByte, bitsOf_cons, bitsOf_nil]
  ring

theorem holdsByte_eq (a : Arbiter) :
    holdsByte a = a.captureHold.toNat + 2 * a.searchHold.toNat + 4 * a.rollClaim.toNat + 8 * a.blocked.toNat := by
  simp only [holdsByte, bitsOf_cons, bitsOf_nil]
  ring

theorem Index.verifiedCount_eq (ix : Index) : ix.verifiedCount = ix.segments.countP (·.verified) :=
  List.countP_eq_length_filter.symm

theorem openOf_eq (l : LinkId) (s : State) : openOf l s = s.jobs.slots.countP fun j => j.isOpen && j.link == l :=
  List.countP_eq_length_filter.symm

theorem itemCount_eq (o : ItemOutcome) (is : List Item) : itemCount o is = is.countP fun i => i.outcome == o :=
  List.countP_eq_length_filter.symm

theorem wireCode_eq {α : Type} (code : α → Byte) (v : Option α) : wireCode code v = [(v.map code).getD 0x00] := rfl

/-- A signed offset in two bytes is its residue (R191). -/
theorem signed16_eq (z : Int) : signed16 z = wire 2 (z % 65536).toNat := by
  rw [signed16, wire_two, BitVec.toNat_ofInt]
  rfl

/-- end_frame as a number (R201). -/
def endFrameCode : Option EndFrame → Nat
  | none => 0xFFFF
  | some .rollEnd => 0xFFFE
  | some (.frame y) => y

theorem endFrameBytes_eq (e : Option EndFrame) : endFrameBytes e = wire 2 (endFrameCode e) := by
  rw [wire_two]
  unfold endFrameBytes
  split <;> rfl

/-! ### The kind part of a job's record (R201) -/

theorem kindPart_seek (t : Target) (r : Option Nat) (o : Option MoveOutcome) (f : Option Nat) (s : State) :
    kindPart (.seek t r o f) s = wireOpt 2 r ++ wireCode MoveOutcome.code o ++ wireOpt 3 f := by
  simp only [kindPart, wireOpt_two, wireOpt_three, wireCode_eq]

theorem kindPart_fetch (is : List Item) (s : State) : kindPart (.fetch is) s =
    ([.captured, .notFound, .missed, .failed, .cancelled] : List ItemOutcome).flatMap
        (fun o => wire 1 (is.countP fun i => i.outcome == o)) ++ wire 1 is.length ++
      is.flatMap fun i => [i.outcome.code] ++ wireOpt 2 i.resolved ++ wire 1 i.captures := by
  simp only [kindPart, itemCount_eq, List.flatMap_cons, List.flatMap_nil, wire_one, wireOpt_two, List.append_assoc, List.nil_append]

theorem kindPart_sweep (r : SweepRec) (s : State) : kindPart (.sweep r) s =
    wireOpt 2 r.fromFrame ++ wire 2 (endFrameCode r.endFrame) ++ wire 2 r.rangeSize ++ wire 2 r.captured ++
      wire 2 (r.rangeSize - r.captured) ++ wire 1 r.revisits ++ wireFlag r.overflow := by
  simp only [kindPart, endFrameBytes_eq, wire_one, wire_two, wireOpt_two, wireFlag_eq, List.append_assoc]

theorem kindPart_indexTo (t : Target) (f n p : Option Nat) (s : State) : kindPart (.indexTo t f n p) s =
    wireOpt 2 f ++ wire 2 (n.getD s.index.entries.length) ++ wire 3 (p.getD s.index.frontier) := by
  simp only [kindPart, Index.count, wireOpt_two, wire_two, wire_three]

/-- A sweep with a bound open, or with ROLL_END for its end, has no size yet (R201, log 21). -/
theorem rangeSize_unbounded {r : SweepRec} (h : r.fromFrame = none ∨ r.endFrame = none ∨ r.endFrame = some .rollEnd) :
    r.rangeSize = 0 := by
  unfold SweepRec.rangeSize
  rcases h with open_ | open_ | rollEnd
  · simp [open_]
  · simp [open_]
  · simp [rollEnd]

/-- What a job's record adds in GET_JOB (R201). -/
def recordTail (j : Job) (s : State) : List Byte :=
  match j.body with
  | .sweep r => opt16 r.nextFrame ++ be8 ((s.capture.revisitOf j.number).getD []).length
  | _ => []

theorem jobBytes_eq (j : Job) (s : State) : jobBytes j s =
    be8 j.number ++ [j.body.code, linkCode (some j.link), j.state.code, j.endReason.code] ++ kindPart j.body s ++ recordTail j s := by
  simp only [jobBytes, List.append_assoc] <;> rfl

end Sys2Proof.Machine

open Sys2Proof Sys2Proof.Machine

/-- Settles O22: each request reads its record; each record's fields, one by one, are those of the statement. -/
theorem recordsRead : Obligations.RecordsRead := by
  unfold Obligations.RecordsRead
  intro l tag lv job s
  refine ⟨fun listens => ⟨exec_getStatus listens tag lv, exec_getProfile listens tag, exec_getFocusMap listens tag,
      fun j named found => ?_, fun named none_ => ?_⟩,
    ⟨frameAtAxis s, statusJob s.arbiter.current, fun n => frameAtAxis_some, frameAtAxis_none,
      fun c current n job => statusJob_job current job, statusJob_none, ?_⟩,
    fun p => ?_, fun m => ?_, fun j => ⟨kindPart j.body s, recordTail j s, ?_, ?_, fun body => ?_, fun body => ?_, fun t r o f body => ?_,
      fun is body => ?_, fun r body => ?_, fun t f n p body => ?_⟩, fun r => ?_, ?_, ?_, ?_, ?_,
    rfl, rfl, rfl, rfl, rfl, rfl, rfl, rfl, rfl, rfl, rfl, rfl, rfl, rfl, rfl, fun _ => rfl, rfl, rfl, rfl, rfl, rfl, rfl, rfl, rfl⟩
  · rw [exec_getJob listens tag named, getJob, found]
  · rw [exec_getJob listens tag named, getJob, none_]
    rfl
  · unfold statusBytes
    dsimp only
    simp only [faultBytes, Index.count, Index.verifiedCount_eq, openOf_eq, NoticeFlags.bits_eq, levelsByte_eq,
      holdsByte_eq, wire_one, wire_two, wire_three, wireOpt_two, wireOpt_three, wireFlag_eq, wireCode_eq, List.append_assoc] <;> rfl
  · unfold profileBytes
    simp only [addressBytes, signed16_eq, wire_one, wire_two, wire_three, wireFlag_eq, List.append_assoc]
  · simp only [mapBytes, wire_one, wire_two, wire_three]
  · rw [jobBytes_eq, wire_one]
  · simp only [jobDoneBody, wire_one, List.append_assoc]
    rfl
  · rw [recordTail, body]
    exact ⟨rfl, rfl, rfl⟩
  · rw [recordTail, body]
    exact ⟨rfl, rfl, rfl⟩
  · rw [recordTail, body]
    exact ⟨rfl, rfl, kindPart_seek t r o f s⟩
  · rw [recordTail, body]
    exact ⟨rfl, rfl, kindPart_fetch is s⟩
  · rw [recordTail, body]
    refine ⟨rfl, by rw [wireOpt_two, wire_one], r.rangeSize, endFrameCode r.endFrame, kindPart_sweep r s, fun open_ => ?_,
      fun rollEnd => ?_, fun y frame => ⟨?_, fun x from_ => ?_⟩, rangeSize_unbounded⟩
    · rw [open_, endFrameCode]
    · rw [rollEnd, endFrameCode]
    · rw [frame, endFrameCode]
    · rw [SweepRec.rangeSize, from_, frame]
  · rw [recordTail, body]
    exact ⟨rfl, rfl, kindPart_indexTo t f n p s⟩
  · simp only [capturedBody, addressBytes, wire_one, wire_two, wire_three, List.append_assoc]
    rfl
  · simp only [noticeBody, faultBytes, wireFlag_eq, wireCode_eq, wireOpt_three, List.append_assoc]
    rfl
  · simp only [noticeBody, wireFlag_eq, wire_three, wireOpt_three, List.append_assoc]
    rfl
  · simp only [noticeBody, Index.count, Index.verifiedCount_eq, wire_one, wire_two, wire_three, List.append_assoc]
    rfl
  · simp only [noticeBody, wire_one, wire_two, wireOpt_two, List.append_assoc]
    rfl

end

section
/-! SUPPORT. A link in break hears of nothing, and a job stays its link's: one lemma per operation of a cancel (R154, R181, R183, R189). -/

namespace Sys2Proof.Machine

/-- The link units that are in break, and the numbers of the jobs in slots with their links. -/
structure Severed where
  units  : LinkId → Option LinkUnit
  owners : List (Nat × LinkId)

/-- What the cancel of a job keeps of the links in break and of the other jobs. -/
def State.severed (s : State) : Severed where
  units l := if (s.link l).receiver = .brk then some (s.link l) else none
  owners  := s.jobs.slots.map fun j => (j.number, j.link)

/-! ### Updates of one block -/

@[simp] theorem onTransport_severed (f : Transport → Transport) (s : State) : (s.onTransport f).severed = s.severed := rfl
@[simp] theorem onTracker_severed (f : Tracker → Tracker) (s : State) : (s.onTracker f).severed = s.severed := rfl
@[simp] theorem onIndex_severed (f : Index → Index) (s : State) : (s.onIndex f).severed = s.severed := rfl
@[simp] theorem onFocus_severed (f : Focus → Focus) (s : State) : (s.onFocus f).severed = s.severed := rfl
@[simp] theorem onCapture_severed (f : Capture → Capture) (s : State) : (s.onCapture f).severed = s.severed := rfl
@[simp] theorem onArbiter_severed (f : Arbiter → Arbiter) (s : State) : (s.onArbiter f).severed = s.severed := rfl

/-- A change of a unit that passes over a unit in break and puts no other in it. -/
theorem units_onLink {l : LinkId} {f : LinkUnit → LinkUnit} {s : State} (brk : (s.link l).receiver = .brk → f (s.link l) = s.link l)
    (listening : (s.link l).receiver ≠ .brk → (f (s.link l)).receiver ≠ .brk) : (s.onLink l f).severed = s.severed := by
  have units : (s.onLink l f).severed.units = s.severed.units := by
    funext m
    by_cases same : m = l
    · subst same
      by_cases broken : (s.link m).receiver = .brk
      · simp [State.severed, brk broken]
      · simp [State.severed, broken, listening broken]
    · simp [State.severed, State.link_onLink_other l m f s same]
  exact congrArg (fun x => ({ units := x, owners := s.severed.owners } : Severed)) units

/-- A raise passes over a link in break (R189). -/
@[simp] theorem raise_severed (k : NoticeKind) (s : State) : (raise k s).severed = s.severed := by
  have units : (raise k s).severed.units = s.severed.units := by
    funext l
    by_cases broken : (s.link l).receiver = .brk <;> simp [State.severed, raise_link, LinkUnit.raise, broken]
  exact congrArg (fun x => ({ units := x, owners := s.severed.owners } : Severed)) units

/-- A change of a job's record that keeps its number and its link. -/
theorem modifyJob_severed (n : Nat) {f : Job → Job} (h : ∀ j, (f j).number = j.number ∧ (f j).link = j.link) (s : State) :
    (modifyJob n f s).severed = s.severed := by
  have owner (j : Job) : (fun j => (j.number, j.link)) (if j.number = n then f j else j) = (j.number, j.link) := by
    dsimp only
    split
    · rw [(h j).1, (h j).2]
    · rfl
  have owners : (modifyJob n f s).severed.owners = s.severed.owners := by
    simp only [State.severed, modifyJob, State.onJobs_jobs, List.map_map]
    exact List.map_congr_left fun j _ => owner j
  exact congrArg (fun x => ({ units := s.severed.units, owners := x } : Severed)) owners

/-! ### Operations -/

@[simp] theorem enterState_severed (st : TransportState) (s : State) : (enterState st s).severed = s.severed := by
  unfold enterState; split <;> simp
@[simp] theorem putReference_severed (r : Reference) (s : State) : (putReference r s).severed = s.severed := by
  unfold putReference; split <;> simp
@[simp] theorem putRollEnd_severed (e : Option Nat) (s : State) : (putRollEnd e s).severed = s.severed := by
  unfold putRollEnd; split <;> simp
@[simp] theorem putBroken_severed (v : Bool) (s : State) : (putBroken v s).severed = s.severed := by unfold putBroken; split <;> simp
@[simp] theorem putLeaderMissing_severed (v : Bool) (s : State) : (putLeaderMissing v s).severed = s.severed := by
  unfold putLeaderMissing; split <;> simp
@[simp] theorem slacken_severed (s : State) : (slacken s).severed = s.severed := rfl
@[simp] theorem driveOff_severed (s : State) : (driveOff s).severed = s.severed := rfl
@[simp] theorem stopMove_severed (s : State) : (stopMove s).severed = s.severed := by unfold stopMove; (repeat' split) <;> simp
@[simp] theorem disarm_severed (s : State) : (disarm s).severed = s.severed := rfl
@[simp] theorem disarmRun_severed (c : Current) (s : State) : (disarmRun c s).severed = s.severed := by
  unfold disarmRun; split <;> simp
@[simp] theorem clearCurrent_severed (s : State) : (clearCurrent s).severed = s.severed := rfl
@[simp] theorem askStop_severed (why : StopCause) (s : State) : (askStop why s).severed = s.severed := by
  unfold askStop; (repeat' split) <;> simp
@[simp] theorem dropCurrent_severed (s : State) : (dropCurrent s).severed = s.severed := by
  unfold dropCurrent; (repeat' split) <;> simp
@[simp] theorem withdraw_severed (r : Requester) (s : State) : (withdraw r s).severed = s.severed := by
  unfold withdraw; dsimp only; split <;> simp
@[simp] theorem suspendTest_severed (s : State) : (suspendTest s).severed = s.severed := by
  unfold suspendTest; (repeat' split) <;> simp
@[simp] theorem yieldTest_severed (s : State) : (yieldTest s).severed = s.severed := by unfold yieldTest; (repeat' split) <;> simp
@[simp] theorem submit_severed (r : Requester) (cls : QClass) (k : QKind) (frame : Option Nat) (s : State) :
    (submit r cls k frame s).severed = s.severed := by
  unfold submit; dsimp only; (repeat' split) <;> simp
@[simp] theorem abandonSearch_severed (s : State) : (abandonSearch s).severed = s.severed := by unfold abandonSearch; split <;> simp
@[simp] theorem setMode_severed (m : TrackerMode) (s : State) : (setMode m s).severed = s.severed := by
  unfold setMode newPass leaveIndexing; (repeat' split) <;> simp
@[simp] theorem withdrawRescan_severed (s : State) : (withdrawRescan s).severed = s.severed := by
  unfold withdrawRescan; split <;> simp
@[simp] theorem stopForLoss_severed (s : State) : (stopForLoss s).severed = s.severed := by
  unfold stopForLoss; (repeat' split) <;> simp
@[simp] theorem askReference_severed (s : State) : (askReference s).severed = s.severed := by
  unfold askReference setBlocked; dsimp only; (repeat' split) <;> simp
@[simp] theorem setReference_severed (r : Reference) (s : State) : (setReference r s).severed = s.severed := by
  unfold setReference loseReference setBlocked
  dsimp only
  (repeat' split) <;> simp
@[simp] theorem clearInternal_severed (s : State) : (clearInternal s).severed = s.severed := by simp [clearInternal, setBlocked]
@[simp] theorem clearSequencer_severed (s : State) : (clearSequencer s).severed = s.severed := by
  unfold clearSequencer release setCaptureHold; dsimp only; split <;> simp
@[simp] theorem emptyIndex_severed (s : State) : (emptyIndex s).severed = s.severed := by
  unfold emptyIndex trimLastMiss; dsimp only; split <;> simp
@[simp] theorem clearContents_severed (s : State) : (clearContents s).severed = s.severed := by simp [clearContents]

/-- JOB_DONE is not queued on a link in break (R183). -/
@[simp] theorem queueJobDone_severed (l : LinkId) (n : Nat) (s : State) : (queueJobDone l n s).severed = s.severed :=
  units_onLink (fun brk => if_pos brk) fun listening => by rwa [if_neg listening]

@[simp] theorem endJob_severed (n : Nat) (st : JobState) (why : EndReason) (s : State) : (endJob n st why s).severed = s.severed := by
  have closed : (jobClosed n st why s).severed = s.severed :=
    (withdraw_severed _ _).trans (modifyJob_severed n (f := Job.closed st why s) (fun _ => ⟨rfl, rfl⟩) s)
  cases found : openJob n s with
  | none => rw [endJob, found]
  | some j =>
    rw [endJob_open found, queueJobDone_severed]
    split <;> exact closed

@[simp] theorem loseRoll_severed (n : Nat) (s : State) : (loseRoll n s).severed = s.severed := by
  unfold loseRoll; (repeat' split) <;> simp
@[simp] theorem enterEmpty_severed (s : State) : (enterEmpty false s).severed = s.severed := by
  rw [enterEmpty_false]
  refine Eq.trans ?_ (foldl_keeps State.severed (fun s n => loseRoll_severed n s) (jobNumbers s) s)
  simp [contentsEmptied, emptyTracker, workEnded, stopWork]
@[simp] theorem cancelRollWork_severed (s : State) : (cancelRollWork s).severed = s.severed := by
  unfold cancelRollWork endSearch stopWork; split <;> simp
@[simp] theorem dropCaptures_severed (n : Nat) (s : State) : (dropCaptures n s).severed = s.severed := by
  unfold dropCaptures release setCaptureHold; dsimp only; (repeat' split) <;> simp
@[simp] theorem modifyItems_severed (n : Nat) (f : List Item → List Item) (s : State) : (modifyItems n f s).severed = s.severed := by
  rw [modifyItems_eq]
  exact modifyJob_severed n (fun j => ⟨(j.mapItems_keeps f).1, (j.mapItems_keeps f).2.1⟩) s

/-- The cancel of a job tells a link in break nothing and takes no job from its link. -/
@[simp] theorem cancelWork_severed (j : Job) (s : State) : (cancelWork j s).severed = s.severed := by
  unfold cancelWork; dsimp only; split <;> simp

end Sys2Proof.Machine
end

section
/-! PROOFS. A link break and its end (R65, R106, R157, R188, R190). -/

namespace Sys2Proof.Machine

/-- A link in break is told nothing by what keeps the units in break. -/
theorem link_of_severed {l : LinkId} {s t : State} (h : t.severed.units = s.severed.units) (brk : (s.link l).receiver = .brk) :
    t.link l = s.link l := by
  have unit := congrFun h l
  simp only [State.severed, brk, if_true] at unit
  split at unit
  · exact Option.some.inj unit
  · cases unit

/-! ### The jobs of the link (R157) -/

section
variable (l : LinkId) (n : Nat) (s : State)

/-- What the cancel of an open job, before its slot is freed, keeps. -/
theorem cancelOpen_severed (j : Job) : (if j.isOpen then cancelWork j s else s).severed = s.severed := by split <;> simp

theorem freeSlot_units : (freeSlot n s).severed.units = s.severed.units := rfl

theorem breakJob_units : (breakJob l n s).severed.units = s.severed.units := by
  unfold breakJob
  split
  · rfl
  · split
    · rw [freeSlot_units, cancelOpen_severed]
    · rfl

theorem breakJob_fault : (breakJob l n s).fault = s.fault := by
  unfold breakJob
  (repeat' split)
  · rfl
  · exact cancelWork_fault _ s
  · rfl
  · rfl

theorem freeSlot_owners : (freeSlot n s).severed.owners = s.severed.owners.filter fun x => x.1 != n := by
  simp only [State.severed, freeSlot, State.onJobs_jobs, List.filter_map]
  rfl

variable {l n s}

/-- A job that is found by its number is the only one under it. -/
theorem owner_of_findJob {j : Job} {k : LinkId} (distinct : (jobNumbers s).Nodup) (found : findJob n s = some j)
    (own : (n, k) ∈ s.severed.owners) : k = j.link := by
  obtain ⟨i, held, same⟩ := List.mem_map.mp own
  obtain ⟨number, rfl⟩ := Prod.mk.inj same
  have found' : j.number = n := by simpa using List.find?_some found
  rw [List.inj_on_of_nodup_map distinct (List.mem_of_find?_eq_some found) held (found'.trans number.symm)]

theorem breakJob_sublist : (breakJob l n s).severed.owners.Sublist s.severed.owners := by
  unfold breakJob
  split
  · exact .refl _
  · next j _ =>
    split
    · rw [freeSlot_owners, cancelOpen_severed]
      exact List.filter_sublist
    · exact .refl _

theorem jobNumbers_eq_owners (s : State) : jobNumbers s = s.severed.owners.map Prod.fst := by
  simp [jobNumbers, State.severed, Function.comp_def]

theorem breakJob_distinct (distinct : (jobNumbers s).Nodup) : (jobNumbers (breakJob l n s)).Nodup := by
  rw [jobNumbers_eq_owners] at *
  exact distinct.sublist (breakJob_sublist.map _)

/-- A job of the link is not left in its slot. -/
theorem breakJob_frees (distinct : (jobNumbers s).Nodup) : (n, l) ∉ (breakJob l n s).severed.owners := by
  unfold breakJob
  split
  · next none_ =>
    intro own
    obtain ⟨i, held, same⟩ := List.mem_map.mp own
    have other := List.find?_eq_none.mp none_ i held
    exact other (beq_iff_eq.mpr (Prod.mk.inj same).1)
  · next j found =>
    split
    · rw [freeSlot_owners]
      simp
    · next other => exact fun own => other (owner_of_findJob distinct found own).symm

/-- Of the numbers gone through, none is that of a job of the link any more. -/
theorem foldl_breakJob_owners {ns : List Nat} {k : LinkId} {m : Nat} (distinct : (jobNumbers s).Nodup)
    (own : (m, k) ∈ (ns.foldl (fun acc n => breakJob l n acc) s).severed.owners) :
    (m, k) ∈ s.severed.owners ∧ (m ∈ ns → k ≠ l) := by
  induction ns generalizing s with
  | nil => exact ⟨own, nofun⟩
  | cons n ns ih =>
    obtain ⟨held, freed⟩ := ih (breakJob_distinct distinct) own
    refine ⟨breakJob_sublist.subset held, fun gone => ?_⟩
    rcases List.mem_cons.mp gone with rfl | later
    · rintro rfl
      exact breakJob_frees distinct held
    · exact freed later

end

/-! ### The break (R188) -/

/-- The break of a link up to the end of the step. -/
def breakBegun (l : LinkId) (s : State) : State :=
  forgetVerifier l (markDropped l ((jobNumbers s).foldl (fun acc n => breakJob l n acc) (s.onLink l LinkUnit.broken)))

theorem exec_linkBreak {l : LinkId} {s : State} (listening : (s.link l).receiver ≠ .brk) :
    exec (.linkBreak l) s = .next (settle (breakBegun l s)) := by
  simp only [exec, execLinkBreak, beginBreak, if_neg listening]
  rfl

section
variable (l : LinkId) (s : State)

theorem breakBegun_unit : (breakBegun l s).link l = (s.link l).broken := by
  have broken : ((s.onLink l LinkUnit.broken).link l) = (s.link l).broken := State.link_onLink_same _ _ _
  rw [← broken]
  refine link_of_severed ?_ (by rw [broken]; rfl)
  exact foldl_keeps (fun s => s.severed.units) (fun s n => breakJob_units l n s) _ _

theorem breakBegun_fault : (breakBegun l s).fault = s.fault :=
  foldl_keeps State.fault (fun s n => breakJob_fault l n s) (jobNumbers s) (s.onLink l LinkUnit.broken)

/-- A record of the link in the ring has its drop mark (R106). -/
theorem breakBegun_ring : ∀ r ∈ (breakBegun l s).capture.ring, r.link = l → r.drop = true := by
  intro r held own
  obtain ⟨r0, -, rfl⟩ := List.mem_map.mp held
  split at own
  · next same => simp [same]
  · next other => exact absurd own other

/-- No segment names the link as the one that verified it (R65). -/
theorem breakBegun_segments : ∀ sg ∈ (breakBegun l s).index.segments, sg.link ≠ some l := by
  intro sg held
  obtain ⟨sg0, -, rfl⟩ := List.mem_map.mp held
  split
  · exact nofun
  · next other => exact other

/-- No slot is held by a job of the link (R157). -/
theorem breakBegun_jobs (distinct : (jobNumbers s).Nodup) : ∀ j ∈ (breakBegun l s).jobs.slots, j.link ≠ l := by
  intro j held
  have own : (j.number, j.link) ∈
      ((jobNumbers s).foldl (fun acc n => breakJob l n acc) (s.onLink l LinkUnit.broken)).severed.owners :=
    List.mem_map.mpr ⟨j, held, rfl⟩
  obtain ⟨before, freed⟩ := foldl_breakJob_owners (s := s.onLink l LinkUnit.broken) distinct own
  obtain ⟨i, there, same⟩ := List.mem_map.mp before
  exact freed (List.mem_map.mpr ⟨i, there, congrArg Prod.fst same⟩)

end

end Sys2Proof.Machine

open Sys2Proof Sys2Proof.Machine

/-- Settles O15: the unit stays as the break made it, the jobs of the link lose their slots one by one, and the end of the break puts the
receiver in HUNT. -/
theorem linkBreaks : Obligations.LinkBreaks := by
  unfold Obligations.LinkBreaks
  intro l s ⟨_, distinct, _⟩
  refine ⟨fun listening => ⟨breakBegun l s, exec_linkBreak listening, ?_⟩, fun brk => ?_⟩
  · have unit := breakBegun_unit l s
    dsimp only
    rw [unit]
    exact ⟨rfl, rfl, rfl, rfl, rfl, rfl, rfl, rfl, rfl, breakBegun_jobs l s distinct, breakBegun_ring l s, breakBegun_segments l s,
      breakBegun_fault l s⟩
  · have ends : endBreak l s = s.onLink l fun u => { u with receiver := .hunt, sessionRestarted := true } := if_pos brk
    have only : OnlyLinks s (endBreak l s) := by rw [ends]; exact onLink_only l _ s
    refine ⟨serviceLinks (endBreak l s), rfl, only.trans (serviceLinks_only _), ?_⟩
    rw [serviceLinks_link_same, ends, State.link_onLink_same]
    exact ⟨rfl, rfl, rfl, rfl, rfl, rfl⟩

end

section
/-! PROOFS. The body of every request, read back (R192 to R194, R199). -/

open Sys2Proof Sys2Proof.Machine

/-- Settles O11: each layout is read in the order it is written, kind by kind, and nothing is left over; a FETCH of 35 items, which its
count byte can still say, has the longest body. -/
theorem requestBodyRoundTrip : Obligations.RequestBodyRoundTrip := by
  unfold Obligations.RequestBodyRoundTrip
  exact fun r tag few => ⟨readBody_body tag few, body_length tag few⟩

end

section
/-! PROOFS. The two cases of a step: a command at the front of the queue, and an empty queue (log 4). -/

namespace Sys2Proof.Machine

@[simp] theorem State.withPending_pending (q : List Instr) (s : State) : (s.withPending q).pending = q := rfl

/-- The last queue put in place is the one that waits. -/
@[simp] theorem State.withPending_withPending (q r : List Instr) (s : State) :
    (s.withPending q).withPending r = s.withPending r := rfl

theorem step_of_pending_cons {s : State} {c : Instr} {rest : List Instr} (waits : s.pending = c :: rest) :
    step s = exec c (s.withPending rest) := by
  rw [step, waits]

theorem step_of_pending_nil {s : State} (idle : s.pending = []) : step s = .next s := by
  rw [step, idle]

end Sys2Proof.Machine

open Sys2Proof Sys2Proof.Machine

/-- Settles O1: the queue decides which of the two cases the step is, and taking the front command puts the rest in the whole queue's
place. -/
theorem stepRunsFront : Obligations.StepRunsFront := by
  unfold Obligations.StepRunsFront
  intro c rest s
  constructor
  · rw [step_of_pending_cons (State.withPending_pending (c :: rest) s), State.withPending_withPending]
  · exact step_of_pending_nil (State.withPending_pending [] s)

end
